-- ==== Sys2Proof/Word.lean ====
section
/-!
DEFINITION. The plain types every other file uses: a byte, the numbers of cranes, stations, aisles and station positions.
-/
namespace Sys2Proof

/-- One byte of an SPI frame (R157). -/
abbrev Byte := BitVec 8

/-- A crane number 0..3; also a station number, since station k is served by crane k (R21). -/
abbrev Crane := Fin 4

/-- An aisle number 0..1 (R3). -/
abbrev Aisle := Fin 2

/-- One of the two places at a station where a bin can stand (R21). -/
abbrev Pos := Fin 2

end Sys2Proof
end

