-- ==== Sys2Proof/Syntax.lean ====
section
/-!
DEFINITION. The commands of the W46: one constructor of `Instr` for each row of spec/opcode_table.json.
-/
namespace Sys2Proof

/-- The five SPI target ports (R152). -/
inductive Port where
  | c
  | k (crane : Crane)
  deriving DecidableEq, Repr

/-- The three fire lines (R124). -/
inductive FireLine where
  | fire0
  | fire1
  | fireW
  deriving DecidableEq, Repr

/-- The two position inputs of a station shutter (R125). -/
inductive ShutterInput where
  | openInput
  | closedInput
  deriving DecidableEq, Repr

/-- The levels of one crane's lines at the end of a reset (R86). -/
structure CranePins where
  a : Bool
  b : Bool
  ref : Bool
  fork : Bool
  deriving DecidableEq, Repr

/-- The levels of one station's shutter inputs at the end of a reset (R125). -/
structure ShutterPins where
  openIn : Bool
  closedIn : Bool
  deriving DecidableEq, Repr

/-- The input levels that the device takes at the end of a reset: the encoder, REF and FORK lines
(R86), whether each fire line is active (R124) and the shutter inputs (R125). -/
structure Pins where
  cranes : Vector CranePins 4
  fire0 : Bool
  fire1 : Bool
  fireW : Bool
  shutters : Vector ShutterPins 4
  deriving DecidableEq, Repr

/-- The commands. A request row is the owning block's take of the request in flight at its port
(R154); the request's fields are in that request's body (R158). -/
inductive Instr where
  | resetAssert
  | resetRelease (pins : Pins)
  | transactionStart (p : Port)
  | transactionEnd (p : Port) (bytes : List Byte)
  | readNotices (p : Port)
  | setMask (p : Port)
  | configure
  | loadLane
  | loadStation
  | openWing
  | registerBin
  | removeBin
  | queryBin
  | queryLane
  | station
  | claim
  | pick
  | count
  | release
  | cancel
  | queryClaim
  | queryClaimItems
  | changedClaims
  | place
  | searchVisit
  | passCompletion
  | queryPlace
  | sweep
  | sweepVisit
  | querySweep
  | cancelSweep
  | setLaneKeys
  | queryCraneTask
  | queryCraneChannel
  | queryCraneRail
  | queryCraneFire
  | resumeAisle
  | wingRestart
  | nextStep (k : Crane)
  | picked (k : Crane)
  | setDown (k : Crane)
  | grant (k : Crane)
  | arrived (k : Crane)
  | driveFault (k : Crane)
  | restart (k : Crane)
  | queryRailChannel (k : Crane)
  | queryRailRail (k : Crane)
  | encoderTransition (k : Crane) (a b : Bool)
  | referenceEdge (k : Crane) (level : Bool)
  | forkEdge (k : Crane) (level : Bool)
  | windowEnd (k : Crane)
  | linkExpiry (k : Crane)
  | dwellExpiry (id : Nat)
  | fireLineSettled (line : FireLine) (active : Bool)
  | shutterInputSettled (k : Crane) (input : ShutterInput) (level : Bool)
  | shutterHoldExpiry (a : Aisle)
  | shutterConfirmExpiry (a : Aisle)
  deriving DecidableEq, Repr

end Sys2Proof
end

