-- ==== Sys2Proof/Decode.lean ====
section
/-!
DEFINITION. The command that a word spells by the bits of spec/opcode_table.json. No row of the table of this block gives
bits, so no word spells a command. Request frames (R157, R158) are read in Machine/Operands.lean.
-/
namespace Sys2Proof

/-- The command spelt by a word of the opcode table: none, because no row gives bits. -/
def decodeTableWord (_nbits _w : Nat) : Option Instr := none

end Sys2Proof
end

