-- ==== Sys2Proof/Machine/State.lean ====
section
/-!
DEFINITION. The state of the W46 as plain data: every record of the manual's chapters, the queue of waiting commands, the
reasons a step can stop, and the state right after reset.
-/
namespace Sys2Proof.Machine

/-- The reasons the machine can stop with a fault. There are none: every failure the manual
describes is an effect on its records, taken as a next state. -/
inductive Fault where
  deriving DecidableEq, Repr

/-- The reasons a command can be refused. -/
inductive Refusal where
  /-- Raised by `exec` alone, for a command that has no meaning yet; safe. No command of this model
  raises it. -/
  | notModelled (mnemonic : String)
  deriving DecidableEq, Repr

/-- A keyed table: (number, record) pairs with strictly rising numbers. A number that is not listed
has no record (bins, claims, tasks) or the reset record (lanes). -/
structure Table (α : Type) where
  entries : List (Nat × α)
  deriving DecidableEq, Repr

/-! ### Directory (Chapter 1) -/

/-- The wing state (R1). -/
inductive WingState where
  | loading
  | opened
  deriving DecidableEq, Repr

/-- A lane record (R4). -/
structure Lane where
  key : Nat
  depth : Nat
  contents : List Nat
  incoming : Nat
  deriving DecidableEq, Repr

/-- The place of a present bin (R7). The depth of a STORED bin is its place in the lane's contents. -/
inductive BinPlace where
  | stored (lane : Nat)
  | onCrane (k : Crane)
  | atStation (k : Crane) (pos : Pos)
  deriving DecidableEq, Repr

/-- The record of a present bin (R7). An ABSENT bin is not listed in the bin table. -/
structure Bin where
  place : BinPlace
  key : Nat
  fill : Nat
  reserved : Nat
  reference : Bool
  change : Bool
  anomaly : Bool
  chain : List Nat
  deriving DecidableEq, Repr

/-! ### Stations and claims (Chapter 2) -/

/-- A station's staff setting (R21). -/
inductive Staff where
  | opened
  | closed
  deriving DecidableEq, Repr

/-- A station's state (R21). -/
inductive StationState where
  | opened
  | closed
  | shuttered
  deriving DecidableEq, Repr

/-- A station record (R21). -/
structure Station where
  state : StationState
  staff : Staff
  keyMask : BitVec 8
  bins : Vector (Option Nat) 2
  promises : Vector (Option Nat) 2
  deriving DecidableEq, Repr

/-- The kinds of claim (R25). -/
inductive ClaimKind where
  | lend
  | ret
  | audit
  deriving DecidableEq, Repr

/-- The states of a claim (R25); the last three are final. -/
inductive ClaimState where
  | queued
  | fetching
  | presented
  | held
  | done
  | cancelled
  | expired
  deriving DecidableEq, Repr

/-- The outcomes of an item (R25). -/
inductive ItemOutcome where
  | pending
  | taken
  | absent
  | notCollected
  | placed
  | withdrawn
  deriving DecidableEq, Repr

/-- An entry of a claim's item list (R25). -/
structure Item where
  number : BitVec 32
  units : Nat
  outcome : ItemOutcome
  deriving DecidableEq, Repr

/-- A claim (R25). -/
structure Claim where
  kind : ClaimKind
  urgent : Bool
  cls : Nat
  bin : Nat
  station : Crane
  state : ClaimState
  created : Nat
  presented : Option Nat
  dwell : Nat
  items : List Item
  unseen : Bool
  task : Option Nat
  deriving DecidableEq, Repr

/-! ### Placement engine (Chapter 3) -/

/-- The states of the search context (R51). -/
inductive SearchState where
  | idle
  | running
  | complete
  deriving DecidableEq, Repr

/-- The PLACE being served (R51). -/
structure PlaceRequest where
  station : Crane
  units : Nat
  key : Nat
  item : BitVec 32
  deriving DecidableEq, Repr

/-- The cost weights (R46). -/
structure Weights where
  travel : Nat
  level : Nat
  depth : Nat
  deriving DecidableEq, Repr

/-- Why a search ended without a place (R56). -/
inductive NoPlaceReason where
  | closed
  | full
  | contended
  | tableFull
  deriving DecidableEq, Repr

/-- The result of a search (R55, R56): no reason means outcome PLACED; `appended` is the marker that
says whether the item was appended or a new claim was created. -/
structure PlaceResult where
  reason : Option NoPlaceReason
  bin : Option Nat
  claim : Option Nat
  cost : Option Nat
  appended : Option Bool
  deriving DecidableEq, Repr

/-- The search context (R51). -/
structure Search where
  state : SearchState
  request : Option PlaceRequest
  pass : Nat
  cursor : Nat
  best : Option (Nat × Nat)
  weights : Weights
  result : Option PlaceResult
  deriving DecidableEq, Repr

/-! ### Task unit (Chapter 4) -/

/-- The kinds of task (R60). -/
inductive TaskKind where
  | fetch
  | stow
  | relocate
  | park
  | home
  deriving DecidableEq, Repr

/-- The states of a task (R60). DONE is not held: a completed task's entry is freed in the same step. -/
inductive TaskState where
  | queued
  | blocked
  | active
  | suspended
  deriving DecidableEq, Repr

/-- The reasons a task is BLOCKED (R60). -/
inductive BlockReason where
  | stationFull
  | noRoom
  | aisleClosed
  | quiesce
  deriving DecidableEq, Repr

/-- The steps of a task (R60). -/
inductive TaskStep where
  | relocPick
  | relocSet
  | pick
  | set
  | travel
  deriving DecidableEq, Repr

/-- Where a task's own bin is picked (R60). -/
inductive Source where
  | lane (i : Nat)
  | station (pos : Pos)
  deriving DecidableEq, Repr

/-- Where a bin is set down, or where a PARK or HOME travels (R60). -/
inductive Dest where
  | lane (i : Nat)
  | station (pos : Pos)
  | rail (mm : Int)
  deriving DecidableEq, Repr

/-- A redirection of the current step to the crane's station (R78): the claim it serves (none once
that claim was cancelled, R39), the promised position, and whether the slot in the planned lane is
still kept. -/
structure Redirect where
  claim : Option Nat
  pos : Pos
  kept : Bool
  deriving DecidableEq, Repr

/-- A task (R60). `dig` keeps the whole plan; the entries not yet finished are its last `digLeft`.
`dest` keeps the planned destination under a redirection. -/
structure Task where
  crane : Crane
  kind : TaskKind
  cls : Nat
  admitted : Nat
  bin : Option Nat
  source : Option Source
  dest : Option Dest
  claim : Option Nat
  dig : List (Nat × Nat)
  digLeft : Nat
  hold : Nat
  redirect : Option Redirect
  state : TaskState
  block : Option BlockReason
  step : TaskStep
  yield : Option Int
  deriving DecidableEq, Repr

/-- The change of a crane's step that its master has not yet been given (R77). -/
inductive Undelivered where
  | none
  | push
  | parkPush
  | removed
  | redirect
  deriving DecidableEq, Repr

/-- A crane task record (R61); the stack's top stands first. -/
structure CraneTasks where
  queue : List Nat
  stack : List Nat
  active : Option Nat
  standingYield : Option Int
  undelivered : Undelivered
  roomRefusal : Bool
  lastCompleted : Option (Nat × TaskKind)
  deriving DecidableEq, Repr

/-! ### Position channels (Chapter 5) -/

/-- The states of a channel (R86). -/
inductive ChannelState where
  | uncalibrated
  | calibrated
  | faulted
  deriving DecidableEq, Repr

/-- The causes of a channel fault (R86). -/
inductive ChannelFault where
  | none
  | quadrature
  | implausible
  | slip
  | reconfigured
  deriving DecidableEq, Repr

/-- A fork capture (R96). -/
structure Capture where
  pos : Int
  valid : Bool
  deriving DecidableEq, Repr

/-- The direction measured over a window (R98). -/
inductive Direction where
  | east
  | west
  | none
  deriving DecidableEq, Repr

/-- A stretch of rail, both edges in it (R104). -/
structure Span where
  west : Int
  east : Int
  deriving DecidableEq, Repr

/-- A position channel record (R86), with its window timer (R99), the window envelope (R104) and the
levels of REF and FORK. -/
structure Channel where
  state : ChannelState
  fault : ChannelFault
  phaseA : Bool
  phaseB : Bool
  counter : BitVec 32
  pick : Capture
  setDown : Capture
  speed : Nat
  direction : Direction
  prev : BitVec 32
  deviation : Option Nat
  windowLen : Nat
  windowLeft : Nat
  envelope : Option Span
  refLevel : Bool
  forkLevel : Bool
  deriving DecidableEq, Repr

/-! ### Rail units (Chapter 6) -/

/-- The crane states (R105, R106). -/
inductive CraneState where
  | offline
  | unhomed
  | ready
  | silent
  | lost
  | stopped
  | parked
  deriving DecidableEq, Repr

/-- The state a SILENT crane returns to (R105). -/
inductive SilentFrom where
  | ready
  | unhomed
  deriving DecidableEq, Repr

/-- Why a crane last entered OFFLINE, STOPPED or LOST (R105). -/
inductive StopCause where
  | none
  | powerOn
  | channel
  | overrun
  | mismatch
  | drive
  | link
  | fire
  deriving DecidableEq, Repr

/-- A reservation in one of its three forms (R108). HOME_SIDE holds its limit X; its home edge is the
rail end as it stands. -/
inductive Reservation where
  | calibrated (span : Span)
  | homeSide (x : Int)
  | frozen (span : Span)
  deriving DecidableEq, Repr

/-- A travel target and a speed: a granted travel or a pending grant (R105). -/
structure Travel where
  target : Int
  speed : Nat
  deriving DecidableEq, Repr

/-- A crane's rail record (R105). -/
structure Rail where
  state : CraneState
  silentFrom : Option SilentFrom
  stopCause : StopCause
  driveFault : Byte
  fireHold : Bool
  reservation : Reservation
  granted : Option Travel
  pending : Option Travel
  pendingSince : Nat
  linkArmed : Bool
  linkLeft : Nat
  deriving DecidableEq, Repr

/-! ### Fire sequencers (Chapter 7) -/

/-- The fire states of an aisle (R126). -/
inductive FireState where
  | normal
  | parking
  | closing
  | sealed
  | reopening
  deriving DecidableEq, Repr

/-- A countdown timer in ms (R126). -/
structure Timer where
  running : Bool
  left : Nat
  deriving DecidableEq, Repr

/-- The aisle part of an aisle fire record (R126). -/
structure Fire where
  state : FireState
  hold : Timer
  confirm : Timer
  deriving DecidableEq, Repr

/-- The station part of an aisle fire record (R126), with the debounced shutter inputs (R125). -/
structure Shutter where
  planeClear : Bool
  holdOpen : Bool
  fault : Bool
  openIn : Bool
  closedIn : Bool
  deriving DecidableEq, Repr

/-- Which fire lines are active, debounced (R124). -/
structure FireLines where
  fire0 : Bool
  fire1 : Bool
  fireW : Bool
  deriving DecidableEq, Repr

/-! ### Audit unit (Chapter 8) -/

/-- The states of the sweep context (R142). -/
inductive SweepState where
  | none
  | running
  | paused
  | done
  deriving DecidableEq, Repr

/-- An entry of the result buffer (R142). -/
structure SweepEntry where
  bin : Nat
  reference : Bool
  change : Bool
  anomaly : Bool
  fill : Nat
  deriving DecidableEq, Repr

/-- The sweep context (R142). -/
structure Sweep where
  state : SweepState
  first : Nat
  last : Nat
  cursor : Nat
  visited : Nat
  reported : Nat
  buffer : List SweepEntry
  deriving DecidableEq, Repr

/-! ### Ports and notices (Chapters 9 and 10) -/

/-- The request kinds (R158). -/
inductive Kind where
  | null | readNotices | setMask
  | configure | loadLane | loadStation | openWing | registerBin | removeBin
  | claim | pick | count | release | cancel | place | queryPlace
  | queryBin | queryLane | queryClaim | changedClaims | queryCrane
  | station | setLaneKeys | sweep | querySweep | cancelSweep | resumeAisle | wingRestart
  | nextStep | grant | arrived | picked | setDown | driveFault | restart | queryRail
  deriving DecidableEq, Repr

/-- The status codes (R159). -/
inductive Status where
  | ok | accepted | clamped | partly | held | notReady | badFrame | notPermitted
  | wingState | noSuch | duplicate | busy | tableFull | keyDenied | aisleClosed | stationClosed
  | wrongAisle | noRoom | outOfRange | mismatch | moving | notCalibrated | fireActive | doneAlready
  deriving DecidableEq, Repr

/-- A response frame (R157): status, the echoes of kind and tag, and the body. -/
structure Response where
  status : Status
  kind : Byte
  tag : Byte
  body : List Byte
  deriving DecidableEq, Repr

/-- A request in flight (R154). -/
structure Request where
  kind : Kind
  tag : Byte
  body : List Byte
  deriving DecidableEq, Repr

/-- The response slot (R154). -/
inductive Slot where
  | holding (r : Response)
  | inFlight (q : Request)
  deriving DecidableEq, Repr

/-- A transaction in progress (R153): the frame it sends, and whether the slot was HOLDING when it
began (R154). -/
structure Transaction where
  sent : Response
  wasHolding : Bool
  deriving DecidableEq, Repr

/-- A port block (R152) with its notice record (R163): bit i of `latch` and `mask` stands for the
kind at priority position i. -/
structure PortBlock where
  slot : Slot
  transaction : Option Transaction
  latch : BitVec 16
  mask : BitVec 16
  deriving DecidableEq, Repr

/-- The source sets of port C (R163). -/
structure Sources where
  fire : BitVec 2
  shutterFault : BitVec 2
  craneFault : BitVec 4
  stackFull : BitVec 4
  deriving DecidableEq, Repr

/-! ### Wing parameters (Chapter 11) -/

/-- The parameters of R170, each named by its symbol or its row of the table. Distances and rail
positions are integers in mm; the rest are natural numbers. -/
structure Params where
  bays : Nat := 48
  levels : Nat := 8
  laneDepth : Nat := 3
  capacity : Nat := 100
  reserve : Nat := 16
  firstBay : Vector Int 2 := #v[3000, 3000]
  bayPitch : Vector Int 2 := #v[1200, 1200]
  railLength : Vector Int 2 := #v[64000, 64000]
  stationPos : Vector Int 4 := #v[2000, 62000, 2000, 62000]
  planePos : Vector Int 4 := #v[4000, 60000, 4000, 60000]
  parkPos : Vector Int 4 := #v[6000, 58000, 6000, 58000]
  tmin : Vector Int 4 := #v[1200, 1200, 1200, 1200]
  tmax : Vector Int 4 := #v[62800, 62800, 62800, 62800]
  pitch : Vector Nat 4 := #v[50, 50, 50, 50]
  edgeMode : Vector Nat 4 := #v[4, 4, 4, 4]
  inverted : Vector Bool 4 := #v[false, false, false, false]
  refCount : Vector (BitVec 32) 4 := #v[0, 0, 0, 0]
  tRef : Int := 20
  tPick : Int := 30
  tPark : Int := 50
  window : Nat := 10
  brake : Nat := 1000
  reaction : Nat := 100
  halfLength : Int := 1200
  gap : Int := 500
  slip : Int := 2000
  vMax : Vector Nat 4 := #v[3000, 3000, 3000, 3000]
  vFire : Nat := 1000
  vCreep : Nat := 200
  linkTime : Nat := 250
  shutterHold : Nat := 30
  shutterConfirm : Nat := 20
  dwell : Nat := 900
  weights : Weights := ⟨1, 4, 40⟩
  deriving DecidableEq, Repr

/-! ### The whole device -/

/-- The state of the W46 (INVENTORY.md lists every field with its rule and reset value). -/
structure State where
  pending : List Instr
  inReset : Bool
  wingTime : Nat
  wing : WingState
  due : Vector Bool 4
  params : Params
  lanes : Table Lane
  bins : Table Bin
  stations : Vector Station 4
  claims : Table Claim
  backlog : List Nat
  search : Search
  tasks : Table Task
  cranes : Vector CraneTasks 4
  channels : Vector Channel 4
  rails : Vector Rail 4
  fires : Vector Fire 2
  shutters : Vector Shutter 4
  fireLines : FireLines
  sweep : Sweep
  portC : PortBlock
  portK : Vector PortBlock 4
  sources : Sources
  deriving DecidableEq, Repr

/-! ### Reset values -/

/-- A station record after reset (R21). -/
def Station.reset : Station :=
  ⟨.opened, .opened, 1, #v[none, none], #v[none, none]⟩

/-- The search context after reset (R51). -/
def Search.reset : Search :=
  ⟨.idle, none, 0, 0, none, ⟨0, 0, 0⟩, none⟩

/-- A crane task record after reset (R61). -/
def CraneTasks.reset : CraneTasks :=
  ⟨[], [], none, none, .none, false, none⟩

/-- A channel record after reset, with the phase and the levels taken from the pins (R86, R98). -/
def Channel.reset (p : CranePins) : Channel :=
  ⟨.uncalibrated, .none, p.a, p.b, 0, ⟨0, false⟩, ⟨0, false⟩, 0, .none, 0, none, 10, 10, none, p.ref, p.fork⟩

/-- A rail record after reset with the HOME_SIDE limit at the far rail end (R105, R108). -/
def Rail.reset (x : Int) : Rail :=
  ⟨.offline, none, .powerOn, 0, false, .homeSide x, none, none, 0, false, 0⟩

/-- The aisle part of a fire record after reset (R126). -/
def Fire.reset : Fire :=
  ⟨.normal, ⟨false, 0⟩, ⟨false, 0⟩⟩

/-- The station part of a fire record after reset (R126), with the shutter inputs taken from the
pins (R125). -/
def Shutter.reset (p : ShutterPins) : Shutter :=
  ⟨false, true, false, p.openIn, p.closedIn⟩

/-- The sweep context after reset (R142). -/
def Sweep.reset : Sweep :=
  ⟨.none, 0, 0, 0, 0, 0, []⟩

/-- A port block after reset: a NOT_READY frame with kind echo NULL (R152), nothing latched and
nothing masked (R163). -/
def PortBlock.reset : PortBlock :=
  ⟨.holding ⟨.notReady, 0, 0, []⟩, none, 0, 0⟩

/-- Every record at the value the manual gives for power-on and RESETN (R173), with the input levels
taken at the end of the reset. An alarm found there is taken by `execResetRelease`. -/
def State.afterReset (p : Pins) : State where
  pending := []
  inReset := false
  wingTime := 0
  wing := .loading
  due := #v[false, false, false, false]
  params := {}
  lanes := ⟨[]⟩
  bins := ⟨[]⟩
  stations := #v[.reset, .reset, .reset, .reset]
  claims := ⟨[]⟩
  backlog := []
  search := .reset
  tasks := ⟨[]⟩
  cranes := #v[.reset, .reset, .reset, .reset]
  channels := #v[.reset p.cranes[0], .reset p.cranes[1], .reset p.cranes[2], .reset p.cranes[3]]
  rails := #v[.reset 64000, .reset 0, .reset 64000, .reset 0]
  fires := #v[.reset, .reset]
  shutters := #v[.reset p.shutters[0], .reset p.shutters[1], .reset p.shutters[2], .reset p.shutters[3]]
  fireLines := ⟨p.fire0, p.fire1, p.fireW⟩
  sweep := .reset
  portC := .reset
  portK := #v[.reset, .reset, .reset, .reset]
  sources := ⟨0, 0, 0, 0⟩

/-- The input levels the model takes at power-on: every line low or inactive (log 6). -/
def Pins.idle : Pins :=
  { cranes := #v[⟨false, false, false, false⟩, ⟨false, false, false, false⟩,
                 ⟨false, false, false, false⟩, ⟨false, false, false, false⟩],
    fire0 := false, fire1 := false, fireW := false,
    shutters := #v[⟨false, false⟩, ⟨false, false⟩, ⟨false, false⟩, ⟨false, false⟩] }

/-- The machine right after power-on reset, with no fire line active (R173; log 6). -/
def State.reset : State := State.afterReset Pins.idle

end Sys2Proof.Machine
end

