-- ==== Sys2Proof/Machine/Ops.lean ====
section
/-!
DEFINITION. The named operations over the records: keyed tables, the accessors of every record, lane and rail geometry,
channel positions, reservations and envelopes.
-/
namespace Sys2Proof.Machine

/-! ### Keyed tables -/

/-- The record of number `n` in a list of entries. -/
def lookupEntry {α : Type} (n : Nat) : List (Nat × α) → Option α
  | [] => none
  | (k, v) :: t => if n = k then some v else lookupEntry n t

/-- The entries with the record of number `n` set to `x`, kept in rising order. -/
def insertEntry {α : Type} (n : Nat) (x : α) : List (Nat × α) → List (Nat × α)
  | [] => [(n, x)]
  | (k, v) :: t =>
    if n < k then (n, x) :: (k, v) :: t
    else if n = k then (n, x) :: t
    else (k, v) :: insertEntry n x t

/-- The entries without number `n`. -/
def eraseEntry {α : Type} (n : Nat) : List (Nat × α) → List (Nat × α)
  | [] => []
  | (k, v) :: t => if n = k then eraseEntry n t else (k, v) :: eraseEntry n t

/-- Numbers strictly rise from above `lo`. -/
def risingFrom {α : Type} (lo : Nat) : List (Nat × α) → Bool
  | [] => true
  | (k, _) :: t => decide (lo ≤ k) && risingFrom (k + 1) t

/-- The record of number `n`, if one is listed. -/
def Table.find? {α : Type} (t : Table α) (n : Nat) : Option α := lookupEntry n t.entries

/-- The table with the record of number `n` set. -/
def Table.insert {α : Type} (t : Table α) (n : Nat) (x : α) : Table α := ⟨insertEntry n x t.entries⟩

/-- The table without number `n`. -/
def Table.erase {α : Type} (t : Table α) (n : Nat) : Table α := ⟨eraseEntry n t.entries⟩

/-- The listed numbers, rising. -/
def Table.keys {α : Type} (t : Table α) : List Nat := t.entries.map Prod.fst

/-- The canonical form of a table: numbers strictly rising, so that equal tables are equal data. -/
def Table.wf {α : Type} (t : Table α) : Bool := risingFrom 0 t.entries

/-- The lowest number below `n` that is not listed. -/
def Table.lowestFree {α : Type} (t : Table α) (n : Nat) : Option Nat :=
  (List.range n).find? (fun i => (t.find? i).isNone)

/-! ### Cranes, stations and aisles (R21) -/

/-- The aisle of a station or crane: its number over 2, rounded down (R21). -/
def aisleOf : Crane → Aisle
  | 0 => 0
  | 1 => 0
  | 2 => 1
  | 3 => 1

/-- The west crane of an aisle, the even-numbered one (R105). -/
def westCrane : Aisle → Crane
  | 0 => 0
  | 1 => 2

/-- The east crane of an aisle, the odd-numbered one (R105). -/
def eastCrane : Aisle → Crane
  | 0 => 1
  | 1 => 3

/-- The other crane of a crane's aisle (Chapter 6). -/
def otherCrane : Crane → Crane
  | 0 => 1
  | 1 => 0
  | 2 => 3
  | 3 => 2

/-- Whether a crane is the west crane of its aisle, with its home end west. -/
def isWest : Crane → Bool
  | 0 => true
  | 1 => false
  | 2 => true
  | 3 => false

/-- All cranes in order. -/
def allCranes : List Crane := [0, 1, 2, 3]

/-- The two cranes, and stations, of an aisle in order. -/
def cranesOf (a : Aisle) : List Crane := [westCrane a, eastCrane a]

/-- Both station positions in order. -/
def allPos : List Pos := [0, 1]

/-! ### Record accessors -/

/-- The record of a crane. -/
def State.crane (s : State) (k : Crane) : CraneTasks := s.cranes[k]
/-- The rail record of a crane. -/
def State.rail (s : State) (k : Crane) : Rail := s.rails[k]
/-- The position channel of a crane. -/
def State.channel (s : State) (k : Crane) : Channel := s.channels[k]
/-- A station record. -/
def State.station (s : State) (k : Crane) : Station := s.stations[k]
/-- The shutter record of a station. -/
def State.shutter (s : State) (k : Crane) : Shutter := s.shutters[k]
/-- The fire record of an aisle. -/
def State.fire (s : State) (a : Aisle) : Fire := s.fires[a]
/-- A port block. -/
def State.port (s : State) : Port → PortBlock
  | .c => s.portC
  | .k k => s.portK[k]

/-- Changes a crane task record. -/
def State.modCrane (s : State) (k : Crane) (f : CraneTasks → CraneTasks) : State :=
  { s with cranes := s.cranes.set k (f s.cranes[k]) }
/-- Changes a rail record. -/
def State.modRail (s : State) (k : Crane) (f : Rail → Rail) : State :=
  { s with rails := s.rails.set k (f s.rails[k]) }
/-- Changes a channel record. -/
def State.modChannel (s : State) (k : Crane) (f : Channel → Channel) : State :=
  { s with channels := s.channels.set k (f s.channels[k]) }
/-- Changes a station record. -/
def State.modStation (s : State) (k : Crane) (f : Station → Station) : State :=
  { s with stations := s.stations.set k (f s.stations[k]) }
/-- Changes a shutter record. -/
def State.modShutter (s : State) (k : Crane) (f : Shutter → Shutter) : State :=
  { s with shutters := s.shutters.set k (f s.shutters[k]) }
/-- Changes a fire record. -/
def State.modFire (s : State) (a : Aisle) (f : Fire → Fire) : State :=
  { s with fires := s.fires.set a (f s.fires[a]) }
/-- Changes a port block. -/
def State.modPort (s : State) (p : Port) (f : PortBlock → PortBlock) : State :=
  match p with
  | .c => { s with portC := f s.portC }
  | .k k => { s with portK := s.portK.set k (f s.portK[k]) }

/-- A present bin's record; none for an ABSENT bin (R7). -/
def State.bin? (s : State) (b : Nat) : Option Bin := s.bins.find? b
/-- Writes a present bin's record. -/
def State.setBin (s : State) (b : Nat) (r : Bin) : State := { s with bins := s.bins.insert b r }
/-- Changes the record of a bin that is present. -/
def State.modBin (s : State) (b : Nat) (f : Bin → Bin) : State :=
  match s.bin? b with
  | some r => s.setBin b (f r)
  | none => s
/-- Makes a bin ABSENT, with the values of R7. -/
def State.dropBin (s : State) (b : Nat) : State := { s with bins := s.bins.erase b }

/-- A claim entry; none for a free entry (R25). -/
def State.claim? (s : State) (id : Nat) : Option Claim := s.claims.find? id
/-- Writes a claim entry. -/
def State.setClaim (s : State) (id : Nat) (c : Claim) : State := { s with claims := s.claims.insert id c }
/-- Changes a claim whose entry is not free. -/
def State.modClaim (s : State) (id : Nat) (f : Claim → Claim) : State :=
  match s.claim? id with
  | some c => s.setClaim id (f c)
  | none => s

/-- A task entry; none for a free entry (R60). -/
def State.task? (s : State) (id : Nat) : Option Task := s.tasks.find? id
/-- Writes a task entry. -/
def State.setTask (s : State) (id : Nat) (t : Task) : State := { s with tasks := s.tasks.insert id t }
/-- Changes a task whose entry is not free. -/
def State.modTask (s : State) (id : Nat) (f : Task → Task) : State :=
  match s.task? id with
  | some t => s.setTask id (f t)
  | none => s
/-- Frees a task entry. -/
def State.dropTask (s : State) (id : Nat) : State := { s with tasks := s.tasks.erase id }

/-! ### Lanes (R3, R4) -/

/-- A lane record after reset or after a geometry rebuild (R4, R6). -/
def Params.resetLane (p : Params) : Lane := ⟨0, p.laneDepth, [], 0⟩

/-- The number of configured lanes (R3). -/
def Params.laneCount (p : Params) : Nat := 4 * p.bays * p.levels

/-- The lane index of a lane address (R3). -/
def Params.laneIndex (p : Params) (aisle side bay level : Nat) : Nat :=
  ((aisle * 2 + side) * p.bays + bay) * p.levels + level

/-- The level of a lane index (R3). -/
def Params.laneLevel (p : Params) (i : Nat) : Nat := i % p.levels
/-- The bay of a lane index (R3). -/
def Params.laneBay (p : Params) (i : Nat) : Nat := i / p.levels % p.bays
/-- The side of a lane index (R3). -/
def Params.laneSide (p : Params) (i : Nat) : Nat := i / (p.levels * p.bays) % 2
/-- The aisle of a lane index (R3). -/
def Params.laneAisle (p : Params) (i : Nat) : Aisle :=
  if i / (2 * p.levels * p.bays) = 0 then 0 else 1

/-- The record of a configured lane; an unlisted lane has the reset record (log 4). -/
def State.lane (s : State) (i : Nat) : Lane := (s.lanes.find? i).getD s.params.resetLane

/-- Writes a lane record; a lane equal to the reset record is not listed (log 4). -/
def State.setLane (s : State) (i : Nat) (l : Lane) : State :=
  { s with lanes := if l = s.params.resetLane then s.lanes.erase i else s.lanes.insert i l }

/-- Changes a lane record. -/
def State.modLane (s : State) (i : Nat) (f : Lane → Lane) : State := s.setLane i (f (s.lane i))

/-- A lane has a free slot when occupants + incoming < depth (R5). -/
def Lane.hasRoom (l : Lane) : Bool := decide (l.contents.length + l.incoming < l.depth)

/-- The lanes of an aisle, lowest index first. -/
def Params.lanesOf (p : Params) (a : Aisle) : List Nat :=
  (List.range (2 * p.bays * p.levels)).map (fun i => a.val * (2 * p.bays * p.levels) + i)

/-- The total slots T: the sum of the depths of all configured lanes (R14). -/
def State.totalSlots (s : State) : Nat :=
  (s.params.laneCount - s.lanes.entries.length) * s.params.laneDepth
    + (s.lanes.entries.map (fun e => e.2.depth)).sum

/-- The present count n (R14). -/
def State.presentCount (s : State) : Nat := s.bins.entries.length

/-- The headroom T − R − n (R15). -/
def State.headroom (s : State) : Int :=
  (s.totalSlots : Int) - (s.params.reserve : Int) - (s.presentCount : Int)

/-! ### Bins (R7, R8) -/

/-- The depth of a bin in a lane's contents, counted from 1 at the front (R4). -/
def Lane.depthOf (l : Lane) (b : Nat) : Nat := l.contents.idxOf b + 1

/-- The bin on a crane's fork (R8). -/
def State.fork (s : State) (k : Crane) : Option Nat :=
  (s.bins.entries.find? (fun e => decide (e.2.place = .onCrane k))).map Prod.fst

/-- A bin's free units, C − fill − reserved (R11). -/
def State.freeUnits (s : State) (r : Bin) : Nat := s.params.capacity - r.fill - r.reserved

/-- The aisle of a bin: of its lane, its crane or its station (R28). -/
def State.binAisle (s : State) (r : Bin) : Aisle :=
  match r.place with
  | .stored l => s.params.laneAisle l
  | .onCrane k => aisleOf k
  | .atStation k _ => aisleOf k

/-! ### Costs (R46) -/

/-- The rail position of a bay (R46). -/
def Params.bayMm (p : Params) (a : Aisle) (b : Nat) : Int := p.firstBay[a] + (b : Int) * p.bayPitch[a]

/-- The rail position of a lane: that of its bay in its aisle (R63). -/
def Params.lanePos (p : Params) (i : Nat) : Int := p.bayMm (p.laneAisle i) (p.laneBay i)

/-- The travel term ceil(|x − y| / 100) × Wt (R46). -/
def travelTerm (w : Weights) (x y : Int) : Nat := ((x - y).natAbs + 99) / 100 * w.travel

/-- A cost: travel, level and depth terms, saturated at 65,535 (R46). -/
def cost (w : Weights) (x y : Int) (levels bins : Nat) : Nat :=
  min 65535 (travelTerm w x y + levels * w.level + bins * w.depth)

/-! ### Channel positions (R90) -/

/-- pos_mm = floor(count × P / 1000) (R90). -/
def State.posMm (s : State) (k : Crane) : Int :=
  ((s.channel k).counter.toInt * (s.params.pitch[k] : Int)).fdiv 1000

/-- Whether a crane's channel is CALIBRATED. -/
def State.calibrated (s : State) (k : Crane) : Bool := decide ((s.channel k).state = .calibrated)

/-! ### Envelopes and reservations (R103, R104, R108) -/

/-- ceil(x / y) on natural numbers. -/
def ceilDiv (x y : Nat) : Nat := (x + y - 1) / y

/-- The stopping distance d(v) in mm (R103). -/
def Params.stopping (p : Params) (v : Nat) : Nat :=
  min 262143 (ceilDiv (v * v) (2 * p.brake) + ceilDiv (v * p.reaction) 1000)

/-- The envelope at a position, speed and direction (R104). -/
def Params.envelope (p : Params) (pos : Int) (v : Nat) : Direction → Span
  | .none => ⟨pos - p.halfLength, pos + p.halfLength⟩
  | .east => ⟨pos - p.halfLength, pos + p.halfLength + (p.stopping v : Int)⟩
  | .west => ⟨pos - p.halfLength - (p.stopping v : Int), pos + p.halfLength⟩

/-- The present envelope: pos_mm as it stands, speed and direction of the last window end (R104). -/
def State.presentEnvelope (s : State) (k : Crane) : Span :=
  s.params.envelope (s.posMm k) (s.channel k).speed (s.channel k).direction

/-- The stationary envelope [p − B, p + B] at pos_mm (R104). -/
def State.stationaryEnvelope (s : State) (k : Crane) : Span :=
  s.params.envelope (s.posMm k) 0 .none

/-- The edges of a crane's reservation; a HOME_SIDE reservation runs from the home rail end to X
(R108). -/
def State.edges (s : State) (k : Crane) : Span :=
  match (s.rail k).reservation with
  | .calibrated sp => sp
  | .frozen sp => sp
  | .homeSide x => if isWest k then ⟨0, x⟩ else ⟨x, s.params.railLength[aisleOf k]⟩

/-- The inner edge of a stretch for a crane: the edge that faces the other crane (Chapter 6). -/
def innerEdge (k : Crane) (sp : Span) : Int := if isWest k then sp.east else sp.west

/-- Whether a crane's inner edge has moved away from the other crane, toward home. -/
def innerMovedBack (k : Crane) (old new : Span) : Bool :=
  if isWest k then decide (new.east < old.east) else decide (old.west < new.west)

/-- Whether a stretch of a crane keeps the gap G from the other crane's reservation (R112). -/
def State.fits (s : State) (k : Crane) (sp : Span) : Bool :=
  let o := s.edges (otherCrane k)
  if isWest k then decide (sp.east + s.params.gap ≤ o.west)
  else decide (o.east + s.params.gap ≤ sp.west)

/-- The crane's home travel limit: Tmin of a west crane, Tmax of an east crane (R63, R111). -/
def Params.homeLimit (p : Params) (k : Crane) : Int := if isWest k then p.tmin[k] else p.tmax[k]

/-- The rail position of the TRAVEL of a PARK or HOME: the crane's park position or its home travel limit (R63). -/
def Params.travelEnd (p : Params) (k : Crane) (kind : TaskKind) : Int :=
  if kind = .park then p.parkPos[k] else p.homeLimit k

/-- The reservation of a crane moved to the uncalibrated form: X is the old inner edge moved away from
home by the slip allowance S, within the rail (R108). -/
def State.homeSideFrom (s : State) (k : Crane) (old : Span) : Reservation :=
  if isWest k then .homeSide (min (s.params.railLength[aisleOf k]) (old.east + s.params.slip))
  else .homeSide (max 0 (old.west - s.params.slip))

/-- Whether a crane's reservation is stationary (R105). -/
def State.stationary (s : State) (k : Crane) : Bool :=
  (s.rail k).granted.isNone &&
    match (s.rail k).reservation with
    | .calibrated sp => decide (sp = s.stationaryEnvelope k)
    | _ => true

/-! ### Fire conditions (R124, R125) -/

/-- Whether an aisle is in alarm: its own line or FIREW is active (R124). -/
def State.alarm (s : State) (a : Aisle) : Bool :=
  (if a = 0 then s.fireLines.fire0 else s.fireLines.fire1) || s.fireLines.fireW

/-- Whether an aisle's fire state is NORMAL. -/
def State.normal (s : State) (a : Aisle) : Bool := decide ((s.fire a).state = .normal)

/-- The shutter of a station is open (R125). -/
def Shutter.isOpen (r : Shutter) : Bool := r.openIn && !r.closedIn
/-- The shutter of a station is closed (R125). -/
def Shutter.isClosed (r : Shutter) : Bool := r.closedIn && !r.openIn

/-- Runs an operation on every crane of a list in order. -/
def forCranes (l : List Crane) (f : Crane → State → State) (s : State) : State :=
  l.foldl (fun s k => f k s) s

/-- Runs an operation on every number of a list in order. -/
def forIds (l : List Nat) (f : Nat → State → State) (s : State) : State :=
  l.foldl (fun s i => f i s) s

end Sys2Proof.Machine
end

