-- ==== Sys2Proof/Machine/Flags.lean ====
section
/-!
DEFINITION. Notice latches and source sets (Chapter 10), and the output lines as functions of the state: attention lines,
STOP lines, hold-open lines and WING_SEALED.
-/
namespace Sys2Proof.Machine

/-- The notice kinds of port C (10.1). -/
inductive NoticeC where
  | fire | craneFault | shutterFault | claimChanged | dwell | noRoom | placeDone | sweep | stackFull
  deriving DecidableEq, Repr

/-- The notice kinds of a K port (10.1). -/
inductive NoticeK where
  | firePark | stop | taskReady | grantExtended | recal | stackFull
  deriving DecidableEq, Repr

/-- The priority position of a port C kind (10.1). -/
def NoticeC.position : NoticeC → Nat
  | .fire => 0
  | .craneFault => 1
  | .shutterFault => 2
  | .claimChanged => 3
  | .dwell => 4
  | .noRoom => 5
  | .placeDone => 6
  | .sweep => 7
  | .stackFull => 8

/-- The priority position of a K port kind (10.1). -/
def NoticeK.position : NoticeK → Nat
  | .firePark => 0
  | .stop => 1
  | .taskReady => 2
  | .grantExtended => 3
  | .recal => 4
  | .stackFull => 5

/-- The bit of position `i` in a 16-bit set. -/
def bit16 (i : Nat) : BitVec 16 := BitVec.ofNat 16 (2 ^ i)

/-- Latches a kind at port C (R163). -/
def latchC (n : NoticeC) (s : State) : State :=
  { s with portC := { s.portC with latch := s.portC.latch ||| bit16 n.position } }

/-- Latches a kind at the K port of a crane (R163). -/
def latchK (k : Crane) (n : NoticeK) (s : State) : State :=
  s.modPort (.k k) (fun p => { p with latch := p.latch ||| bit16 n.position })

/-- Latches FIRE at port C for an aisle (R163). -/
def latchFire (a : Aisle) (s : State) : State :=
  latchC .fire { s with sources := { s.sources with fire := s.sources.fire ||| BitVec.ofNat 2 (2 ^ a.val) } }

/-- Latches SHUTTER_FAULT at port C for an aisle (R163). -/
def latchShutterFault (a : Aisle) (s : State) : State :=
  latchC .shutterFault
    { s with sources := { s.sources with
        shutterFault := s.sources.shutterFault ||| BitVec.ofNat 2 (2 ^ a.val) } }

/-- Latches CRANE_FAULT at port C for a crane (R163). -/
def latchCraneFault (k : Crane) (s : State) : State :=
  latchC .craneFault
    { s with sources := { s.sources with
        craneFault := s.sources.craneFault ||| BitVec.ofNat 4 (2 ^ k.val) } }

/-- Latches STACK_FULL at port C and at the crane's K port (R76, R163). -/
def latchStackFull (k : Crane) (s : State) : State :=
  latchK k .stackFull (latchC .stackFull
    { s with sources := { s.sources with
        stackFull := s.sources.stackFull ||| BitVec.ofNat 4 (2 ^ k.val) } })

/-! ### Output lines -/

/-- A port's attention line: some kind is latched and unmasked (R164); released in reset (R173). -/
def State.attention (s : State) (p : Port) : Bool :=
  !s.inReset && decide ((s.port p).latch &&& ~~~(s.port p).mask ≠ 0)

/-- Whether a rail record alone asserts the crane's STOP line (R107). -/
def Rail.stops (r : Rail) : Bool :=
  match r.state with
  | .offline => true
  | .stopped => true
  | .lost => true
  | _ => r.fireHold

/-- A crane's STOP line (R107); asserted in reset (R173). -/
def State.stopLine (s : State) (k : Crane) : Bool := s.inReset || (s.rail k).stops

/-- A station's hold-open line (R131); released in reset (R173). -/
def State.holdOpenLine (s : State) (k : Crane) : Bool := !s.inReset && (s.shutter k).holdOpen

/-- The WING_SEALED output: both aisles SEALED (R136); released in reset (R173). -/
def State.wingSealed (s : State) : Bool :=
  !s.inReset && decide ((s.fire 0).state = .sealed) && decide ((s.fire 1).state = .sealed)

/-- Changes a crane's rail record, and latches STOP at its K port if its STOP line goes from released
to asserted (R107). -/
def modRailStop (k : Crane) (f : Rail → Rail) (s : State) : State :=
  let s' := s.modRail k f
  if !(s.rail k).stops && (s'.rail k).stops then latchK k .stop s' else s'

end Sys2Proof.Machine
end

