-- ==== Sys2Proof/Machine/TaskOps.lean ====
section
/-!
DEFINITION. The shared operations of the task unit (Chapter 4): queues, eligibility, re-examination, slots and promises,
lane choice (R48, R49), activation, the end of tasks, preemption and the settling of the tests owed in a step.
-/
namespace Sys2Proof.Machine

/-! ### Claim changes (R27) -/

/-- Changes a claim, sets its unseen-change flag and latches CLAIM_CHANGED (R27). -/
def touchClaim (id : Nat) (f : Claim → Claim) (s : State) : State :=
  match s.claim? id with
  | some c => latchC .claimChanged (s.setClaim id { f c with unseen := true })
  | none => s

/-- Makes a QUEUED claim FETCHING; a claim in another state is left as it is (R32). -/
def claimFetching (id : Nat) (s : State) : State :=
  match s.claim? id with
  | some c => if c.state = .queued then touchClaim id (fun c => { c with state := .fetching }) s else s
  | none => s

/-- Takes the task ID off a claim that has one (R32). -/
def claimLosesTask (id : Nat) (s : State) : State :=
  match s.claim? id with
  | some c => if c.task.isSome then touchClaim id (fun c => { c with task := none }) s else s
  | none => s

/-! ### Eligibility and TASK_READY (R64, R67) -/

/-- Whether a task may be taken by dispatch or preemption (R64). -/
def State.eligible (s : State) (t : Task) : Bool :=
  decide (t.state = .queued)
    && (s.normal (aisleOf t.crane) || decide (t.kind = .park))
    && match t.kind with
       | .park => decide ((s.rail t.crane).state = .ready) || decide ((s.rail t.crane).state = .unhomed)
       | .home => decide ((s.rail t.crane).state = .unhomed)
       | _ => decide ((s.rail t.crane).state = .ready)

/-- Whether the task of a number is eligible. -/
def State.eligibleId (s : State) (id : Nat) : Bool :=
  match s.task? id with
  | some t => s.eligible t
  | none => false

/-- Marks that the preemption test of a crane is owed in this step (R74). -/
def markDue (k : Crane) (s : State) : State := { s with due := s.due.set k true }

/-- Latches TASK_READY if the crane has no active task (R67). -/
def readyIfIdle (k : Crane) (s : State) : State :=
  if (s.crane k).active.isNone then latchK k .taskReady s else s

/-- Latches TASK_READY if the crane has no active task and a queued task of it has become eligible
since the state `old` (R67). -/
def readyIfNewlyEligible (k : Crane) (old s : State) : State :=
  if (s.crane k).active.isNone
      && (s.crane k).queue.any (fun id => s.eligibleId id && !old.eligibleId id)
  then latchK k .taskReady s else s

/-! ### Crane state changes (R106, R107) -/

/-- Changes a crane's rail record, with the STOP latch of R107; when the crane has become READY or
UNHOMED the task unit is signalled and its preemption test is owed (R74, R106). -/
def changeRail (k : Crane) (f : Rail → Rail) (s : State) : State :=
  let s' := modRailStop k f s
  let st := (s'.rail k).state
  let s' := if st ≠ (s.rail k).state ∧ (st = .ready ∨ st = .unhomed) then markDue k s' else s'
  readyIfNewlyEligible k s s'

/-- Makes a crane STOPPED with a cause, if it is READY, UNHOMED, SILENT or PARKED (R107). -/
def stopCrane (k : Crane) (cause : StopCause) (s : State) : State :=
  match (s.rail k).state with
  | .ready | .unhomed | .silent | .parked =>
    latchCraneFault k (changeRail k (fun r =>
      { r with state := .stopped, silentFrom := none, stopCause := cause, granted := none, pending := none }) s)
  | .offline | .lost | .stopped => s

/-! ### Queues (R62) -/

/-- Dispatch order: lower class, then earlier admitted time, then lower task ID (R62). -/
def State.before (s : State) (i j : Nat) : Bool :=
  match s.task? i, s.task? j with
  | some a, some b =>
    decide (a.cls < b.cls)
      || (a.cls == b.cls && (decide (a.admitted < b.admitted) || (a.admitted == b.admitted && decide (i < j))))
  | _, _ => false

/-- A queue with a task put at its place in dispatch order (R62). -/
def State.enqueue (s : State) (id : Nat) (q : List Nat) : List Nat :=
  q.takeWhile (fun j => s.before j id) ++ id :: q.dropWhile (fun j => s.before j id)

/-- The tasks of a crane's queue that are FETCH tasks (R62). -/
def State.queuedFetches (s : State) (k : Crane) : Nat :=
  ((s.crane k).queue.filter (fun id => match s.task? id with
    | some t => decide (t.kind = .fetch)
    | none => false)).length

/-- The crane has room for a FETCH: its queue holds fewer than 7 (R62). -/
def State.fetchRoom (s : State) (k : Crane) : Bool := decide (s.queuedFetches k < 7)

/-- A new task of a crane with the fields that every admission sets (R60, R62). -/
def Task.new (k : Crane) (kind : TaskKind) (cls : Nat) (step : TaskStep) : Task :=
  { crane := k, kind := kind, cls := cls, admitted := 0, bin := none, source := none, dest := none,
    claim := none, dig := [], digLeft := 0, hold := 0, redirect := none, state := .queued, block := none,
    step := step, yield := none }

/-- Admission of a task into the entry `id`: QUEUED, with the present wing time, at its place in the
queue (R62). -/
def admitAt (id : Nat) (t : Task) (s : State) : State :=
  let s := s.setTask id { t with admitted := s.wingTime, state := .queued, block := none }
  let s := s.modCrane t.crane (fun c => { c with queue := s.enqueue id c.queue })
  markDue t.crane (readyIfIdle t.crane s)

/-- Admission of a task: it takes the lowest-numbered free entry (R60). -/
def admitTask (t : Task) (s : State) : State :=
  match s.tasks.lowestFree 64 with
  | some id => admitAt id t s
  | none => s

/-- Admission of a FETCH for a claim, on the crane of the claim's station, with the claim's class
(R30, R31). -/
def admitFetch (claimId : Nat) (s : State) : State :=
  match s.claim? claimId, s.tasks.lowestFree 64 with
  | some c, some id =>
    let s := admitAt id { Task.new c.station .fetch c.cls .pick with bin := some c.bin, claim := some claimId } s
    touchClaim claimId (fun c => { c with task := some id }) s
  | _, _ => s

/-- Whether the claim `i` is admitted from the backlog before the claim `j`: lower class, then older
created time, then lower ID (R31). -/
def State.backlogBefore (s : State) (i j : Nat) : Bool :=
  match s.claim? i, s.claim? j with
  | some a, some b =>
    decide (a.cls < b.cls)
      || (a.cls == b.cls && (decide (a.created < b.created) || (a.created == b.created && decide (i < j))))
  | _, _ => false

/-- The claim that the backlog would admit for a station (R31). -/
def State.backlogNext (s : State) (k : Crane) : Option Nat :=
  (s.backlog.filter (fun id => match s.claim? id with
    | some c => decide (c.station = k)
    | none => false)).foldl
    (fun best id => match best with
      | none => some id
      | some b => if s.backlogBefore id b then some id else some b) none

/-- The signal that a slot of a crane's queue has freed: one claim is admitted from the backlog
(R31, R62). -/
def slotFreed (k : Crane) (s : State) : State :=
  match s.backlogNext k with
  | some id =>
    if s.fetchRoom k then admitFetch id { s with backlog := s.backlog.erase id } else s
  | none => s

/-- Sets a crane's undelivered marker. A marker PUSH that ends without a reversal gives the queue-slot
signal of the FETCH it made active (R62, R77). -/
def setMarker (k : Crane) (m : Undelivered) (s : State) : State :=
  let owed := decide ((s.crane k).undelivered = .push) &&
    match (s.crane k).active.bind s.task? with
    | some t => decide (t.kind = .fetch)
    | none => false
  let s := s.modCrane k (fun c => { c with undelivered := m })
  if owed then slotFreed k s else s

/-! ### Re-examination (R67) -/

/-- A BLOCKED task becomes QUEUED again (R67). -/
def requeue (id : Nat) (s : State) : State :=
  match s.task? id with
  | some t =>
    markDue t.crane (readyIfIdle t.crane (s.setTask id { t with state := .queued, block := none }))
  | none => s

/-- Re-examines the BLOCKED tasks that satisfy a test (R67). -/
def reexamine (p : Task → Bool) (s : State) : State :=
  forIds ((s.tasks.entries.filter (fun e => decide (e.2.state = .blocked) && p e.2)).map Prod.fst) requeue s

/-- The signal that a lane slot has freed: NO_ROOM and QUIESCE tasks are re-examined (R5, R67). -/
def laneSlotFreed : State → State :=
  reexamine (fun t => decide (t.block = some .noRoom) || decide (t.block = some .quiesce))

/-- The signal that a bin was set down in a lane: QUIESCE tasks are re-examined (R67). -/
def laneQuieter : State → State := reexamine (fun t => decide (t.block = some .quiesce))

/-- The signal that a position of a station has freed (R23, R67). -/
def positionFreed (k : Crane) : State → State :=
  reexamine (fun t => decide (t.block = some .stationFull) && decide (t.crane = k))

/-! ### Slots and promises (R5, R23) -/

/-- Gives back `n` incoming slots of a lane; a fall is signalled (R5). -/
def releaseSlots (lane n : Nat) (s : State) : State :=
  if n = 0 then s
  else laneSlotFreed (s.modLane lane (fun l => { l with incoming := l.incoming - n }))

/-- Takes `n` incoming slots of a lane (R5). -/
def takeSlots (lane n : Nat) (s : State) : State :=
  s.modLane lane (fun l => { l with incoming := l.incoming + n })

/-- A position is free when it holds no bin and no promise (R21). -/
def Station.free (st : Station) (p : Pos) : Bool := st.bins[p].isNone && st.promises[p].isNone

/-- The lowest-numbered free position of a station (R23). -/
def Station.freePos (st : Station) : Option Pos := allPos.find? st.free

/-- Promises a position to a task (R23). -/
def promise (k : Crane) (p : Pos) (id : Nat) (s : State) : State :=
  s.modStation k (fun st => { st with promises := st.promises.set p (some id) })

/-- A promised position is given up (R23). -/
def releasePosition (k : Crane) (p : Pos) (s : State) : State :=
  positionFreed k (s.modStation k (fun st => { st with promises := st.promises.set p none }))

/-- A task gives up the position promised to it, and the position's freeing is signalled (R23). -/
def releasePromise (k : Crane) (id : Nat) (s : State) : State :=
  let st := s.station k
  if allPos.any (fun p => decide (st.promises[p] = some id)) then
    positionFreed k (s.modStation k (fun st =>
      { st with promises := st.promises.map (fun o => if o = some id then none else o) }))
  else s

/-- The entries of a task's dig plan that are not yet finished (R60). -/
def Task.unfinished (t : Task) : List (Nat × Nat) := t.dig.drop (t.dig.length - t.digLeft)

/-- The source lane of a task whose source is a lane. -/
def Task.sourceLane (t : Task) : Option Nat :=
  match t.source with
  | some (.lane i) => some i
  | _ => none

/-- The destination lane of a task whose destination is a lane. -/
def Task.destLane (t : Task) : Option Nat :=
  match t.dest with
  | some (.lane i) => some i
  | _ => none

/-- Gives back the slots of dig plan entries (R5, R72). -/
def releaseEntries (l : List (Nat × Nat)) (s : State) : State :=
  l.foldl (fun s e => releaseSlots e.2 1 s) s

/-- Gives back a task's source hold (R72). -/
def releaseHold (t : Task) (s : State) : State :=
  match t.sourceLane with
  | some i => releaseSlots i t.hold s
  | none => s

/-! ### Lane choice (R48, R49, R50) -/

/-- The lane of lowest cost, the lowest index among equals, of a rising list of lane indices. -/
def cheapest (costOf : Nat → Nat) : List Nat → Option Nat
  | [] => none
  | i :: t =>
    match cheapest costOf t with
    | none => some i
    | some j => if costOf i ≤ costOf j then some i else some j

/-- The lanes eligible for a bin of a key in an aisle (R48, R49). -/
def State.openLanes (s : State) (a : Aisle) (key : Nat) : List Nat :=
  (s.params.lanesOf a).filter (fun i => decide ((s.lane i).key = key) && (s.lane i).hasRoom)

/-- The stow cost of a lane for a STOW from station k (R48). -/
def State.stowCost (s : State) (k : Crane) (i : Nat) : Nat :=
  cost s.params.weights (s.params.lanePos i) s.params.stationPos[k] (s.params.laneLevel i)
    ((s.lane i).contents.length + (s.lane i).incoming)

/-- Stow-lane choice (R48). -/
def State.stowLane (s : State) (k : Crane) (key : Nat) : Option Nat :=
  cheapest (s.stowCost k) (s.openLanes (aisleOf k) key)

/-- The relocation cost of a lane from a source lane (R49). -/
def State.relocCost (s : State) (src i : Nat) : Nat :=
  cost s.params.weights (s.params.lanePos i) (s.params.lanePos src)
    (((s.params.laneLevel i : Int) - (s.params.laneLevel src : Int)).natAbs)
    ((s.lane i).contents.length + (s.lane i).incoming)

/-- Relocation-lane choice of one blocking bin (R49). -/
def State.relocLane (s : State) (src b : Nat) : Option Nat :=
  match s.bin? b with
  | some r =>
    cheapest (s.relocCost src)
      ((s.openLanes (s.params.laneAisle src) r.key).filter (fun i => decide (i ≠ src)))
  | none => none

/-- Relocation-lane choice of a plan, in list order, each slot taken before the next choice. When an
entry finds no lane, the slots taken are given back and signalled (R49). -/
def planDig (src : Nat) : List Nat → List (Nat × Nat) → State → State × Option (List (Nat × Nat))
  | [], done, s => (s, some done)
  | b :: t, done, s =>
    match s.relocLane src b with
    | some i => planDig src t (done ++ [(b, i)]) (takeSlots i 1 s)
    | none => (releaseEntries done s, none)

/-! ### Activation (R65, R66) -/

/-- Blocks a task with a reason; it stays at its place in the queue and holds nothing, and a STOW keeps the
source it has from its admission (R62, R65, R67, R79). -/
def blockTask (id : Nat) (reason : BlockReason) (s : State) : State :=
  s.modTask id (fun t =>
    { t with state := .blocked, block := some reason, source := if t.kind = .stow then t.source else none,
             dest := none, dig := [], digLeft := 0, hold := 0 })

/-- Whether a lane is the source lane of an ACTIVE or SUSPENDED FETCH that has not yet picked its own
bin (R65, R149). -/
def State.isFetchSource (s : State) (i : Nat) : Bool :=
  s.tasks.entries.any (fun e =>
    decide (e.2.kind = .fetch)
      && (decide (e.2.state = .active) || decide (e.2.state = .suspended))
      && decide (e.2.step ≠ .set) && decide (e.2.sourceLane = some i))

/-- A task's own bin and its place (R65). -/
def State.targetPlace (s : State) (t : Task) : Option (Nat × BinPlace) :=
  match t.bin with
  | some b =>
    match s.bin? b with
    | some r => some (b, r.place)
    | none => none
  | none => none

/-- Activation of a FETCH, stages 1 to 5 in order (R65). -/
def activateFetch (id : Nat) (t : Task) (s : State) : State × Bool :=
  match s.targetPlace t with
  | some (b, BinPlace.stored src) =>
    let lane := s.lane src
    if lane.incoming ≠ 0 ∨ s.isFetchSource src = true then (blockTask id .quiesce s, false)
    else
      match (s.station t.crane).freePos with
      | none => (blockTask id .stationFull s, false)
      | some p =>
        let s1 := promise t.crane p id s
        match planDig src (lane.contents.takeWhile (fun x => x != b)) [] s1 with
        | (s2, none) => (latchC .noRoom (blockTask id .noRoom (releasePromise t.crane id s2)), false)
        | (s2, some plan) =>
          let free := lane.depth - lane.contents.length
          let s3 := takeSlots src free s2
          let s4 := s3.modTask id (fun t =>
            { t with state := .active, block := none, source := some (.lane src),
                     dest := some (.station p), dig := plan, digLeft := plan.length, hold := free,
                     step := if plan.isEmpty then .pick else .relocPick })
          (match t.claim with
           | some c => claimFetching c s4
           | none => s4, true)
  | _ => (blockTask id .quiesce s, false)

/-- Activation of a STOW (R66). -/
def activateStow (id : Nat) (t : Task) (s : State) : State × Bool :=
  match t.bin.bind s.bin? with
  | some r =>
    match s.stowLane t.crane r.key with
    | some i =>
      ((takeSlots i 1 s).modTask id (fun t =>
        { t with state := .active, block := none, dest := some (.lane i), step := .pick,
                 source := match r.place with
                   | .atStation _ p => some (.station p)
                   | _ => t.source }), true)
    | none => (latchC .noRoom (blockTask id .noRoom s), false)
  | none => (latchC .noRoom (blockTask id .noRoom s), false)

/-- Activation of a PARK or HOME: it needs nothing, and its destination is the rail position of R63 as it stands (R66, R172).
That an ACTIVE or SUSPENDED one keeps that value is the model's reading (log 30). -/
def activateTravel (id : Nat) (s : State) : State × Bool :=
  (s.modTask id (fun t =>
    { t with state := .active, block := none, step := .travel, dest := some (.rail (s.params.travelEnd t.crane t.kind)) }),
    true)

/-- Activation of a task; a RELOCATE is never queued (R62, R65, R66). -/
def activate (id : Nat) (s : State) : State × Bool :=
  match s.task? id with
  | some t =>
    match t.kind with
    | .fetch => activateFetch id t s
    | .stow => activateStow id t s
    | .park => activateTravel id s
    | .home => activateTravel id s
    | .relocate => (s, false)
  | none => (s, false)

/-- An activated task leaves the queue and becomes the crane's active task; a PARK clears the standing
yield (R64, R82). -/
def makeActive (k : Crane) (id : Nat) (s : State) : State :=
  let park : Bool := match s.task? id with
    | some t => decide (t.kind = .park)
    | none => false
  markDue k (s.modCrane k (fun c =>
    { c with queue := c.queue.erase id, active := some id,
             standingYield := if park then none else c.standingYield }))

/-! ### The stack and the end of tasks (R73) -/

/-- A suspended task becomes ACTIVE again; the claim of a FETCH becomes FETCHING if it is QUEUED
(R32, R73, R77, log 20). -/
def resumeTask (id : Nat) (s : State) : State :=
  let s := s.modTask id (fun t => { t with state := .active })
  match s.task? id with
  | some t => if t.kind = .fetch then t.claim.elim s (fun c => claimFetching c s) else s
  | none => s

/-- Pops a crane's stack when the crane has no active task and its aisle is NORMAL; `notice` says
whether the pop follows a completion or removal and latches TASK_READY (R73). -/
def popStack (k : Crane) (notice : Bool) (s : State) : State :=
  match (s.crane k).active, (s.crane k).stack, s.normal (aisleOf k) with
  | none, id :: rest, true =>
    let s := resumeTask id (s.modCrane k (fun c => { c with active := some id, stack := rest }))
    markDue k (if notice then latchK k .taskReady s else s)
  | _, _, _ => s

/-- Takes a task off its crane's queue, stack and active place, frees its entry and pops the stack if
it was active (R60, R73, R83). A FETCH that leaves the queue signals its slot (R62); a suspended task
that leaves the stack owes a test (R74). That an active task which ends with no pop owes one too, although R74 names
activation, pop and reversal alone, is the model's choice (log 53): the test finds no preemption due and clears the room
refusal flag. -/
def endTask (id : Nat) (s : State) : State :=
  match s.task? id with
  | some t =>
    let k := t.crane
    let c := s.crane k
    let wasActive := decide (c.active = some id)
    let wasQueued := c.queue.contains id
    let wasStacked := c.stack.contains id
    let s := (s.dropTask id).modCrane k (fun c =>
      { c with queue := c.queue.erase id, stack := c.stack.erase id,
               active := if c.active = some id then none else c.active })
    let s := if wasQueued && decide (t.kind = .fetch) then slotFreed k s else s
    let s := if wasActive || wasStacked then markDue k s else s
    if wasActive then popStack k true s else s
  | none => s

/-- A task completes: it is recorded as the crane's last completed task and freed (R60, R73). -/
def completeTask (id : Nat) (s : State) : State :=
  match s.task? id with
  | some t => endTask id (s.modCrane t.crane (fun c => { c with lastCompleted := some (id, t.kind) }))
  | none => s

/-- The removal of an active task sets the marker REMOVED and latches TASK_READY (R79, R83). -/
def markRemoved (id : Nat) (s : State) : State :=
  match s.task? id with
  | some t =>
    if (s.crane t.crane).active = some id then latchK t.crane .taskReady (setMarker t.crane .removed s) else s
  | none => s

/-- Withdraws a STOW: one that is QUEUED or BLOCKED leaves the queue, one at its PICK gives its lane slot back, and one
past its PICK, which carries its bin, stays (R79). -/
def removeStow (id : Nat) (s : State) : State :=
  match s.task? id with
  | some t =>
    let atWork := t.state = .active ∨ t.state = .suspended
    if atWork ∧ t.step ≠ .pick then s
    else
      let s := markRemoved id s
      let s := if atWork then t.destLane.elim s (fun i => releaseSlots i 1 s) else s
      endTask id s
  | none => s

/-- A FETCH with its current blocking bin on the fork becomes a RELOCATE of that bin in the same entry:
the other entries' slots, the source hold and the station promise are released (R83). -/
def convertFetch (id : Nat) (t : Task) (s : State) : State :=
  match t.unfinished with
  | (b, i) :: rest =>
    let s := s.setTask id
      { t with kind := .relocate, bin := some b, source := none, dest := some (.lane i),
               claim := none, dig := [], digLeft := 0, hold := 0 }
    let s := releaseHold t (releaseEntries rest s)
    match t.dest with
    | some (.station p) => releasePosition t.crane p s
    | _ => s
  | [] => s

/-- Removes or converts a FETCH whose claim was cancelled before its target was picked (R83); QUIESCE tasks
are re-examined (R67). The model's choice (log 54): the slot signal of a marker PUSH that REMOVED replaces is given
before the promise, the slots, the hold and the entry are freed, so that the FETCH it admits cannot take this task ID. -/
def removeFetch (id : Nat) (s : State) : State :=
  match s.task? id with
  | some t =>
    laneQuieter (
      if t.state = .active ∨ t.state = .suspended then
        if t.step = .relocSet then convertFetch id t s
        else
          endTask id (releaseHold t (releaseEntries t.unfinished
            (releasePromise t.crane id (markRemoved id s))))
      else endTask id s)
  | none => s

/-! ### Preemption (R74, R75, R76) -/

/-- The class cap that the task unit gives for a crane (R63). -/
def State.classCap (s : State) (k : Crane) : Nat :=
  match (s.crane k).active.bind s.task? with
  | some t => if t.cls = 0 then s.params.vFire else if t.cls = 1 then s.params.vCreep else s.params.vMax[k]
  | none => s.params.vCreep

/-- Whether the crane of an active task is at a step boundary (R74). -/
def State.atBoundary (s : State) (k : Crane) (t : Task) : Bool :=
  (decide (t.step = .relocPick) || decide (t.step = .pick)) && (s.fork k).isNone && t.yield.isNone

/-- Whether a candidate is not held to the boundary condition: a PARK, or a HOME (R74). -/
def Task.immediate (t : Task) : Bool := decide (t.kind = .park) || decide (t.kind = .home)

/-- The room condition of R74. -/
def State.stackRoom (s : State) (k : Crane) (t : Task) : Bool :=
  decide ((s.crane k).stack.length < if 2 ≤ t.cls then 3 else 4)

/-- Suspends the active task `old` and makes the activated candidate active, then sets the marker (R75). A marker
PUSH that it replaces gives the signal that the FETCH `old` still owed (R62). -/
def pushActive (k : Crane) (old new : Nat) (t : Task) (s : State) : State :=
  let owed := decide ((s.crane k).undelivered = .push) &&
    match s.task? old with
    | some o => decide (o.kind = .fetch)
    | none => false
  let s := s.modTask old (fun o => { o with state := .suspended, yield := none })
  let s := s.modCrane k (fun c => { c with stack := old :: c.stack, roomRefusal := false })
  let s := makeActive k new s
  let s := s.modCrane k (fun c => { c with undelivered := if t.immediate then .parkPush else .push })
  let s := if owed then slotFreed k s else s
  let s := latchK k .taskReady s
  if t.kind = .park then latchK k .firePark s else s

/-- The preemption test of a crane (R74 to R76). Tasks in `tried`, whose activation blocked them in this
step, are passed over (log 3). Answers the tasks tried. -/
def preemptTest (k : Crane) (tried : List Nat) (s : State) : State × List Nat :=
  let cand := (s.crane k).queue.find? (fun id => s.eligibleId id && !tried.contains id)
  match cand.bind (fun id => (s.task? id).map (fun t => (id, t))),
        (s.crane k).active.bind (fun id => (s.task? id).map (fun t => (id, t))) with
  | some (new, t), some (old, o) =>
    if t.cls < o.cls then
      if t.immediate || s.atBoundary k o then
        if s.stackRoom k t then
          match activate new s with
          | (s, true) => (pushActive k old new t s, tried)
          | (s, false) => (markDue k s, new :: tried)
        else if (s.crane k).roomRefusal then (s, tried)
        else (latchStackFull k (s.modCrane k (fun c => { c with roomRefusal := true })), tried)
      else (s, tried)
    else (s.modCrane k (fun c => { c with roomRefusal := false }), tried)
  | _, _ => (s.modCrane k (fun c => { c with roomRefusal := false }), tried)

/-- Runs the preemption tests owed in this step, lowest crane first, until none is owed (R74). -/
def settleTests : Nat → List Nat → State → State
  | 0, _, s => { s with due := Vector.replicate 4 false }
  | n + 1, tried, s =>
    match allCranes.find? (fun k => s.due[k]) with
    | none => s
    | some k =>
      let r := preemptTest k tried { s with due := s.due.set k false }
      settleTests n r.2 r.1

/-- Runs the tests owed. A step owes fewer than 400 (log 3). -/
def settle (s : State) : State := settleTests 400 [] s

end Sys2Proof.Machine
end

