-- ==== Sys2Proof/Machine/ClaimOps.lean ====
section
/-!
DEFINITION. The shared operations of the claim unit (Chapter 2) and the moves of bins (R8): presenting, placing, redirecting,
handing on, creating and ending claims.
-/
namespace Sys2Proof.Machine

/-! ### Steps of a task (R63) -/

/-- The bin of a task's current step (R63). -/
def Task.stepBin (t : Task) : Option Nat :=
  match t.step with
  | .relocPick | .relocSet =>
    if t.kind = .relocate then t.bin else t.unfinished.head?.map Prod.fst
  | .pick | .set => t.bin
  | .travel => none

/-- The lane where a task's set step is planned to put its bin, redirected or not (R63, R78). -/
def Task.plannedLane (t : Task) : Option Nat :=
  match t.step with
  | .relocSet => if t.kind = .relocate then t.destLane else t.unfinished.head?.map Prod.snd
  | .set => t.destLane
  | _ => none

/-- Whether a task carries a bin on the fork toward its crane's station: the SET of a FETCH, or a
redirected step (R47, R53). -/
def Task.boundForStation (t : Task) (b : Nat) : Bool :=
  (decide (t.step = .set) && decide (t.kind = .fetch) && decide (t.bin = some b))
    || (t.redirect.isSome && decide (t.stepBin = some b))

/-- Whether a bin on crane k's fork is carried by a step whose destination is station k (R53). -/
def State.carriedToStation (s : State) (k : Crane) (b : Nat) : Bool :=
  ((s.crane k).active.toList ++ (s.crane k).stack).any (fun id =>
    match s.task? id with
    | some t => t.boundForStation b
    | none => false)

/-! ### Moves of bins (R8) -/

/-- The front entry of a lane is picked: the bin becomes ON_CRANE and its reference flag is set (R8,
R10). -/
def pickFromLane (k : Crane) (b lane : Nat) (s : State) : State :=
  (s.modBin b (fun r => { r with place := .onCrane k, reference := true })).modLane lane
    (fun l => { l with contents := l.contents.erase b })

/-- The bin at a station position is picked; the position is freed (R8, R10, R23). -/
def pickFromStation (k : Crane) (b : Nat) (p : Pos) (s : State) : State :=
  positionFreed k
    ((s.modBin b (fun r => { r with place := .onCrane k, reference := true })).modStation k
      (fun st => { st with bins := st.bins.set p none }))

/-- A bin is set down in a lane: it joins the front and incoming falls by 1 (R8). -/
def setInLane (b lane : Nat) (s : State) : State :=
  (s.modBin b (fun r => { r with place := .stored lane })).modLane lane
    (fun l => { l with contents := b :: l.contents, incoming := l.incoming - 1 })

/-- A bin is set down at a promised station position; the promise is consumed (R8, R23). -/
def setAtStation (k : Crane) (b : Nat) (p : Pos) (s : State) : State :=
  (s.modBin b (fun r => { r with place := .atStation k p })).modStation k
    (fun st => { st with bins := st.bins.set p (some b), promises := st.promises.set p none })

/-! ### Presenting (R30, R32) -/

/-- A claim is presented: PRESENTED, or HELD at a SHUTTERED station, with a fresh dwell (R32, R41). -/
def presentClaim (id : Nat) (s : State) : State :=
  touchClaim id (fun c =>
    { c with state := if (s.station c.station).state = .shuttered then .held else .presented,
             presented := some s.wingTime, dwell := s.params.dwell * 1000 }) s

/-- The STOW of a bin, if one is in the task table (R79). -/
def State.stowOf (s : State) (b : Nat) : Option Nat :=
  (s.tasks.entries.find? (fun e => decide (e.2.kind = .stow) && decide (e.2.bin = some b))).map Prod.fst

/-- The FETCH of a bin toward a station that names no claim (R30). -/
def State.spareFetch (s : State) (b : Nat) (k : Crane) : Option Nat :=
  (s.tasks.entries.find? (fun e =>
    decide (e.2.kind = .fetch) && decide (e.2.bin = some b) && decide (e.2.crane = k)
      && e.2.claim.isNone)).map Prod.fst

/-- A queued or blocked task takes a lower class and moves to its new place in the queue (R62, R79). -/
def lowerClass (id cls : Nat) (s : State) : State :=
  match s.task? id with
  | some t =>
    if (t.state = .queued ∨ t.state = .blocked) ∧ cls < t.cls then
      let s := s.setTask id { t with cls := cls }
      s.modCrane t.crane (fun c => { c with queue := s.enqueue id (c.queue.erase id) })
    else s
  | none => s

/-- Admission of a STOW for a bin standing at a station position; a bin that already has one gets no
second (R79). -/
def admitStow (b : Nat) (k : Crane) (p : Pos) (cls : Nat) (s : State) : State :=
  match s.stowOf b with
  | some id => lowerClass id cls s
  | none => admitTask { Task.new k .stow cls .pick with bin := some b, source := some (.station p) } s

/-! ### Placing a claim (R30) -/

/-- Whether a task's step carries its bin and may be redirected: the RELOC_SET of a FETCH or RELOCATE, or the
SET of a STOW (R78). -/
def Task.mayRedirect (t : Task) : Bool :=
  (decide (t.step = .relocSet) && (decide (t.kind = .fetch) || decide (t.kind = .relocate)))
    || (decide (t.step = .set) && decide (t.kind = .stow))

/-- The active task of crane k that may be redirected with bin b on the fork, and the free position of the
station that it would take (R78). A step already redirected may be redirected again only when its redirection
names no claim (log 15). -/
def State.redirectable (s : State) (k : Crane) (b : Nat) : Option (Nat × Task × Pos) :=
  match (s.crane k).active.bind (fun id => (s.task? id).map (fun t => (id, t))) with
  | some (id, t) =>
    if s.normal (aisleOf k) && decide (t.stepBin = some b) && t.mayRedirect
        && (t.redirect.bind Redirect.claim).isNone then
      (s.station k).freePos.map (fun p => (id, t, p))
    else none
  | none => none

/-- Redirects the active step of crane k to its station for a claim (R78). The position of a redirection that
it replaces is given up (R23, log 15). -/
def redirectStep (k : Crane) (id : Nat) (t : Task) (p : Pos) (claimId : Nat) (s : State) : State :=
  let s := touchClaim claimId (fun c => { c with state := .fetching, task := some id }) s
  let s := t.redirect.elim s (fun r => releasePosition k r.pos s)
  let kept := t.redirect.elim true Redirect.kept
  let s := promise k p id (s.setTask id { t with redirect := some ⟨some claimId, p, kept⟩ })
  latchK k .taskReady (setMarker k .redirect s)

/-- Placing the claim at the head of its bin's chain: the first case of R30 that applies. -/
def placeClaim (claimId : Nat) (s : State) : State :=
  match s.claim? claimId with
  | none => s
  | some c =>
    match s.bin? c.bin with
    | none => s
    | some r =>
      let atPlace : Bool := match r.place with
        | .atStation k _ => decide (k = c.station)
        | _ => false
      if atPlace then
        presentClaim claimId ((s.stowOf c.bin).elim s (fun id => removeStow id s))
      else
        let redir := match r.place with
          | .onCrane k => if k = c.station then s.redirectable k c.bin else none
          | _ => none
        match redir with
        | some (id, t, p) => redirectStep c.station id t p claimId s
        | none =>
          match s.spareFetch c.bin c.station with
          | some id =>
            let s1 := lowerClass id c.cls (s.modTask id (fun t => { t with claim := some claimId }))
            let isActive : Bool := match s.task? id with
              | some t => decide (t.state = .active)
              | none => false
            touchClaim claimId (fun c =>
              { c with task := some id, state := if isActive then .fetching else .queued }) s1
          | none =>
            match r.place with
            | .stored _ =>
              if s.fetchRoom c.station then admitFetch claimId s
              else { s with backlog := s.backlog ++ [claimId] }
            | _ => s

/-- The head of a bin's chain (2.4). -/
def State.chainHead (s : State) (b : Nat) : Option Nat := (s.bin? b).bind (fun r => r.chain.head?)

/-- The hand-on of a bin standing at station k (R33). -/
def handOn (b : Nat) (k : Crane) (p : Pos) (s : State) : State :=
  match s.chainHead b with
  | some h =>
    match s.claim? h with
    | some c => if c.station = k then placeClaim h s else admitStow b k p (min 4 c.cls) s
    | none => s
  | none => admitStow b k p 4 s

/-- The hand-on of a bin, if it stands at a station (R33). -/
def handOnBin (b : Nat) (s : State) : State :=
  match s.bin? b with
  | some r =>
    match r.place with
    | .atStation k p => handOn b k p s
    | _ => s
  | none => s

/-- After a set-down in a lane: the bin's head claim, if it waits with reason STORAGE, is placed again
(R30, R70). -/
def binStored (b : Nat) (s : State) : State :=
  match s.chainHead b with
  | some h =>
    match s.claim? h with
    | some c =>
      if c.state = .queued ∧ c.task = none ∧ ¬ s.backlog.contains h then placeClaim h s else s
    | none => s
  | none => s

/-! ### Claim entries (R25, R26, R29) -/

/-- A live claim is QUEUED, FETCHING, PRESENTED or HELD (R25). -/
def ClaimState.live : ClaimState → Bool
  | .queued | .fetching | .presented | .held => true
  | .done | .cancelled | .expired => false

/-- The final claim with the oldest created time, the lower ID first (R26). -/
def State.oldestFinal (s : State) : Option Nat :=
  ((s.claims.entries.filter (fun e => !e.2.state.live)).foldl
    (fun best e => match best with
      | none => some (e.1, e.2.created)
      | some (i, t) => if e.2.created < t then some (e.1, e.2.created) else some (i, t)) none).map Prod.fst

/-- The entry a new claim takes (R26). -/
def State.claimEntry (s : State) : Option Nat :=
  match s.claims.lowestFree 128 with
  | some id => some id
  | none => s.oldestFinal

/-- The class of a claim (R25). -/
def claimClass (kind : ClaimKind) (urgent : Bool) : Nat :=
  match kind with
  | .lend => if urgent then 2 else 3
  | .ret => 4
  | .audit => 5

/-- The units of a RETURN claim's PENDING items; 0 for another kind (R37). -/
def Claim.pendingUnits (c : Claim) : Nat :=
  match c.kind with
  | .ret => ((c.items.filter (fun i => decide (i.outcome = .pending))).map Item.units).sum
  | _ => 0

/-- Creation of a claim in an entry: QUEUED with the present wing time; a RETURN claim's units are
reserved; it joins the end of the chain and is placed if the chain was empty (R29). -/
def createClaim (id : Nat) (kind : ClaimKind) (urgent : Bool) (b : Nat) (st : Crane)
    (items : List (BitVec 32 × Nat)) (s : State) : State :=
  let c : Claim :=
    { kind := kind, urgent := decide (kind = .lend) && urgent,
      cls := claimClass kind urgent, bin := b, station := st,
      state := .queued, created := s.wingTime, presented := none, dwell := 0,
      items := items.map (fun i => ⟨i.1, i.2, .pending⟩), unseen := true, task := none }
  let first := (s.chainHead b).isNone
  let s := latchC .claimChanged (s.setClaim id c)
  let s := s.modBin b (fun r =>
    { r with reserved := r.reserved + c.pendingUnits, chain := r.chain ++ [id] })
  if first then placeClaim id s else s

/-! ### Ending a claim (R38, R39, R42) -/

/-- What a PENDING item becomes when its claim ends (R38). -/
def Item.settled (kind : ClaimKind) (i : Item) : Item :=
  if i.outcome = .pending then
    { i with outcome := match kind with
        | .ret => .withdrawn
        | _ => .notCollected }
  else i

/-- A claim ends: its PENDING items are settled, the units of withdrawn items come off the bin's
reserved units, it becomes final, leaves the backlog and the chain, and loses its task ID (R38, R39,
R42). -/
def endClaim (id : Nat) (final : ClaimState) (s : State) : State :=
  match s.claim? id with
  | some c =>
    let s := s.modBin c.bin (fun r =>
      { r with reserved := r.reserved - c.pendingUnits, chain := r.chain.erase id })
    touchClaim id (fun c =>
      { c with state := final, items := c.items.map (Item.settled c.kind), task := none })
      { s with backlog := s.backlog.erase id }
  | none => s

/-- A PRESENTED claim ends and its bin is handed on (R38, R40, R42). -/
def endPresented (id : Nat) (final : ClaimState) (s : State) : State :=
  match s.claim? id with
  | some c => handOnBin c.bin (endClaim id final s)
  | none => s

/-- Whether a claim, as the new head of its chain, would take the spare FETCH of its bin: it is for
station k and neither the first nor the second case of R30 applies (R34, R39). -/
def State.takesFetch (s : State) (b : Nat) (k : Crane) : Bool :=
  match s.chainHead b with
  | some h =>
    match s.claim? h with
    | some c => decide (c.station = k) && match s.bin? b with
      | some r => (match r.place with
        | .stored _ => true
        | .onCrane j => !(decide (j = k) && (s.redirectable k b).isSome)
        | .atStation j _ => decide (j ≠ k))
      | none => false
    | none => false
  | none => false

/-- Settles the task of a cancelled claim (R39): a FETCH before its pick is removed or converted unless
it passes to the new head; a FETCH past its pick and a redirected step go on with no claim. -/
def settleTask (claimId : Nat) (c : Claim) (s : State) : State :=
  match c.task with
  | none => s
  | some tid =>
    match s.task? tid with
    | none => s
    | some t =>
      if t.claim = some claimId then
        if t.step = .set ∨ s.takesFetch c.bin c.station = true then
          s.setTask tid { t with claim := none }
        else removeFetch tid s
      else
        match t.redirect with
        | some r =>
          if r.claim = some claimId then s.setTask tid { t with redirect := some { r with claim := none } } else s
        | none => s

/-- CANCEL of a QUEUED or FETCHING claim (R34, R39). -/
def cancelWaiting (id : Nat) (s : State) : State :=
  match s.claim? id with
  | some c =>
    let wasHead := decide (s.chainHead c.bin = some id)
    let s := settleTask id c (endClaim id .cancelled s)
    if wasHead then (s.chainHead c.bin).elim s (fun h => placeClaim h s) else s
  | none => s

/-- The wait reason of a claim: NONE 0, TASK 1, BACKLOG 2, STORAGE 3, TURN 4 (R30). -/
def State.waitReason (s : State) (id : Nat) (c : Claim) : Nat :=
  match c.state with
  | .queued | .fetching =>
    if s.chainHead c.bin ≠ some id then 4
    else match c.task with
      | some tid =>
        match (s.task? tid).bind Task.redirect with
        | some r => if r.claim = some id then 0 else 1
        | none => 1
      | none => if s.backlog.contains id then 2 else 3
  | _ => 0

end Sys2Proof.Machine
end

