-- ==== Sys2Proof/Config.lean ====
section
/-!
DEFINITION. Free values: constants with no body that stand for what the manual leaves open. No proof can know one.
-/
namespace Sys2Proof

/-- Which of the events of one millisecond is taken next: an index for a wing time and a number of
events left. The manual gives no order among them (log 11). -/
opaque Config.tieBreak : Nat → Nat → Nat

/-- The byte sent for the units of a QUERY PLACE response in IDLE: R57 makes the field absent and
R157 gives its type no absent form (log 12). -/
opaque Config.absentUnits : Byte

/-- The bytes sent for the item number of a QUERY PLACE response in IDLE (log 12). -/
opaque Config.absentItemNumber : BitVec 32

/-- The 4-byte field of a position that lies outside the signed 32-bit range (R102, R157; log 12). -/
opaque Config.widePosition : Int → BitVec 32

/-- The 4-byte field of a deviation of 2^32 µm or more (R95, R157; log 12). -/
opaque Config.wideDeviation : Nat → BitVec 32

end Sys2Proof
end

