-- ==== Sys2Proof/Machine/Operands.lean ====
section
/-!
DEFINITION. Frames: the request kinds and their body lengths (R158), the status codes (R159), the frame layouts and field
types (R157), reading a request body and writing a response body.
-/
namespace Sys2Proof.Machine

/-! ### Request kinds (R158) -/

/-- The code of a kind (R158). -/
def Kind.code : Kind → Nat
  | .null => 0
  | .readNotices => 1
  | .setMask => 2
  | .configure => 16
  | .loadLane => 17
  | .loadStation => 18
  | .openWing => 19
  | .registerBin => 20
  | .removeBin => 21
  | .claim => 32
  | .pick => 33
  | .count => 34
  | .release => 35
  | .cancel => 36
  | .place => 40
  | .queryPlace => 41
  | .queryBin => 48
  | .queryLane => 49
  | .queryClaim => 50
  | .changedClaims => 51
  | .queryCrane => 52
  | .station => 56
  | .setLaneKeys => 57
  | .sweep => 58
  | .querySweep => 59
  | .cancelSweep => 60
  | .resumeAisle => 61
  | .wingRestart => 62
  | .nextStep => 80
  | .grant => 81
  | .arrived => 82
  | .picked => 83
  | .setDown => 84
  | .driveFault => 85
  | .restart => 86
  | .queryRail => 87

/-- All kinds, in the order of R158. -/
def allKinds : List Kind :=
  [.null, .readNotices, .setMask, .configure, .loadLane, .loadStation, .openWing, .registerBin, .removeBin,
   .claim, .pick, .count, .release, .cancel, .place, .queryPlace, .queryBin, .queryLane, .queryClaim,
   .changedClaims, .queryCrane, .station, .setLaneKeys, .sweep, .querySweep, .cancelSweep, .resumeAisle,
   .wingRestart, .nextStep, .grant, .arrived, .picked, .setDown, .driveFault, .restart, .queryRail]

/-- The kind of a code, if it is one of R158. -/
def Kind.ofCode (n : Nat) : Option Kind := allKinds.find? (fun k => k.code == n)

/-- Whether a port accepts a kind: NULL, READ NOTICES and SET MASK at both, codes 16 to 62 at port C,
codes 80 to 87 at a K port (R152, R158). -/
def Kind.permitted (k : Kind) : Port → Bool
  | .c => decide (k.code < 80)
  | .k _ => decide (k.code < 16) || decide (80 ≤ k.code)

/-! ### Reading a body (R157: little-endian, signed fields in two's complement) -/

/-- Body byte `i` as a number. -/
def byteAt (b : List Byte) (i : Nat) : Nat := (b.getD i 0).toNat
/-- The 2-byte field at offset `i`. -/
def wordAt (b : List Byte) (i : Nat) : Nat := byteAt b i + 256 * byteAt b (i + 1)
/-- The 4-byte field at offset `i` as bits. -/
def longAt (b : List Byte) (i : Nat) : BitVec 32 :=
  (b.getD (i + 3) 0) ++ (b.getD (i + 2) 0) ++ (b.getD (i + 1) 0) ++ (b.getD i 0)
/-- The signed 4-byte field at offset `i`. -/
def signedAt (b : List Byte) (i : Nat) : Int := (longAt b i).toInt

/-- Whether a body's length is the one its kind requires (R158, check 4 of R155). -/
def Kind.lengthOk (k : Kind) (b : List Byte) : Bool :=
  match k with
  | .null | .readNotices | .openWing | .queryPlace | .changedClaims | .querySweep | .cancelSweep
  | .wingRestart | .nextStep | .arrived | .setDown | .restart => b.length == 0
  | .release | .cancel | .resumeAisle | .driveFault | .queryRail => b.length == 1
  | .setMask | .removeBin | .count | .queryBin | .queryClaim | .queryCrane | .picked => b.length == 2
  | .pick | .station => b.length == 3
  | .queryLane | .sweep => b.length == 4
  | .setLaneKeys => b.length == 5
  | .loadStation | .registerBin | .grant => b.length == 6
  | .place => b.length == 7
  | .configure => b.length % 7 == 0 && decide (1 ≤ b.length / 7) && decide (b.length / 7 ≤ 8)
  | .loadLane => decide (7 ≤ b.length) && decide (byteAt b 6 ≤ 17) && b.length == 7 + 3 * byteAt b 6
  | .claim => decide (6 ≤ b.length) && decide (byteAt b 5 ≤ 8) && b.length == 6 + 5 * byteAt b 5

/-! ### Writing a body (R157) -/

/-- A 1-byte number. -/
def put8 (n : Nat) : List Byte := [BitVec.ofNat 8 n]
/-- A 2-byte number, little-endian. -/
def put16 (n : Nat) : List Byte := [BitVec.ofNat 8 n, BitVec.ofNat 8 (n / 256)]
/-- A 32-bit field, little-endian. -/
def putBits (w : BitVec 32) : List Byte :=
  [w.extractLsb' 0 8, w.extractLsb' 8 8, w.extractLsb' 16 8, w.extractLsb' 24 8]
/-- A 4-byte number, its low 32 bits. -/
def put32 (n : Nat) : List Byte := putBits (BitVec.ofNat 32 n)
/-- A signed 4-byte number. -/
def putInt (i : Int) : List Byte := putBits (BitVec.ofInt 32 i)
/-- A flag: 0 clear, 1 set. -/
def putFlag (b : Bool) : List Byte := put8 (if b then 1 else 0)
/-- A 1-byte field, or its absent form 255. -/
def put8? (o : Option Nat) : List Byte := put8 (o.getD 255)
/-- A 2-byte field, or its absent form 65,535. -/
def put16? (o : Option Nat) : List Byte := put16 (o.getD 65535)
/-- A wing time or remaining time, or its absent form (low 32 bits, R173). -/
def putTime? (o : Option Nat) : List Byte := put32 (o.getD 4294967295)
/-- A position in mm. One that lies outside the field's range is a free value (log 12). -/
def putPos (i : Int) : List Byte :=
  if -2147483648 ≤ i ∧ i ≤ 2147483647 then putInt i else putBits (Config.widePosition i)
/-- A position, or its absent form −2,147,483,648. -/
def putPos? : Option Int → List Byte
  | some i => putPos i
  | none => putInt (-2147483648)
/-- A deviation in µm, or its absent form. One that does not fit its field is a free value (log 12). -/
def putDeviation? : Option Nat → List Byte
  | some d => if d < 4294967296 then put32 d else putBits (Config.wideDeviation d)
  | none => put32 4294967295
/-- A lane address: aisle, side, bay, level (R157). -/
def putLaneAddr (p : Params) (i : Nat) : List Byte :=
  put8 (p.laneAisle i).val ++ put8 (p.laneSide i) ++ put8 (p.laneBay i) ++ put8 (p.laneLevel i)
/-- The absent form of a lane address. -/
def putNoLaneAddr : List Byte := [255, 255, 255, 255]
/-- A list field: the count of entries, then the entries (R157). -/
def putList {α : Type} (f : α → List Byte) (l : List α) : List Byte := put8 l.length ++ l.flatMap f
/-- A travel, or absent: target and speed. -/
def putTravel? : Option Travel → List Byte
  | some t => putPos t.target ++ put16 t.speed
  | none => putPos? none ++ put16? none
/-- Both edges of a stretch. -/
def putSpan (sp : Span) : List Byte := putPos sp.west ++ putPos sp.east

/-! ### Codes of states, kinds, outcomes and reasons: their order in the owning rule, from 0 (R157) -/

/-- R1. -/
def WingState.code : WingState → Nat
  | .loading => 0
  | .opened => 1
/-- R21. -/
def StationState.code : StationState → Nat
  | .opened => 0
  | .closed => 1
  | .shuttered => 2
/-- R21. -/
def Staff.code : Staff → Nat
  | .opened => 0
  | .closed => 1
/-- R25. -/
def ClaimKind.code : ClaimKind → Nat
  | .lend => 0
  | .ret => 1
  | .audit => 2
/-- R25. -/
def ClaimState.code : ClaimState → Nat
  | .queued => 0
  | .fetching => 1
  | .presented => 2
  | .held => 3
  | .done => 4
  | .cancelled => 5
  | .expired => 6
/-- R25: the LEND outcomes PENDING, TAKEN, ABSENT, NOT_COLLECTED and the RETURN outcomes PENDING,
PLACED, WITHDRAWN. -/
def ItemOutcome.code : ItemOutcome → Nat
  | .pending => 0
  | .taken => 1
  | .absent => 2
  | .notCollected => 3
  | .placed => 1
  | .withdrawn => 2
/-- R51. -/
def SearchState.code : SearchState → Nat
  | .idle => 0
  | .running => 1
  | .complete => 2
/-- R56. -/
def NoPlaceReason.code : NoPlaceReason → Nat
  | .closed => 0
  | .full => 1
  | .contended => 2
  | .tableFull => 3
/-- R60. -/
def TaskKind.code : TaskKind → Nat
  | .fetch => 0
  | .stow => 1
  | .relocate => 2
  | .park => 3
  | .home => 4
/-- R60. -/
def TaskStep.code : TaskStep → Nat
  | .relocPick => 0
  | .relocSet => 1
  | .pick => 2
  | .set => 3
  | .travel => 4
/-- R86. -/
def ChannelState.code : ChannelState → Nat
  | .uncalibrated => 0
  | .calibrated => 1
  | .faulted => 2
/-- R86. -/
def ChannelFault.code : ChannelFault → Nat
  | .none => 0
  | .quadrature => 1
  | .implausible => 2
  | .slip => 3
  | .reconfigured => 4
/-- R86. -/
def Direction.code : Direction → Nat
  | .east => 0
  | .west => 1
  | .none => 2
/-- R105. -/
def CraneState.code : CraneState → Nat
  | .offline => 0
  | .unhomed => 1
  | .ready => 2
  | .silent => 3
  | .lost => 4
  | .stopped => 5
  | .parked => 6
/-- R105. -/
def SilentFrom.code : SilentFrom → Nat
  | .ready => 0
  | .unhomed => 1
/-- R105. -/
def StopCause.code : StopCause → Nat
  | .none => 0
  | .powerOn => 1
  | .channel => 2
  | .overrun => 3
  | .mismatch => 4
  | .drive => 5
  | .link => 6
  | .fire => 7
/-- R105. -/
def Reservation.code : Reservation → Nat
  | .calibrated _ => 0
  | .homeSide _ => 1
  | .frozen _ => 2
/-- R126. -/
def FireState.code : FireState → Nat
  | .normal => 0
  | .parking => 1
  | .closing => 2
  | .sealed => 3
  | .reopening => 4
/-- R142. -/
def SweepState.code : SweepState → Nat
  | .none => 0
  | .running => 1
  | .paused => 2
  | .done => 3
/-- R125: open, closed, or neither. -/
def Shutter.conditionCode (r : Shutter) : Nat := if r.isOpen then 0 else if r.isClosed then 1 else 2

/-- The status codes (R159). -/
def Status.code : Status → Nat
  | .ok => 0
  | .accepted => 1
  | .clamped => 2
  | .partly => 3
  | .held => 4
  | .notReady => 5
  | .badFrame => 6
  | .notPermitted => 7
  | .wingState => 8
  | .noSuch => 9
  | .duplicate => 10
  | .busy => 11
  | .tableFull => 12
  | .keyDenied => 13
  | .aisleClosed => 14
  | .stationClosed => 15
  | .wrongAisle => 16
  | .noRoom => 17
  | .outOfRange => 18
  | .mismatch => 19
  | .moving => 20
  | .notCalibrated => 21
  | .fireActive => 22
  | .doneAlready => 23

/-- The 64 bytes of a response frame: status, kind echo, tag echo, body length, then the body, filled
with zeros (R157). -/
def Response.bytes (r : Response) : List Byte :=
  put8 r.status.code ++ [r.kind, r.tag] ++ put8 r.body.length ++ (r.body ++ List.replicate 60 0).take 60

/-! ### Station and crane numbers in a body -/

/-- A crane or station number of a body; a number above 3 names none. -/
def craneOf (n : Nat) : Option Crane := if h : n < 4 then some ⟨n, h⟩ else none
/-- A station position of a body; a number above 1 names none. -/
def posOf (n : Nat) : Option Pos := if h : n < 2 then some ⟨n, h⟩ else none
/-- An aisle of a body; a number above 1 names none. -/
def aisleOfNat (n : Nat) : Option Aisle := if h : n < 2 then some ⟨n, h⟩ else none

/-- Whether a key is in a station's key mask (R21). -/
def Station.accepts (st : Station) (key : Nat) : Bool := st.keyMask.getLsbD key

/-! ### Bodies of requests with a list (R158) -/

/-- The entries of a LOAD LANE body: bin ID and fill, front first. -/
def laneEntries (b : List Byte) : List (Nat × Nat) :=
  (List.range (byteAt b 6)).map (fun i => (wordAt b (7 + 3 * i), byteAt b (9 + 3 * i)))

/-- The items of a CLAIM body: item number and units. -/
def claimItems (b : List Byte) : List (BitVec 32 × Nat) :=
  (List.range (byteAt b 5)).map (fun i => (longAt b (6 + 5 * i), byteAt b (10 + 5 * i)))

/-- One entry of a CONFIGURE body: identifier, instance and value (R169). -/
structure ConfigEntry where
  id : Nat
  inst : Nat
  value : Int
  deriving DecidableEq, Repr

/-- The entries of a CONFIGURE body. -/
def configEntries (b : List Byte) : List ConfigEntry :=
  (List.range (b.length / 7)).map (fun i => ⟨wordAt b (7 * i), byteAt b (7 * i + 2), signedAt b (7 * i + 3)⟩)

end Sys2Proof.Machine
end

