-- ==== Sys2Proof/Machine/Ports.lean ====
section
/-!
DEFINITION. The port blocks (Chapters 9 and 10): transactions, the take of a request in flight, and the meanings of RESET_ASSERT,
TRANSACTION_START, READ_NOTICES, SET_MASK and CHANGED_CLAIMS.
-/
namespace Sys2Proof.Machine

/-- What an owning block answers: the state it leaves, the status and the body (R154). -/
structure Reply where
  state : State
  status : Status
  body : List Byte

/-- A refused request changes nothing and answers with body length 0 (R159). -/
def refuse (st : Status) (s : State) : Reply := ⟨s, st, []⟩

/-- An accepted request. -/
def reply (st : Status) (body : List Byte) (s : State) : Reply := ⟨s, st, body⟩

/-- The NOT_READY frame sent while a request is in flight (R154). -/
def notReadyFor (q : Request) : Response := ⟨.notReady, BitVec.ofNat 8 q.kind.code, q.tag, []⟩

/-- The owning block writes the response into the slot, which becomes HOLDING (R154). -/
def answer (p : Port) (q : Request) (r : Reply) : State :=
  r.state.modPort p (fun b =>
    { b with slot := .holding ⟨r.status, BitVec.ofNat 8 q.kind.code, q.tag, r.body⟩ })

/-- The request in flight at a port, if it is of a kind and its body satisfies a test; none while the
device is held in reset (R154, R173). -/
def State.inFlight (s : State) (p : Port) (kind : Kind) (form : List Byte → Bool) : Option Request :=
  if s.inReset then none
  else match (s.port p).slot with
    | .inFlight q => if q.kind = kind ∧ form q.body = true then some q else none
    | .holding _ => none

/-- Every body: the test of the kinds that one row of the table covers whole. -/
def anyBody (_ : List Byte) : Bool := true

/-- The owning block's take of the request in flight: it is carried out whole and answered in the same
step (R154). With no such request in flight there is nothing to take (log 10). -/
def take (p : Port) (kind : Kind) (form : List Byte → Bool) (serve : List Byte → State → Reply)
    (s : State) : State :=
  match s.inFlight p kind form with
  | some q => answer p q (serve q.body s)
  | none => s

/-! ### Transactions -/

/-- RESET_ASSERT: RESETN low or the supply below its level; transactions in progress are abandoned
(R152, R173). -/
def execResetAssert (s : State) : Host.Outcome State Fault Refusal :=
  .next { s with
    inReset := true,
    portC := { s.portC with transaction := none },
    portK := s.portK.map (fun p => { p with transaction := none }) }

/-- TRANSACTION_START: the port block chooses the frame it will send (R153, R154). -/
def execTransactionStart (p : Port) (s : State) : Host.Outcome State Fault Refusal :=
  .next (if s.inReset || (s.port p).transaction.isSome then s
    else s.modPort p (fun b => { b with transaction := some (match b.slot with
      | .holding r => ⟨r, true⟩
      | .inFlight q => ⟨notReadyFor q, false⟩) }))

/-- The 64 bytes that a port's data output sends in the transaction in progress (R153, R157); none while no
transaction is in progress, and in reset, when the output is at high impedance (R173). -/
def State.dataOut (s : State) (p : Port) : Option (List Byte) :=
  if s.inReset then none else (s.port p).transaction.map (fun tr => tr.sent.bytes)

/-- The effect of a valid frame at a port on its crane: the link timer restarts if armed, and a SILENT
crane returns to service unless the frame is a RESTART (R118, R119, R156). -/
def validFrame (p : Port) (kind : Kind) (s : State) : State :=
  match p with
  | .c => s
  | .k k =>
    let s := s.modRail k (fun r => if r.linkArmed then { r with linkLeft := s.params.linkTime } else r)
    if (s.rail k).state = .silent ∧ kind ≠ .restart then
      settle (changeRail k (fun r =>
        { r with
          state := (match r.silentFrom with
            | some .unhomed => .unhomed
            | _ => .ready),
          silentFrom := none }) s)
    else s

/-! ### Notices -/

/-- The source sets of a READ NOTICES response at port C (R166). -/
def putSources (latched : BitVec 16) (c : Sources) : List Byte :=
  let only (n : NoticeC) (v : Nat) : List Byte := put8 (if latched.getLsbD n.position then v else 0)
  only .fire c.fire.toNat ++ only .shutterFault c.shutterFault.toNat
    ++ only .craneFault c.craneFault.toNat ++ only .stackFull c.stackFull.toNat

/-- Clears the source sets of the kinds that were latched (R166). -/
def Sources.cleared (latched : BitVec 16) (c : Sources) : Sources :=
  { fire := if latched.getLsbD NoticeC.fire.position then 0 else c.fire,
    shutterFault := if latched.getLsbD NoticeC.shutterFault.position then 0 else c.shutterFault,
    craneFault := if latched.getLsbD NoticeC.craneFault.position then 0 else c.craneFault,
    stackFull := if latched.getLsbD NoticeC.stackFull.position then 0 else c.stackFull }

/-- READ NOTICES as carried out by the port block (R166). -/
def serveReadNotices (p : Port) (_ : List Byte) (s : State) : Reply :=
  let b := s.port p
  let body := put16 b.latch.toNat ++ put16 b.mask.toNat ++ (match p with
    | .c => putSources b.latch s.sources
    | .k _ => [])
  let s := s.modPort p (fun b => { b with latch := 0 })
  reply .ok body (match p with
    | .c => { s with sources := s.sources.cleared b.latch }
    | .k _ => s)

/-- READ_NOTICES (R166). -/
def execReadNotices (p : Port) (s : State) : Host.Outcome State Fault Refusal :=
  .next (take p .readNotices anyBody (serveReadNotices p) s)

/-- The number of notice kinds of a port: 9 at port C, 6 at a K port (R163). -/
def noticeKinds : Port → Nat
  | .c => 9
  | .k _ => 6

/-- SET MASK as carried out by the port block (R165). -/
def serveSetMask (p : Port) (body : List Byte) (s : State) : Reply :=
  let m := wordAt body 0
  if 2 ^ noticeKinds p ≤ m then refuse .outOfRange s
  else reply .ok (put16 m ++ put16 (s.port p).latch.toNat)
    (s.modPort p (fun b => { b with mask := BitVec.ofNat 16 m }))

/-- SET_MASK (R165). -/
def execSetMask (p : Port) (s : State) : Host.Outcome State Fault Refusal :=
  .next (take p .setMask anyBody (serveSetMask p) s)

/-- The claims with unseen-change flags set, in ascending ID (R167). -/
def State.unseenClaims (s : State) : List Nat :=
  (s.claims.entries.filter (fun e => e.2.unseen)).map Prod.fst

/-- CHANGED CLAIMS as carried out by the port block (R167). That the number listed is the count of the list is the model's reading
(log 13). -/
def serveChangedClaims (_ : List Byte) (s : State) : Reply :=
  let listed := s.unseenClaims.take 16
  let s' := forIds listed (fun id s => s.modClaim id (fun c => { c with unseen := false })) s
  reply .ok (putList put8 listed ++ putFlag (!s'.unseenClaims.isEmpty)) s'

/-- CHANGED_CLAIMS (R167). -/
def execChangedClaims (s : State) : Host.Outcome State Fault Refusal :=
  .next (take .c .changedClaims anyBody serveChangedClaims s)

end Sys2Proof.Machine
end

