-- ==== Sys2Proof/Machine/Audit.lean ====
section
/-!
DEFINITION. The audit unit (Chapter 8): SWEEP, SWEEP_VISIT, QUERY_SWEEP, CANCEL_SWEEP, SET_LANE_KEYS.
-/
namespace Sys2Proof.Machine

/-! ### Sweeps (R142 to R147) -/

/-- SWEEP as carried out by the audit unit (R143). -/
def serveSweep (body : List Byte) (s : State) : Reply :=
  let first := wordAt body 0
  let last := wordAt body 2
  if 8191 < first ∨ 8191 < last ∨ last < first then refuse .outOfRange s
  else if s.sweep.state ≠ .none then refuse .busy s
  else reply .ok (put16 first ++ put16 last) { s with sweep := ⟨.running, first, last, first, 0, 0, []⟩ }

/-- SWEEP (R143). -/
def execSweep (s : State) : Host.Outcome State Fault Refusal :=
  .next (take .c .sweep anyBody serveSweep s)

/-- A visited bin's flags after the visit (R144). -/
def Bin.visited (r : Bin) : Bin := { r with reference := false, change := false }

/-- The sweep context after the visit of a present bin: it is counted, and reported if its change or
anomaly flag was set (R144). -/
def Sweep.visit (w : Sweep) (b : Nat) (r : Bin) : Sweep :=
  if r.change || r.anomaly then
    { w with visited := w.visited + 1, reported := w.reported + 1,
             buffer := w.buffer ++ [⟨b, r.reference, r.change, r.anomaly, r.fill⟩] }
  else { w with visited := w.visited + 1 }

/-- The visit of the bin at the cursor (R144). -/
def visitSweepBin (s : State) : State :=
  let b := s.sweep.cursor
  let s := match s.bin? b with
    | some r => { s.setBin b r.visited with sweep := s.sweep.visit b r }
    | none => s
  { s with sweep := { s.sweep with cursor := b + 1 } }

/-- The check after a visit: the end of the range, then a full buffer (R145). -/
def afterVisit (s : State) : State :=
  if s.sweep.last < s.sweep.cursor then
    latchC .sweep { s with sweep := { s.sweep with state := .done } }
  else if s.sweep.buffer.length = 32 then
    latchC .sweep { s with sweep := { s.sweep with state := .paused } }
  else s

/-- SWEEP_VISIT: one visit of the running sweep (R144, R145). -/
def execSweepVisit (s : State) : Host.Outcome State Fault Refusal :=
  .next (if s.inReset = false ∧ s.sweep.state = .running then afterVisit (visitSweepBin s) else s)

/-- The 3 bytes of a result entry: bin ID in 13 bits, the three flags, the fill (R158). -/
def SweepEntry.bytes (e : SweepEntry) : List Byte :=
  put16 (e.bin % 8192 + (if e.reference then 8192 else 0) + (if e.change then 16384 else 0)
    + (if e.anomaly then 32768 else 0)) ++ put8 e.fill

/-- The sweep context after a read has left `left` in the buffer (R146). -/
def Sweep.afterRead (w : Sweep) (left : List SweepEntry) : Sweep :=
  match w.state, left with
  | .paused, [] => { w with state := .running, buffer := [] }
  | .done, [] => Sweep.reset
  | _, _ => { w with buffer := left }

/-- QUERY SWEEP as carried out by the audit unit (R146): the number returned and the number left are fields of their own, and the
entries are a list field, with their count before them (R157). -/
def serveQuerySweep (_ : List Byte) (s : State) : Reply :=
  let w := s.sweep
  if w.state = .none then refuse .noSuch s
  else
    let read := w.buffer.take 12
    let left := w.buffer.drop 12
    reply .ok
      (put8 w.state.code ++ put16 w.first ++ put16 w.last ++ put16 w.cursor ++ put16 w.visited
        ++ put16 w.reported ++ put8 read.length ++ put8 left.length ++ putList SweepEntry.bytes read)
      { s with sweep := w.afterRead left }

/-- QUERY_SWEEP (R146). -/
def execQuerySweep (s : State) : Host.Outcome State Fault Refusal :=
  .next (take .c .querySweep anyBody serveQuerySweep s)

/-- CANCEL SWEEP as carried out by the audit unit (R147). -/
def serveCancelSweep (_ : List Byte) (s : State) : Reply :=
  let w := s.sweep
  if w.state = .none then refuse .noSuch s
  else reply .ok (put16 w.cursor ++ put16 w.visited ++ put16 w.reported ++ put8 w.buffer.length)
    { s with sweep := Sweep.reset }

/-- CANCEL_SWEEP (R147). -/
def execCancelSweep (s : State) : Host.Outcome State Fault Refusal :=
  .next (take .c .cancelSweep anyBody serveCancelSweep s)

/-! ### Lane keys (R149, R150) -/

/-- Whether a task's work is bound for a lane: the destination lane of a STOW, the target lane of a dig
plan entry not yet finished, or the target lane of a RELOCATE (R149, log 27). -/
def Task.boundForLane (t : Task) (i : Nat) : Bool :=
  (decide (t.kind = .stow) && t.redirect.isNone && decide (t.destLane = some i))
    || t.unfinished.any (fun e => e.2 == i)
    || (decide (t.kind = .relocate) && decide (t.destLane = some i))

/-- Whether a lane is busy for SET LANE KEYS (R149). -/
def State.laneBusy (s : State) (i : Nat) : Bool :=
  decide (0 < (s.lane i).incoming) || s.isFetchSource i
    || s.tasks.entries.any (fun e => e.2.boundForLane i)
    || (s.lane i).contents.any (fun b => match s.bin? b with
        | some r => !r.chain.isEmpty
        | none => false)

/-- A lane and the bins in it take a key (R150). -/
def rekeyLane (i key : Nat) (s : State) : State :=
  forIds (s.lane i).contents (fun b s => s.modBin b (fun r => { r with key := key }))
    (s.modLane i (fun l => { l with key := key }))

/-- The bins of a lane whose key differs from a key. -/
def State.otherKeyed (s : State) (i key : Nat) : Nat :=
  ((s.lane i).contents.filter (fun b => match s.bin? b with
    | some r => decide (r.key ≠ key)
    | none => false)).length

/-- Re-keys lanes in ascending order up to the first busy one; answers the lanes processed, the bins
whose key changed and whether a busy lane stopped it (R149, R150). -/
def rekeyRun (key : Nat) : List Nat → Nat → Nat → State → State × Nat × Nat × Bool
  | [], lanes, bins, s => (s, lanes, bins, false)
  | i :: rest, lanes, bins, s =>
    if s.laneBusy i then (s, lanes, bins, true)
    else rekeyRun key rest (lanes + 1) (bins + s.otherKeyed i key) (rekeyLane i key s)

/-- SET LANE KEYS as carried out by the audit unit (R149, R150); tasks BLOCKED with NO_ROOM are
re-examined (R67). -/
def serveSetLaneKeys (body : List Byte) (s : State) : Reply :=
  let first := wordAt body 0
  let last := wordAt body 2
  let key := byteAt body 4
  if s.params.laneCount ≤ last ∨ last < first ∨ 7 < key then refuse .outOfRange s
  else
    let r := rekeyRun key ((List.range (last - first + 1)).map (fun i => first + i)) 0 0 s
    let lanes := r.2.1
    let s1 := if lanes = 0 then r.1 else reexamine (fun t => decide (t.block = some .noRoom)) r.1
    reply (if r.2.2.2 then .partly else .ok) (put16 lanes ++ put16 r.2.2.1 ++ put16 (first + lanes)) (settle s1)

/-- SET_LANE_KEYS (R149). -/
def execSetLaneKeys (s : State) : Host.Outcome State Fault Refusal :=
  .next (take .c .setLaneKeys anyBody serveSetLaneKeys s)

end Sys2Proof.Machine
end

