-- ==== Sys2Proof/Machine/RailOps.lean ====
section
/-!
DEFINITION. The shared operations of the rail units (Chapter 6): the judging of grants, the overrun check, the link timer, the
arbiter, the reservation at a calibration, the channel fault as the rail unit takes it, and the parts of QUERY CRANE and QUERY
RAIL.
-/
namespace Sys2Proof.Machine

/-! ### Stretches and the judging of a grant (R112, R113) -/

/-- The smallest stretch that contains two stretches. -/
def Span.hull (x y : Span) : Span := ⟨min x.west y.west, max x.east y.east⟩

/-- The travel stretch from p to a target at a speed (R112). -/
def Params.travelStretch (P : Params) (p : Int) (t : Travel) : Span :=
  ⟨min p t.target - P.halfLength - (if t.target < p then (P.stopping t.speed : Int) else 0),
   max p t.target + P.halfLength + (if p < t.target then (P.stopping t.speed : Int) else 0)⟩

/-- The required reservation of a travel of a calibrated crane (R112). -/
def State.required (s : State) (k : Crane) (t : Travel) : Span :=
  (s.presentEnvelope k).hull (s.params.travelStretch (s.posMm k) t)

/-- The clamped target t' of a request toward the other crane (R113). -/
def State.clampPoint (s : State) (k : Crane) (speed : Nat) : Int :=
  let o := s.edges (otherCrane k)
  let reach : Int := s.params.gap + s.params.halfLength + (s.params.stopping speed : Int)
  if isWest k then o.west - reach else o.east + reach

/-- For crane k, x lies further toward the other crane than y. -/
def furtherIn (k : Crane) (x y : Int) : Bool := if isWest k then decide (y < x) else decide (x < y)

/-- The clamped travel of a request whose required reservation does not fit, if t' lies ahead of the
crane in the direction of the target and fits (R113). -/
def State.clampedTravel (s : State) (k : Crane) (t : Travel) : Option Travel :=
  let t' : Travel := ⟨s.clampPoint k t.speed, t.speed⟩
  if furtherIn k t.target (s.posMm k) && furtherIn k t'.target (s.posMm k) && s.fits k (s.required k t')
  then some t' else none

/-- How a grant request of a calibrated crane is judged (R112, R113). -/
inductive Judged where
  | whole
  | clamped (t : Travel)
  | held
  deriving DecidableEq, Repr

/-- The judging of a clamped request (R112, R113). -/
def State.judge (s : State) (k : Crane) (t : Travel) : Judged :=
  if s.fits k (s.required k t) then .whole
  else match s.clampedTravel k t with
    | some t' => .clamped t'
    | none => .held

/-- A stretch with its inner edge taken no closer to the other crane than the inner edge of another stretch (R113). -/
def Span.noCloserThan (k : Crane) (e old : Span) : Span :=
  if isWest k then ⟨e.west, min e.east old.east⟩ else ⟨max e.west old.west, e.east⟩

/-- The reservation of a HELD crane: the present envelope, with its inner edge no closer to the other
crane than before (R113). -/
def State.heldSpan (s : State) (k : Crane) : Span := (s.presentEnvelope k).noCloserThan k (s.edges k)

/-! ### The overrun check (R117) and the link timer (R118) -/

/-- Whether a window envelope lies outside a reservation (R117). -/
def Span.outside (e r : Span) : Bool := decide (e.west < r.west) || decide (r.east < e.east)

/-- Whether a crane has overrun (R117). A crane whose channel made no envelope at its last window end
has none to compare (log 8). -/
def State.overrun (s : State) (k : Crane) : Bool :=
  s.calibrated k && match (s.channel k).envelope with
    | some e => e.outside (s.edges k)
    | none => false

/-- The overrun check (R117). -/
def overrunCheck (k : Crane) (s : State) : State :=
  if s.overrun k then stopCrane k .overrun s else s

/-- Arms the link timer at H if it is unarmed (R118). -/
def armLink (k : Crane) (s : State) : State :=
  s.modRail k (fun r =>
    if r.linkArmed then r else { r with linkArmed := true, linkLeft := s.params.linkTime })

/-- Arms the link timer if a granted target differs from the crane's position (R118). -/
def armIfTravel (k : Crane) (t : Travel) (s : State) : State :=
  if t.target ≠ s.posMm k then armLink k s else s

/-- Gives a calibrated crane a travel: reservation, granted travel and pending grant (R112, R113). -/
def giveTravel (k : Crane) (t : Travel) (pending : Option Travel) (s : State) : State :=
  s.modRail k (fun r =>
    { r with reservation := .calibrated (s.required k t), granted := some t, pending := pending })

/-! ### The checks of a GRANT (R110) -/

/-- The speed limit of a crane: the smaller of V_max and the class cap (R110). -/
def State.speedLimit (s : State) (k : Crane) : Nat := min s.params.vMax[k] (s.classCap k)

/-- The clamps of R110 on a request. -/
def State.clampRequest (s : State) (k : Crane) (t : Travel) : Travel :=
  ⟨min (max t.target s.params.tmin[k]) s.params.tmax[k], min t.speed (s.speedLimit k)⟩

/-- The active task of a crane is a PARK. -/
def State.parkActive (s : State) (k : Crane) : Bool :=
  decide (((s.crane k).active.bind s.task?).map Task.kind = some .park)

/-- Whether check 3 of R110 refuses the crane for its aisle. -/
def State.aisleRefuses (s : State) (k : Crane) : Bool :=
  decide ((s.rail k).state = .parked) || (s.rail k).fireHold
    || match (s.fire (aisleOf k)).state with
      | .sealed => true
      | .reopening => true
      | .parking => !s.parkActive k
      | .closing => !s.parkActive k
      | .normal => false

/-- The first check of R110 that a request fails. -/
def State.grantRefusal (s : State) (k : Crane) (t : Travel) : Option Status :=
  if t.speed = 0 ∨ 8191 < t.speed then some .outOfRange
  else match (s.rail k).state with
    | .offline | .lost | .stopped => some .notReady
    | _ =>
      if s.aisleRefuses k then some .aisleClosed
      else if s.calibrated k = false ∧ (s.clampRequest k t).target ≠ s.params.homeLimit k then
        some .notCalibrated
      else none

/-! ### The arbiter (R115, R116) -/

/-- A pending grant with its speed clamped to the class cap of this moment (R114). -/
def State.pendingNow (s : State) (k : Crane) : Option Travel :=
  (s.rail k).pending.map (fun t => { t with speed := min t.speed (s.classCap k) })

/-- Whether an extension to t' lies beyond what the crane may reach already: its granted target, or its
position when it holds no travel (R115). -/
def State.extends (s : State) (k : Crane) (t' : Travel) : Bool :=
  match (s.rail k).granted with
  | some g => furtherIn k t'.target g.target
  | none => furtherIn k t'.target (s.posMm k)

/-- One evaluation of a crane's pending grant; answers whether it is blocked (R115). -/
def evaluatePending (k : Crane) (s : State) : State × Bool :=
  match s.pendingNow k, (s.rail k).pending with
  | some t, some asked =>
    if s.calibrated k && (s.grantRefusal k asked).isNone then
      match s.judge k t with
      | .whole =>
        (overrunCheck k (latchK k .grantExtended (armIfTravel k t (giveTravel k t none s))), false)
      | .clamped t' =>
        if s.extends k t' then
          (overrunCheck k (latchK k .grantExtended (armIfTravel k t' (giveTravel k t' (some asked) s))), false)
        else (s, true)
      | .held => (s, true)
    else (s, false)
  | _, _ => (s, false)

/-- The class by which the right of way is chosen: 6 for a crane with no active task (R116). -/
def State.wayClass (s : State) (k : Crane) : Nat :=
  match (s.crane k).active.bind s.task? with
  | some t => t.cls
  | none => 6

/-- Whether the west crane of an aisle has the right of way over the east crane (R116). -/
def State.westFirst (s : State) (a : Aisle) : Bool :=
  let w := westCrane a
  let e := eastCrane a
  decide (s.wayClass w < s.wayClass e)
    || (s.wayClass w == s.wayClass e && decide ((s.rail w).pendingSince ≤ (s.rail e).pendingSince))

/-- The yield target of a loser: far enough back for the winner's required reservation (R116). -/
def State.yieldTarget (s : State) (winner : Crane) (t : Travel) : Int :=
  let r := s.required winner t
  let back : Int := s.params.gap + s.params.halfLength
  if isWest winner then min (r.east + back) s.params.tmax[otherCrane winner]
  else max (r.west - back) s.params.tmin[otherCrane winner]

/-- A yield step is placed on a crane: its pending grant is cleared, and the target is written into its
active task or stands by itself (R82, R116). -/
def placeYield (k : Crane) (y : Int) (s : State) : State :=
  let s := s.modRail k (fun r => { r with pending := none })
  latchK k .taskReady (match (s.crane k).active with
    | some id => s.modTask id (fun t => { t with yield := some y })
    | none => s.modCrane k (fun c => { c with standingYield := some y }))

/-- The arbiter of an aisle acts: evaluations in right-of-way order, then the right of way if both
pending grants are blocked (R115, R116). -/
def arbiter (a : Aisle) (s : State) : State :=
  let first := if s.westFirst a then westCrane a else eastCrane a
  let second := otherCrane first
  let r1 := evaluatePending first s
  let r2 := evaluatePending second r1.1
  if r1.2 && r2.2 then
    let s := r2.1
    let winner := if s.westFirst a then westCrane a else eastCrane a
    match s.pendingNow winner with
    | some t => placeYield (otherCrane winner) (s.yieldTarget winner t) s
    | none => s
  else r2.1

/-- The arbiter acts if a crane's inner edge has moved away from the other crane (R115). -/
def arbiterIfBack (k : Crane) (old : Span) (s : State) : State :=
  if innerMovedBack k old (s.edges k) then arbiter (aisleOf k) s else s

/-! ### Calibration and channel faults (R108, R109) -/

/-- The base of the reservation at a calibration: the present envelope, with the travel a crane holds
toward its home end (R109). -/
def State.calibrationBase (s : State) (k : Crane) : Span :=
  match (s.rail k).granted with
  | some t => if furtherIn k (s.posMm k) t.target then s.required k t else s.presentEnvelope k
  | none => s.presentEnvelope k

/-- The other crane's reservation counts for the cut of R109 and for check 3 of R120: its channel is
CALIBRATED and the form is CALIBRATED or FROZEN. -/
def State.otherCounts (s : State) (k : Crane) : Bool :=
  s.calibrated (otherCrane k) && match (s.rail (otherCrane k)).reservation with
    | .calibrated _ => true
    | .frozen _ => true
    | .homeSide _ => false

/-- The cut of R109: the inner edge keeps the gap, or the stretch becomes a single point. -/
def State.cutSpan (s : State) (k : Crane) (sp : Span) : Span :=
  if s.otherCounts k then
    let o := s.edges (otherCrane k)
    if isWest k then
      let e := min sp.east (o.west - s.params.gap)
      ⟨min sp.west e, e⟩
    else
      let w := max sp.west (o.east + s.params.gap)
      ⟨w, max sp.east w⟩
  else sp

/-- The rail unit takes the calibration of a crane's channel (R109). -/
def railCalibrated (k : Crane) (s : State) : State :=
  match (s.rail k).state with
  | .offline | .lost => s
  | _ =>
    let old := s.edges k
    let s := s.modRail k (fun r => { r with reservation := .calibrated (s.cutSpan k (s.calibrationBase k)) })
    arbiterIfBack k old (overrunCheck k s)

/-- The reservation of a crane whose channel becomes FAULTED: a CALIBRATED one becomes HOME_SIDE with
the slip allowance (R108). -/
def State.faultedReservation (s : State) (k : Crane) : Reservation :=
  match (s.rail k).reservation with
  | .calibrated sp => s.homeSideFrom k sp
  | r => r

/-- A channel becomes FAULTED: the cause is recorded, the captures are invalid, and the rail unit stops
the crane and moves its reservation to the uncalibrated form (R92, R108). -/
def channelFaulted (k : Crane) (cause : ChannelFault) (s : State) : State :=
  let s := s.modChannel k (fun c =>
    { c with state := .faulted, fault := cause, pick := { c.pick with valid := false },
             setDown := { c.setDown with valid := false } })
  let s := s.modRail k (fun r => { r with reservation := s.faultedReservation k })
  stopCrane k .channel s

/-! ### Parts of QUERY CRANE and QUERY RAIL (R102, R122) -/

/-- A capture: position and valid flag (R102). -/
def Capture.fields (c : Capture) : List Byte := putPos c.pos ++ putFlag c.valid

/-- The channel part (R102, log 13). -/
def State.channelPart (s : State) (k : Crane) : List Byte :=
  let c := s.channel k
  put8 c.state.code ++ put8 c.fault.code ++ putBits c.counter ++ putPos (s.posMm k) ++ put16 c.speed
    ++ put8 c.direction.code ++ c.pick.fields ++ c.setDown.fields ++ putDeviation? c.deviation
    ++ put16 s.params.pitch[k] ++ put8 s.params.edgeMode[k] ++ putFlag s.params.inverted[k]
    ++ putBits s.params.refCount[k]

/-- The reservation edges and form (R113, R122). -/
def State.putReservation (s : State) (k : Crane) : List Byte :=
  putSpan (s.edges k) ++ put8 (s.rail k).reservation.code

/-- The rail part (R122). That an absent silent from is sent as 255, and not as the third value of R105's list,
and that the drive fault code takes one byte, are the model's choices (log 13). -/
def State.railPart (s : State) (k : Crane) : List Byte :=
  let r := s.rail k
  let o := otherCrane k
  put8 r.state.code ++ put8? (r.silentFrom.map SilentFrom.code) ++ put8 r.stopCause.code ++ [r.driveFault]
    ++ putFlag (s.stopLine k) ++ putFlag r.fireHold ++ s.putReservation k ++ putTravel? r.granted
    ++ putTravel? r.pending ++ put32 r.pendingSince ++ putFlag r.linkArmed
    ++ putTime? (if r.linkArmed then some r.linkLeft else none) ++ put16 (s.classCap k)
    ++ put8 (s.rail o).state.code ++ putSpan (s.edges o)

end Sys2Proof.Machine
end

