-- ==== Sys2Proof/Machine/Tasks.lean ====
section
/-!
DEFINITION. The task unit's requests (Chapter 4): NEXT_STEP, PICKED, SET_DOWN, QUERY_CRANE_TASK.
-/
namespace Sys2Proof.Machine

/-! ### The place of a step (R63) -/

/-- Where the crane master is to act for a task's current step: its redirect position if the step is
redirected (R63, R78). -/
def Task.place (t : Task) : Option Dest :=
  match t.step with
  | .relocPick | .pick => t.source.map (fun src => match src with
      | .lane i => .lane i
      | .station p => .station p)
  | .relocSet | .set =>
    match t.redirect with
    | some r => some (.station r.pos)
    | none => if t.step = .set then t.dest else t.plannedLane.map Dest.lane
  | .travel => t.dest

/-- The rail position of a place for crane k (R63). -/
def State.placeMm (s : State) (k : Crane) : Dest → Int
  | .lane i => s.params.lanePos i
  | .station _ => s.params.stationPos[k]
  | .rail mm => mm

/-- Two rail positions are within T_pick of each other (R69, R70). -/
def State.withinPick (s : State) (x y : Int) : Bool := decide (((x - y).natAbs : Int) ≤ s.params.tPick)

/-- The task that a crane report is judged against (R69, R77). -/
def State.judgedTask (s : State) (k : Crane) : Option Nat :=
  match (s.crane k).undelivered with
  | .none | .redirect => (s.crane k).active
  | .push | .parkPush => (s.crane k).stack.head?
  | .removed => none

/-! ### NEXT STEP -/

/-- Gives back the slots that redirected tasks of a crane still keep in their planned lanes (R78). -/
def releaseKept (k : Crane) (s : State) : State :=
  forIds ((s.crane k).active.toList ++ (s.crane k).stack) (fun id s =>
    match s.task? id with
    | some t =>
      match t.redirect with
      | some r =>
        if r.kept then
          let s := s.setTask id { t with redirect := some { r with kept := false } }
          t.plannedLane.elim s (fun i => releaseSlots i 1 s)
        else s
      | none => s
    | none => s) s

/-- Dispatch over queued tasks in dispatch order: the first eligible task whose activation succeeds
becomes active (R64). A FETCH that leaves the queue signals its slot (R62). -/
def dispatch (k : Crane) : List Nat → State → State
  | [], s => s
  | id :: rest, s =>
    if s.eligibleId id then
      match activate id s with
      | (s, true) =>
        let isFetch : Bool := match s.task? id with
          | some t => decide (t.kind = .fetch)
          | none => false
        let s := makeActive k id s
        if isFetch then slotFreed k s else s
      | (s, false) => dispatch k rest s
    else dispatch k rest s

/-- What NEXT STEP does for a crane with no active task (R64, R68, R73). -/
def takeWork (k : Crane) (s : State) : State :=
  if (s.crane k).active.isSome then s
  else if s.normal (aisleOf k) && !(s.crane k).stack.isEmpty then popStack k false s
  else if s.normal (aisleOf k) && (s.crane k).standingYield.isSome then s
  else dispatch k (s.crane k).queue s

/-- A NEXT STEP ends every undelivered change of the crane, those of its own step included (R68, R77). -/
def deliver (k : Crane) : Nat → State → State
  | 0, s => s
  | n + 1, s =>
    if (s.crane k).undelivered = .none then s else deliver k n (settle (setMarker k .none s))

/-- The location field: lane address, station and position; absent for a TRAVEL (R68, log 13). -/
def putLocation (p : Params) (k : Crane) : Option Dest → List Byte
  | some (.lane i) => putLaneAddr p i ++ put8? none ++ put8? none
  | some (.station q) => putNoLaneAddr ++ put8 k.val ++ put8 q.val
  | _ => putNoLaneAddr ++ put8? none ++ put8? none

/-- The last completed task: its ID and kind (R61). -/
def putCompleted (o : Option (Nat × TaskKind)) : List Byte :=
  put8? (o.map Prod.fst) ++ put8? (o.map (fun e => e.2.code))

/-- The step, yield and no-step forms of the NEXT STEP body (R68, log 13). -/
def State.stepForm (s : State) (k : Crane) : List Byte :=
  let own (id : Nat) (t : Task) : List Byte :=
    put8 id ++ put8 t.kind.code ++ put8 t.cls ++ put16 (s.classCap k)
  let absent : List Byte := put8? none ++ put8? none ++ put8? none ++ put16? none
  let travel (y : Int) (dig : Option Nat) : List Byte :=
    put8 TaskStep.travel.code ++ put16? none ++ putLocation s.params k none ++ putPos y ++ put8? dig
      ++ putFlag true
  match (s.crane k).active.bind (fun id => (s.task? id).map (fun t => (id, t))) with
  | some (id, t) =>
    match t.yield with
    | some y => own id t ++ travel y (some t.digLeft)
    | none =>
      own id t ++ put8 t.step.code ++ put16? t.stepBin ++ putLocation s.params k t.place
        ++ putPos? (t.place.map (s.placeMm k)) ++ put8 t.digLeft ++ putFlag false
  | none =>
    match (s.crane k).standingYield with
    | some y => absent ++ travel y none
    | none =>
      absent ++ put8? none ++ put16? none ++ putLocation s.params k none ++ putPos? none ++ put8? none
        ++ putFlag false

/-- NEXT STEP as carried out by the task unit (R68). -/
def serveNextStep (k : Crane) (_ : List Byte) (s : State) : Reply :=
  let s := takeWork k (setMarker k .none (releaseKept k s))
  let s := deliver k 8 (settle s)
  reply .ok (s.stepForm k ++ put8 (s.rail k).state.code ++ put8 (s.crane k).queue.length
    ++ putCompleted (s.crane k).lastCompleted) s

/-- NEXT_STEP (R68). -/
def execNextStep (k : Crane) (s : State) : Host.Outcome State Fault Refusal :=
  .next (take (.k k) .nextStep anyBody (serveNextStep k) s)

/-! ### Crane reports -/

/-- A report that fails a check: the crane becomes STOPPED, and nothing else but the consumed capture
changes (R71). That a SET DOWN so answered runs no preemption test, and so leaves the room refusal flag, is the model's
choice (log 56). -/
def mismatch (k : Crane) (s : State) : Reply :=
  refuse .mismatch (settle (stopCrane k .mismatch s))

/-- A bin stands where a pick step takes it: at the front of the source lane, or at the source position
(check 3 of R69). -/
def State.atSource (s : State) (k : Crane) (t : Task) (b : Nat) : Bool :=
  match t.source with
  | some (.lane i) =>
    decide ((s.lane i).contents.head? = some b) && decide ((s.bin? b).map Bin.place = some (.stored i))
  | some (.station p) =>
    decide ((s.station k).bins[p] = some b) && decide ((s.bin? b).map Bin.place = some (.atStation k p))
  | none => false

/-- The checks of R69 on a task. -/
def State.pickPasses (s : State) (k : Crane) (t : Task) (b : Nat) : Bool :=
  (decide (t.step = .relocPick) || decide (t.step = .pick)) && (s.fork k).isNone
    && decide (t.stepBin = some b) && s.atSource k t b
    && (s.channel k).pick.valid
    && (match t.place with
        | some d => s.withinPick (s.channel k).pick.pos (s.placeMm k d)
        | none => false)

/-- A report consumes the pick capture (R97). -/
def consumePick (k : Crane) (s : State) : State :=
  s.modChannel k (fun c => { c with pick := { c.pick with valid := false } })

/-- A report consumes the set-down capture (R97). -/
def consumeSetDown (k : Crane) (s : State) : State :=
  s.modChannel k (fun c => { c with setDown := { c.setDown with valid := false } })

/-- The head claim of a bin that leaves STORED is no longer in the backlog (R31). -/
def leaveBacklog (b : Nat) (s : State) : State :=
  match s.chainHead b with
  | some h => { s with backlog := s.backlog.erase h }
  | none => s

/-- The effect of a pick that passes its checks (R69, R72). -/
def applyPick (k : Crane) (id : Nat) (t : Task) (b : Nat) (s : State) : State :=
  leaveBacklog b (match t.source with
    | some (.lane i) =>
      if t.step = .relocPick then
        (takeSlots i 1 (pickFromLane k b i s)).setTask id { t with step := .relocSet, hold := t.hold + 1 }
      else
        laneSlotFreed (((pickFromLane k b i s).modLane i
          (fun l => { l with incoming := l.incoming - t.hold })).setTask id { t with step := .set, hold := 0 })
    | some (.station p) => pickFromStation k b p (s.setTask id { t with step := .set })
    | none => s)

/-- The step that a pick leads to. -/
def Task.stepAfterPick (t : Task) : TaskStep := if t.step = .relocPick then .relocSet else .set

/-- Gives back everything that the activation of a task which has not picked took; each release gives its
own signal (R5, R77). -/
def giveBack (id : Nat) (t : Task) (s : State) : State :=
  match t.kind with
  | .fetch => releaseHold t (releaseEntries t.unfinished (releasePromise t.crane id s))
  | _ => t.destLane.elim s (fun i => releaseSlots i 1 s)

/-- The reversal of an ordinary preemption: the active task goes back to the queue, without a yield target
(log 46), and the top of the stack becomes active again, the claim of a FETCH with it (R32, R77, log 20). -/
def reversePush (k : Crane) (s : State) : State :=
  match (s.crane k).active, (s.crane k).stack with
  | some new, old :: rest =>
    match s.task? new with
    | some t =>
      let s := s.setTask new
        { t with state := .queued, dest := none, dig := [], digLeft := 0, hold := 0, step := .pick, yield := none,
                 source := if t.kind = .fetch then none else t.source }
      let s := resumeTask old s
      let s := s.modCrane k (fun c =>
        { c with active := some old, stack := rest, queue := s.enqueue new c.queue, undelivered := .none })
      markDue k (giveBack new t s)
    | none => s
  | _, _ => s

/-- PICKED as carried out by the task unit (R69, R77). -/
def servePicked (k : Crane) (body : List Byte) (s : State) : Reply :=
  let b := wordAt body 0
  match (s.judgedTask k).bind (fun id => (s.task? id).map (fun t => (id, t))) with
  | none => mismatch k (consumePick k s)
  | some (id, t) =>
    let push := decide ((s.crane k).undelivered = .push)
    if s.pickPasses k t b && (!push || s.normal (aisleOf k)) then
      let s1 := consumePick k s
      let s2 := if push then reversePush k s1 else s1
      let t2 := (s2.task? id).getD t
      reply .ok (put8 t.stepAfterPick.code) (settle (applyPick k id t2 b s2))
    else mismatch k (consumePick k s)

/-- PICKED (R69). -/
def execPicked (k : Crane) (s : State) : Host.Outcome State Fault Refusal :=
  .next (take (.k k) .picked anyBody (servePicked k) s)

/-- Where a set-down is taken, by its capture: the step's destination, or under a redirection the
planned lane while its slot is kept; none when it fits nowhere (R70, R78). -/
def State.setDownPlace (s : State) (k : Crane) (t : Task) : Option Dest :=
  let near (d : Dest) : Bool :=
    (s.channel k).setDown.valid && s.withinPick (s.channel k).setDown.pos (s.placeMm k d)
  match t.redirect with
  | some r =>
    if near (.station r.pos) then some (.station r.pos)
    else if r.kept then (t.plannedLane.map Dest.lane).filter near else none
  | none => t.place.filter near

/-- The bin of a set step that lies on the crane's fork (check 1 of R70). -/
def State.setBinOf (s : State) (k : Crane) (t : Task) : Option Nat :=
  if t.step = .relocSet ∨ t.step = .set then
    match s.fork k with
    | some b => if t.stepBin = some b then some b else none
    | none => none
  else none

/-- Whether a task goes on after its set-down: the RELOC_SET of a FETCH (R70). -/
def Task.goesOn (t : Task) : Bool := decide (t.kind = .fetch) && decide (t.step = .relocSet)

/-- The step after the RELOC_SET of a FETCH (R70). -/
def Task.stepAfterSet (t : Task) : TaskStep := if t.digLeft ≤ 1 then .pick else .relocPick

/-- The task's advance at a set-down: a dig plan entry is finished, or the task completes (R70, R73). -/
def advanceTask (id : Nat) (t : Task) (s : State) : State :=
  if t.goesOn then
    s.setTask id { t with digLeft := t.digLeft - 1, step := t.stepAfterSet, redirect := none }
  else completeTask id s

/-- A set-down in a lane (R70); of a redirected step in its planned lane, the promise is released and
the claim is QUEUED again (R78). A claim that waits for the bin is placed again before the task leaves its
entry (2.7, step 12). -/
def setDownInLane (k : Crane) (id : Nat) (t : Task) (b i : Nat) (s : State) : State :=
  let s := setInLane b i s
  let s := match t.redirect with
    | some r =>
      let s := releasePosition k r.pos s
      r.claim.elim s (fun c => touchClaim c (fun c => { c with state := .queued, task := none }) s)
    | none => s
  advanceTask id t (binStored b (laneQuieter s))

/-- The claim that a set-down at the station serves: the redirected one, or the FETCH's own. -/
def Task.servedClaim (t : Task) : Option Nat :=
  match t.redirect with
  | some r => r.claim
  | none => t.claim

/-- A set-down at the station (R70): the claim is presented and loses its task, or the bin is handed on
(R33, R39); a slot still kept in the planned lane is released (R78). The TASK_READY of what it releases is latched
by `readyIfNewlyQueued` (log 48). -/
def setDownAtStation (k : Crane) (id : Nat) (t : Task) (b : Nat) (p : Pos) (s : State) : State :=
  let s := setAtStation k b p s
  let s := match t.redirect with
    | some r => if r.kept then t.plannedLane.elim s (fun i => releaseSlots i 1 s) else s
    | none => s
  match t.servedClaim with
  | some c => advanceTask id t (claimLosesTask c (presentClaim c s))
  | none => handOnBin b (advanceTask id t s)

/-- Latches TASK_READY when the set-down leaves the crane with no active task and a task of it has become
QUEUED since the state `old`, before or after the completion (R67, log 48). -/
def readyIfNewlyQueued (k : Crane) (old s : State) : State :=
  let queuedIn (s : State) (id : Nat) : Bool := decide ((s.task? id).map Task.state = some .queued)
  if (s.crane k).active.isNone && (s.crane k).queue.any (fun id => queuedIn s id && !queuedIn old id) then
    latchK k .taskReady s
  else s

/-- SET DOWN as carried out by the task unit (R70). -/
def serveSetDown (k : Crane) (_ : List Byte) (s : State) : Reply :=
  match (s.judgedTask k).bind (fun id => (s.task? id).map (fun t => (id, t))) with
  | none => mismatch k (consumeSetDown k s)
  | some (id, t) =>
    match s.setBinOf k t, s.setDownPlace k t with
    | some b, some d =>
      let s1 := consumeSetDown k s
      let s2 := match d with
        | .lane i => setDownInLane k id t b i s1
        | .station p => setDownAtStation k id t b p s1
        | .rail _ => s1
      reply .ok (put8? (if t.goesOn then some t.stepAfterSet.code else none)) (settle (markDue k (readyIfNewlyQueued k s s2)))
    | _, _ => mismatch k (consumeSetDown k s)

/-- SET_DOWN (R70). -/
def execSetDown (k : Crane) (s : State) : Host.Outcome State Fault Refusal :=
  .next (take (.k k) .setDown anyBody (serveSetDown k) s)

/-! ### QUERY CRANE, task part -/

/-- The task part of QUERY CRANE (R61). That a class takes one byte is the model's choice (log 13). -/
def State.taskPart (s : State) (k : Crane) : List Byte :=
  let c := s.crane k
  (match c.active.bind (fun id => (s.task? id).map (fun t => (id, t))) with
    | some (id, t) => put8 id ++ put8 t.kind.code ++ put8 t.cls ++ put8 t.step.code
    | none => put8? none ++ put8? none ++ put8? none ++ put8? none)
  ++ putList (fun id => put8 id ++ put8? ((s.task? id).map Task.cls)) c.stack
  ++ put8 c.queue.length
  ++ put8 (c.queue.filter (fun id => decide ((s.task? id).map Task.state = some .blocked))).length
  ++ putPos? c.standingYield ++ putFlag c.roomRefusal ++ putCompleted c.lastCompleted

/-- The part field of a QUERY CRANE body (R158). -/
def cranePart (body : List Byte) : Nat := byteAt body 1

/-- QUERY CRANE as carried out for one part; a crane above 3 is refused (R122, R158). -/
def serveQueryCrane (part : State → Crane → List Byte) (badPart : Bool) (body : List Byte)
    (s : State) : Reply :=
  match craneOf (byteAt body 0) with
  | some k => if badPart then refuse .outOfRange s else reply .ok (part s k) s
  | none => refuse .outOfRange s

/-- QUERY_CRANE_TASK: part 0; a part outside 0 to 3 is refused (R61, R158). -/
def execQueryCraneTask (s : State) : Host.Outcome State Fault Refusal :=
  .next (take .c .queryCrane (fun b => cranePart b == 0 || decide (3 < cranePart b))
    (fun b => serveQueryCrane State.taskPart (decide (cranePart b ≠ 0)) b) s)

end Sys2Proof.Machine
end

