-- ==== Sys2Proof/Machine/Rail.lean ====
section
/-!
DEFINITION. The rail units' requests and events (Chapter 6): GRANT, ARRIVED, DRIVE_FAULT, RESTART, LINK_EXPIRY, QUERY_RAIL_CHANNEL,
QUERY_RAIL_RAIL, QUERY_CRANE_CHANNEL, QUERY_CRANE_RAIL.
-/
namespace Sys2Proof.Machine

/-! ### GRANT (R110 to R113) -/

/-- The GRANT response body: the status, the granted travel, the reservation, the pending grant and the
other crane's edges (R113). -/
def State.grantBody (s : State) (k : Crane) (st : Status) : List Byte :=
  put8 st.code ++ putTravel? (s.rail k).granted ++ s.putReservation k ++ putTravel? (s.rail k).pending
    ++ putSpan (s.edges (otherCrane k))

/-- What a grant of an uncalibrated crane leaves: travel to the home limit at creep speed (R111). -/
def grantHome (k : Crane) (t : Travel) (s : State) : State :=
  armLink k (s.modRail k (fun r => { r with granted := some t, pending := none }))

/-- What a HELD grant leaves (R113). -/
def holdGrant (k : Crane) (t : Travel) (s : State) : State :=
  s.modRail k (fun r =>
    { r with reservation := .calibrated (s.heldSpan k), granted := none, pending := some t,
             pendingSince := s.wingTime })

/-- What a judged grant of a calibrated crane leaves, before the checks that follow it (R112, R113). -/
def grantCalibrated (k : Crane) (t : Travel) (s : State) : State :=
  match s.judge k t with
  | .whole => armIfTravel k t (giveTravel k t none s)
  | .clamped t' =>
    armIfTravel k t'
      ((giveTravel k t' (some t) s).modRail k (fun r => { r with pendingSince := s.wingTime }))
  | .held => holdGrant k t s

/-- The status of a judged grant (R112, R113). -/
def judgedStatus (clamped : Bool) : Judged → Status
  | .whole => if clamped then .clamped else .ok
  | .clamped _ => .clamped
  | .held => .held

/-- What follows a grant of a calibrated crane: the overrun check, then the arbiter if a pending grant
was made or the inner edge moved back (R113, R115). -/
def afterGrant (k : Crane) (old : Span) (j : Judged) (s : State) : State :=
  let s := overrunCheck k s
  if j ≠ .whole ∨ innerMovedBack k old (s.edges k) = true then arbiter (aisleOf k) s else s

/-- GRANT as carried out by the rail unit (R110). -/
def serveGrant (k : Crane) (body : List Byte) (s : State) : Reply :=
  let asked : Travel := ⟨signedAt body 0, wordAt body 4⟩
  match s.grantRefusal k asked with
  | some e => refuse e s
  | none =>
    let t := s.clampRequest k asked
    if s.calibrated k then
      let j := s.judge k t
      let s1 := settle (afterGrant k (s.edges k) j (grantCalibrated k t s))
      let st := judgedStatus (decide (t ≠ asked)) j
      reply st (s1.grantBody k st) s1
    else
      let t := { t with speed := min t.speed s.params.vCreep }
      let s1 := grantHome k t s
      let st : Status := if t ≠ asked then .clamped else .ok
      reply st (s1.grantBody k st) s1

/-- GRANT (R110). -/
def execGrant (k : Crane) (s : State) : Host.Outcome State Fault Refusal :=
  .next (take (.k k) .grant anyBody (serveGrant k) s)

/-! ### ARRIVED (R115) -/

/-- The trim and the clearing of the granted travel (steps 1 and 2 of R115). The trim takes no rail toward the other crane,
which keeps the separation law of R112; that a stationary envelope past the old inner edge is therefore cut at that edge
is the model's reading (log 43). -/
def trimReservation (k : Crane) (s : State) : State :=
  s.modRail k (fun r =>
    { r with granted := none,
             reservation := (match r.reservation with
               | .calibrated sp => .calibrated ((s.stationaryEnvelope k).noCloserThan k sp)
               | f => f) })

/-- The crane's active task with its number. -/
def State.activeTask (s : State) (k : Crane) : Option (Nat × Task) :=
  (s.crane k).active.bind (fun id => (s.task? id).map (fun t => (id, t)))

/-- Whether an ARRIVED completes the crane's HOME (R81). -/
def State.homeDone (s : State) (k : Crane) : Bool :=
  match s.activeTask k with
  | some (_, t) => decide (t.kind = .home) && s.calibrated k
  | none => false

/-- The yield target that stands before a crane (R82). -/
def State.standingTarget (s : State) (k : Crane) : Option Int :=
  match s.activeTask k with
  | some (_, t) => t.yield
  | none => (s.crane k).standingYield

/-- Whether an ARRIVED completes the crane's yield step: a calibrated crane at or beyond the target
toward home, within T_pick (R82, R90). -/
def State.yieldDone (s : State) (k : Crane) : Bool :=
  match s.standingTarget k with
  | some y =>
    s.calibrated k && (if isWest k then decide (s.posMm k ≤ y + s.params.tPick)
      else decide (y - s.params.tPick ≤ s.posMm k))
  | none => false

/-- Whether an ARRIVED makes a crane with an active PARK PARKED (R129). The fire hold is no condition of it (log 50). -/
def State.parkDone (s : State) (k : Crane) : Bool :=
  s.parkActive k && !s.normal (aisleOf k)
    && (decide ((s.rail k).state = .ready) || decide ((s.rail k).state = .unhomed))
    && s.calibrated k && decide (((s.posMm k - s.params.parkPos[k]).natAbs : Int) ≤ s.params.tPark)

/-- The yield step of a crane is cleared (R82). -/
def clearYield (k : Crane) (s : State) : State :=
  match (s.crane k).active with
  | some id => s.modTask id (fun t => { t with yield := none })
  | none => s.modCrane k (fun c => { c with standingYield := none })

/-- The completion of a HOME; the rail unit makes the crane READY (R81, R106). -/
def completeHome (k : Crane) (s : State) : State :=
  let s := match (s.crane k).active with
    | some id => completeTask id s
    | none => s
  if (s.rail k).state = .unhomed then changeRail k (fun r => { r with state := .ready }) s else s

/-- The hand-over to the task unit and the fire sequencer (step 3 of R115). -/
def handOver (k : Crane) (s : State) : State :=
  let home := s.homeDone k
  let s := if s.yieldDone k then clearYield k s else s
  if home then completeHome k s
  else if s.parkDone k then changeRail k (fun r => { r with state := .parked }) s
  else s

/-- ARRIVED as carried out by the rail unit (R115). -/
def serveArrived (k : Crane) (_ : List Byte) (s : State) : Reply :=
  match (s.rail k).state with
  | .offline | .stopped | .lost => refuse .notReady s
  | _ =>
    if (s.channel k).speed ≠ 0 then refuse .moving s
    else
      let old := s.edges k
      let s1 := trimReservation k s
      let s2 := settle (arbiterIfBack k old (overrunCheck k (handOver k s1)))
      reply .ok (putPos (s2.posMm k) ++ s2.putReservation k ++ putFlag (s1.homeDone k)
        ++ putFlag (s1.yieldDone k)) s2

/-- ARRIVED (R115). -/
def execArrived (k : Crane) (s : State) : Host.Outcome State Fault Refusal :=
  .next (take (.k k) .arrived anyBody (serveArrived k) s)

/-! ### DRIVE FAULT (R121) -/

/-- DRIVE FAULT as carried out by the rail unit (R121). -/
def serveDriveFault (k : Crane) (body : List Byte) (s : State) : Reply :=
  let s1 := settle (stopCrane k .drive (s.modRail k (fun r => { r with driveFault := body.getD 0 0 })))
  reply .ok (put8 (s1.rail k).state.code) s1

/-- DRIVE_FAULT (R121). -/
def execDriveFault (k : Crane) (s : State) : Host.Outcome State Fault Refusal :=
  .next (take (.k k) .driveFault anyBody (serveDriveFault k) s)

/-! ### RESTART (R120) -/

/-- The first check of R120 that a RESTART fails. -/
def State.restartRefusal (s : State) (k : Crane) : Option Status :=
  match (s.rail k).state with
  | .ready | .unhomed | .parked => some .busy
  | _ =>
    if (s.channel k).speed ≠ 0 then some .moving
    else if s.calibrated k && s.otherCounts k && !s.fits k (s.stationaryEnvelope k) then some .noRoom
    else none

/-- The effect of an accepted RESTART on the channel (R101). -/
def restartChannel (k : Crane) (s : State) : State :=
  s.modChannel k (fun c =>
    { c with state := if c.state = .faulted then .uncalibrated else c.state,
             fault := if c.state = .faulted then .none else c.fault,
             pick := { c.pick with valid := false }, setDown := { c.setDown with valid := false } })

/-- The reservation after an accepted RESTART (step 3 of R120). -/
def State.restartReservation (s : State) (k : Crane) : Reservation :=
  if s.calibrated k then .calibrated (s.stationaryEnvelope k)
  else match (s.rail k).reservation with
    | .homeSide x => .homeSide x
    | .calibrated sp => s.homeSideFrom k sp
    | .frozen sp => s.homeSideFrom k sp

/-- Whether a RESTART sets the fire hold (step 5 of R120). -/
def State.restartHold (s : State) (k : Crane) : Bool :=
  match (s.fire (aisleOf k)).state with
  | .parking | .closing | .sealed => true
  | .normal | .reopening => (s.rail k).fireHold

/-- The rail record after an accepted RESTART (R120). -/
def State.restartedRail (s : State) (k : Crane) (r : Rail) : Rail :=
  { r with state := if s.calibrated k then .ready else .unhomed, silentFrom := none, stopCause := .none,
           reservation := s.restartReservation k, granted := none, pending := none,
           linkArmed := false, linkLeft := 0, fireHold := s.restartHold k }

/-- Whether a crane holds a task of a kind, queued, active or suspended. -/
def State.holdsKind (s : State) (k : Crane) (kind : TaskKind) : Bool :=
  s.tasks.entries.any (fun e => decide (e.2.crane = k) && decide (e.2.kind = kind))

/-- Admits a HOME of class 1 to the crane's home travel limit unless the crane holds one (R63, R81, log 30). -/
def admitHome (k : Crane) (s : State) : State :=
  if s.holdsKind k .home then s
  else admitTask { Task.new k .home 1 .travel with dest := some (.rail (s.params.travelEnd k .home)) } s

/-- Admits a PARK of class 0 to the crane's park position unless the crane holds one (R80, R128, log 30). -/
def admitPark (k : Crane) (s : State) : State :=
  if s.holdsKind k .park then s
  else admitTask { Task.new k .park 0 .travel with dest := some (.rail (s.params.travelEnd k .park)) } s

/-- What an accepted RESTART does (R120). Where its own overrun check stops the crane again, the crane passes through READY, so
that with no fire hold the STOP line is released and asserted within the step and STOP is latched (R107): the model's
choice (log 55). -/
def restartCrane (k : Crane) (s : State) : State :=
  let old := s.edges k
  let s1 := restartChannel k s
  let s2 := if s.calibrated k then s1 else admitHome k s1
  let s3 := changeRail k (s2.restartedRail k) s2
  let s4 := if s.calibrated k then overrunCheck k s3 else s3
  arbiterIfBack k old s4

/-- RESTART as carried out by the rail unit (R120). -/
def serveRestart (k : Crane) (_ : List Byte) (s : State) : Reply :=
  match s.restartRefusal k with
  | some e => refuse e s
  | none =>
    let s1 := settle (restartCrane k s)
    reply .ok (put8 (s1.rail k).state.code ++ put8 (s1.channel k).state.code ++ s1.putReservation k) s1

/-- RESTART (R120). -/
def execRestart (k : Crane) (s : State) : Host.Outcome State Fault Refusal :=
  .next (take (.k k) .restart anyBody (serveRestart k) s)

/-! ### The expiry of the link timer (R119) -/

/-- What an expired link timer does (R119). -/
def linkExpired (k : Crane) (s : State) : State :=
  let r := s.rail k
  let silent : Option SilentFrom := match r.state with
    | .ready => some .ready
    | .unhomed => some .unhomed
    | _ => none
  match silent with
  | some from_ =>
    if s.stationary k && decide ((s.channel k).speed = 0) then
      changeRail k (fun r => { r with state := .silent, silentFrom := some from_, pending := none }) s
    else
      latchCraneFault k (changeRail k (fun r =>
        { r with state := .lost, stopCause := .link, reservation := .frozen (s.edges k), granted := none,
                 pending := none }) s)
  | none => s.modRail k (fun r => { r with linkLeft := s.params.linkTime })

/-- LINK_EXPIRY: the armed link timer of a crane has reached 0 (R119). -/
def execLinkExpiry (k : Crane) (s : State) : Host.Outcome State Fault Refusal :=
  .next (if s.inReset = false ∧ (s.rail k).linkArmed = true ∧ (s.rail k).linkLeft = 0 then
      settle (linkExpired k s)
    else s)

/-! ### Queries (R102, R122) -/

/-- The part field of a QUERY RAIL body (R158). -/
def railPartField (body : List Byte) : Nat := byteAt body 0

/-- QUERY RAIL as carried out for one part (R122). -/
def serveQueryRail (part : State → List Byte) (badPart : Bool) (_ : List Byte) (s : State) : Reply :=
  if badPart then refuse .outOfRange s else reply .ok (part s) s

/-- QUERY_RAIL_CHANNEL: part 1 (R102). -/
def execQueryRailChannel (k : Crane) (s : State) : Host.Outcome State Fault Refusal :=
  .next (take (.k k) .queryRail (fun b => railPartField b == 1)
    (serveQueryRail (fun s => s.channelPart k) false) s)

/-- QUERY_RAIL_RAIL: part 2; a part outside 1 and 2 is refused (R122, R158). -/
def execQueryRailRail (k : Crane) (s : State) : Host.Outcome State Fault Refusal :=
  .next (take (.k k) .queryRail (fun b => railPartField b != 1)
    (fun b => serveQueryRail (fun s => s.railPart k) (decide (railPartField b ≠ 2)) b) s)

/-- QUERY_CRANE_CHANNEL: part 1 (R102). -/
def execQueryCraneChannel (s : State) : Host.Outcome State Fault Refusal :=
  .next (take .c .queryCrane (fun b => cranePart b == 1) (serveQueryCrane State.channelPart false) s)

/-- QUERY_CRANE_RAIL: part 2 (R122). -/
def execQueryCraneRail (s : State) : Host.Outcome State Fault Refusal :=
  .next (take .c .queryCrane (fun b => cranePart b == 2) (serveQueryCrane State.railPart false) s)

end Sys2Proof.Machine
end

