-- ==== Sys2Proof/Machine/Fire.lean ====
section
/-!
DEFINITION. The fire sequencers (Chapter 7): FIRE_LINE_SETTLED, SHUTTER_INPUT_SETTLED, SHUTTER_HOLD_EXPIRY, SHUTTER_CONFIRM_EXPIRY,
RESUME_AISLE, QUERY_CRANE_FIRE, and RESET_RELEASE.
-/
namespace Sys2Proof.Machine

/-- Starts a timer at a length in seconds (R133, R134). -/
def startTimer (seconds : Nat) : Timer := ⟨true, seconds * 1000⟩

/-- A stopped timer keeps the remaining time it had (log 24). -/
def Timer.stopped (t : Timer) : Timer := { t with running := false }

/-- Whether every station of an aisle passes a test of its shutter record. -/
def State.bothShutters (s : State) (a : Aisle) (f : Shutter → Bool) : Bool :=
  (cranesOf a).all (fun k => f (s.shutter k))

/-- Changes the shutter records of both stations of an aisle. -/
def modShutters (a : Aisle) (f : Shutter → Shutter) (s : State) : State :=
  forCranes (cranesOf a) (fun k s => s.modShutter k f) s

/-- Sets a crane's fire hold (R132). -/
def setFireHold (k : Crane) : State → State := modRailStop k (fun r => { r with fireHold := true })

/-- Clears a crane's fire hold (R138). -/
def clearFireHold (k : Crane) : State → State := modRailStop k (fun r => { r with fireHold := false })

/-! ### Closing and sealing (R134 to R136) -/

/-- The entry to SEALED (R136). -/
def enterSealed (a : Aisle) (s : State) : State :=
  forCranes (cranesOf a) setFireHold
    (s.modFire a (fun f => { f with state := .sealed, confirm := f.confirm.stopped }))

/-- The entry to CLOSING (R131, R133, R134). -/
def enterClosing (a : Aisle) (s : State) : State :=
  let s := modShutters a (fun r => { r with holdOpen := false }) s
  let s := s.modFire a (fun f =>
    { f with state := .closing, hold := f.hold.stopped, confirm := startTimer s.params.shutterConfirm })
  if s.bothShutters a Shutter.isClosed then enterSealed a s else s

/-- In PARKING, CLOSING is entered once both hold-open lines are released (R131). -/
def closeIfReleased (a : Aisle) (s : State) : State :=
  if (s.fire a).state = .parking ∧ s.bothShutters a (fun r => !r.holdOpen) = true then enterClosing a s else s

/-- In PARKING, an asserted line is released where its station's plane-clear flag is set (R127, R131). -/
def releaseClear (a : Aisle) (s : State) : State :=
  if (s.fire a).state = .parking then
    closeIfReleased a (modShutters a (fun r => { r with holdOpen := r.holdOpen && !r.planeClear }) s)
  else s

/-! ### Plane-clear flags (R130) -/

/-- Whether a stretch contains a rail position (R130). -/
def Span.has (sp : Span) (z : Int) : Bool := decide (sp.west ≤ z) && decide (z ≤ sp.east)

/-- The stretch of a crane for the plane-clear evaluation: its window envelope, or its reservation when
it has none (R104, R130, log 8). -/
def State.planeSpan (s : State) (k : Crane) : Span :=
  if s.calibrated k then ((s.channel k).envelope).getD (s.edges k) else s.edges k

/-- Whether the plane of station k is clear of both cranes of its aisle (R130). -/
def State.planeIsClear (s : State) (k : Crane) : Bool :=
  (cranesOf (aisleOf k)).all (fun c => !(s.planeSpan c).has s.params.planePos[k])

/-- The evaluation of both plane-clear flags of an aisle, with the releases of R131 (R130). -/
def evaluatePlanes (a : Aisle) (s : State) : State :=
  releaseClear a (forCranes (cranesOf a)
    (fun k s => s.modShutter k (fun r => { r with planeClear := s.planeIsClear k })) s)

/-! ### The alarm (R127) -/

/-- Every PRESENTED claim at a station becomes HELD (R43, R127). -/
def holdClaims (k : Crane) (s : State) : State :=
  forIds ((s.claims.entries.filter (fun e =>
      decide (e.2.station = k) && decide (e.2.state = .presented))).map Prod.fst)
    (fun id s => touchClaim id (fun c => { c with state := .held }) s) s

/-- A station becomes SHUTTERED (R24). -/
def shutStation (k : Crane) (s : State) : State :=
  holdClaims k (s.modStation k (fun st => { st with state := .shuttered }))

/-- Every QUEUED FETCH of a crane is BLOCKED with AISLE_CLOSED (R67, R127). -/
def closeFetches (k : Crane) (s : State) : State :=
  forIds ((s.tasks.entries.filter (fun e =>
      decide (e.2.crane = k) && decide (e.2.kind = .fetch) && decide (e.2.state = .queued))).map Prod.fst)
    (fun id s => blockTask id .aisleClosed s) s

/-- The entry to PARKING (R127). That the west crane's PARK is admitted before the east crane's is the model's choice (log 57). -/
def enterParking (a : Aisle) (s : State) : State :=
  let s := s.modFire a (fun f => { f with state := .parking, confirm := f.confirm.stopped })
  let s := forCranes (cranesOf a) shutStation s
  let s := forCranes (cranesOf a) closeFetches s
  let s := forCranes (cranesOf a) admitPark s
  let s := s.modFire a (fun f => { f with hold := startTimer s.params.shutterHold })
  let s := releaseClear a s
  forCranes (cranesOf a) (fun k s => latchK k .firePark s) (latchFire a s)

/-- An alarm edge of an aisle (R124, R127). -/
def alarmEdge (a : Aisle) (s : State) : State :=
  match (s.fire a).state with
  | .normal | .reopening => enterParking a s
  | .parking | .closing | .sealed => s

/-- Takes the alarm edges of the aisles whose alarm condition has become true since `old` (R124), aisle 0 first
(log 51). -/
def alarmEdges (old s : State) : State :=
  [(0 : Aisle), 1].foldl (fun s a => if !old.alarm a && s.alarm a then alarmEdge a s else s) s

/-- Sets the debounced level of a fire line (R124). -/
def FireLines.set (f : FireLines) (line : FireLine) (active : Bool) : FireLines :=
  match line with
  | .fire0 => { f with fire0 := active }
  | .fire1 => { f with fire1 := active }
  | .fireW => { f with fireW := active }

/-- FIRE_LINE_SETTLED: a fire line's debounced level is taken (R124). -/
def execFireLineSettled (line : FireLine) (active : Bool) (s : State) : Host.Outcome State Fault Refusal :=
  .next (if s.inReset then s
    else settle (alarmEdges s { s with fireLines := s.fireLines.set line active }))

/-! ### The return to NORMAL (R138) -/

/-- What the return to NORMAL does to a crane: an uncalibrated UNHOMED or SILENT crane becomes STOPPED,
a PARKED one READY, and the fire hold is cleared (R138). -/
def reopenCrane (k : Crane) (s : State) : State :=
  let uncalibrated := !s.calibrated k
    && (decide ((s.rail k).state = .unhomed) || decide ((s.rail k).state = .silent))
  let s := if uncalibrated then stopCrane k .fire s else s
  let s := if (s.rail k).state = .parked then changeRail k (fun r => { r with state := .ready }) s else s
  clearFireHold k s

/-- Completes every PARK of a crane, and pops its stack if it has no active task (R80, R138). -/
def completeParks (k : Crane) (s : State) : State :=
  let s := forIds ((s.tasks.entries.filter (fun e =>
      decide (e.2.crane = k) && decide (e.2.kind = .park))).map Prod.fst) completeTask s
  markDue k (popStack k true s)

/-- A station takes its staff setting as its state, and its HELD claims are PRESENTED again (R24, R43). -/
def reopenStation (k : Crane) (s : State) : State :=
  let s := s.modStation k (fun st => { st with state := (match st.staff with
    | .opened => .opened
    | .closed => .closed) })
  forIds ((s.claims.entries.filter (fun e =>
      decide (e.2.station = k) && decide (e.2.state = .held))).map Prod.fst)
    (fun id s => touchClaim id (fun c => { c with state := .presented }) s) s

/-- The return of an aisle to NORMAL (R138). -/
def enterNormal (a : Aisle) (old : State) : State :=
  let s := old.modFire a (fun f => { f with state := .normal, confirm := f.confirm.stopped })
  let s := modShutters a (fun r => { r with fault := false, holdOpen := true }) s
  let s := forCranes (cranesOf a) reopenCrane s
  let s := forCranes (cranesOf a) completeParks s
  let s := reexamine (fun t => decide (t.block = some .aisleClosed) && decide (aisleOf t.crane = a)) s
  let s := forCranes (cranesOf a) (fun k s => readyIfNewlyEligible k old s) s
  forCranes (cranesOf a) reopenStation s

/-! ### Shutter inputs (R125) -/

/-- Sets the debounced level of a shutter input (R125). -/
def Shutter.setInput (r : Shutter) (i : ShutterInput) (level : Bool) : Shutter :=
  match i with
  | .openInput => { r with openIn := level }
  | .closedInput => { r with closedIn := level }

/-- What a change of a shutter's condition does in its aisle's fire state (R134, R136, R138). -/
def shutterChanged (k : Crane) (wasClosed : Bool) (s : State) : State :=
  let a := aisleOf k
  match (s.fire a).state with
  | .closing => if s.bothShutters a Shutter.isClosed then enterSealed a s else s
  | .sealed =>
    if wasClosed then latchShutterFault a (s.modShutter k (fun r => { r with fault := true })) else s
  | .reopening => if s.bothShutters a Shutter.isOpen then enterNormal a s else s
  | .normal | .parking => s

/-- SHUTTER_INPUT_SETTLED: a shutter input's debounced level is taken (R125). -/
def execShutterInputSettled (k : Crane) (input : ShutterInput) (level : Bool) (s : State) :
    Host.Outcome State Fault Refusal :=
  .next (if s.inReset then s
    else
      let s1 := s.modShutter k (fun r => r.setInput input level)
      if (s1.shutter k).conditionCode = (s.shutter k).conditionCode then s1
      else settle (shutterChanged k (s.shutter k).isClosed s1))

/-! ### Timers (R133, R135, R139) -/

/-- SHUTTER_HOLD_EXPIRY: the shutter hold timer of an aisle in PARKING has reached 0 (R133). -/
def execShutterHoldExpiry (a : Aisle) (s : State) : Host.Outcome State Fault Refusal :=
  .next (if s.inReset = false ∧ (s.fire a).state = .parking ∧ (s.fire a).hold = ⟨true, 0⟩ then
      enterClosing a (forCranes (cranesOf a)
        (fun k s => if (s.rail k).state = .parked then s else setFireHold k s)
        (modShutters a (fun r => { r with holdOpen := false }) s))
    else s)

/-- Sets the shutter fault flag of each station of an aisle that fails a test, and latches
SHUTTER_FAULT (R135, R139). -/
def faultShutters (a : Aisle) (ok : Shutter → Bool) (s : State) : State :=
  latchShutterFault a (modShutters a (fun r => { r with fault := r.fault || !ok r }) s)

/-- SHUTTER_CONFIRM_EXPIRY: the shutter confirm timer of an aisle has reached 0 (R135, R139). -/
def execShutterConfirmExpiry (a : Aisle) (s : State) : Host.Outcome State Fault Refusal :=
  .next (if s.inReset = false ∧ (s.fire a).confirm = ⟨true, 0⟩ then
      match (s.fire a).state with
      | .closing => enterSealed a (faultShutters a Shutter.isClosed s)
      | .reopening =>
        (faultShutters a Shutter.isOpen s).modFire a (fun f => { f with confirm := f.confirm.stopped })
      | .normal | .parking | .sealed => s
    else s)

/-! ### RESUME AISLE and the fire part (R126, R137) -/

/-- The line of an aisle's own fire input. -/
def FireLines.own (f : FireLines) (a : Aisle) : Bool := if a = 0 then f.fire0 else f.fire1

/-- The fire part of QUERY CRANE and RESUME AISLE (R126). That running timers and asserted hold-open lines are sent as
set flags, and an active fire line as level 0, is the model's choice (log 13). -/
def State.firePart (s : State) (a : Aisle) : List Byte :=
  let f := s.fire a
  put8 f.state.code ++ putFlag f.hold.running ++ put32 f.hold.left ++ putFlag f.confirm.running
    ++ put32 f.confirm.left ++ putFlag (s.alarm a) ++ putFlag (!s.fireLines.own a) ++ putFlag (!s.fireLines.fireW)
    ++ (cranesOf a).flatMap (fun k =>
      let r := s.shutter k
      putFlag r.planeClear ++ putFlag (s.holdOpenLine k) ++ putFlag r.fault ++ put8 r.conditionCode)

/-- What an accepted RESUME AISLE does (R137). -/
def resumeAisle (a : Aisle) (s : State) : State :=
  let s := modShutters a (fun r => { r with fault := false, holdOpen := true }) s
  let s := s.modFire a (fun f =>
    { f with state := .reopening, confirm := startTimer s.params.shutterConfirm })
  if s.bothShutters a Shutter.isOpen then enterNormal a s else s

/-- RESUME AISLE as carried out by the fire sequencer (R137). -/
def serveResumeAisle (body : List Byte) (s : State) : Reply :=
  match aisleOfNat (byteAt body 0) with
  | none => refuse .outOfRange s
  | some a =>
    if s.alarm a then refuse .fireActive s
    else match (s.fire a).state with
      | .normal | .parking | .closing => refuse .wingState s
      | .sealed | .reopening =>
        let s1 := settle (resumeAisle a s)
        reply .ok (s1.firePart a) s1

/-- RESUME_AISLE (R137). -/
def execResumeAisle (s : State) : Host.Outcome State Fault Refusal :=
  .next (take .c .resumeAisle anyBody serveResumeAisle s)

/-- QUERY_CRANE_FIRE: part 3, of the aisle of the named crane (R126). -/
def execQueryCraneFire (s : State) : Host.Outcome State Fault Refusal :=
  .next (take .c .queryCrane (fun b => cranePart b == 3)
    (serveQueryCrane (fun s k => s.firePart (aisleOf k)) false) s)

/-! ### The end of a reset (R173) -/

/-- RESET_RELEASE: every record takes its reset value with the pins' levels, and an aisle found in alarm
takes its alarm edge at wing time 0 (R126, R173). The waiting commands are kept (log 1). -/
def execResetRelease (pins : Pins) (s : State) : Host.Outcome State Fault Refusal :=
  let s1 := State.afterReset pins
  .next { settle (alarmEdges { s1 with fireLines := ⟨false, false, false⟩ } s1) with pending := s.pending }

end Sys2Proof.Machine
end

