-- ==== Sys2Proof/Machine/Channels.lean ====
section
/-!
DEFINITION. The position channels' events (Chapter 5): ENCODER_TRANSITION, REFERENCE_EDGE, FORK_EDGE, WINDOW_END.
-/
namespace Sys2Proof.Machine

/-! ### Counting (R87, R88) -/

/-- Whether a transition from the pair (a, b) to (a', b') is a forward one: 00 to 10, 10 to 11, 11 to 01,
01 to 00 (R87). -/
def isForward : Bool → Bool → Bool → Bool → Bool
  | false, false, true, false => true
  | true, false, true, true => true
  | true, true, false, true => true
  | false, true, false, false => true
  | _, _, _, _ => false

/-- Whether a transition counts in an edge mode, by the levels of A before and after (R88). -/
def modeCounts (mode : Nat) (a a' : Bool) : Bool :=
  if mode = 4 then true
  else if mode = 2 then a != a'
  else !a && a'

/-- The count after a transition that is no quadrature error (R87, R88). -/
def countAfter (mode : Nat) (inverted : Bool) (c : Channel) (a b : Bool) : BitVec 32 :=
  if modeCounts mode c.phaseA a then
    if isForward c.phaseA c.phaseB a b != inverted then c.counter + 1 else c.counter - 1
  else c.counter

/-- The implausible position check of a calibrated channel (R91). -/
def State.implausible (s : State) (k : Crane) : Bool :=
  s.calibrated k
    && (decide (s.posMm k < -1000) || decide (s.params.railLength[aisleOf k] + 1000 < s.posMm k))

/-- The check of R91 after a counted transition or a load. -/
def plausibleCheck (k : Crane) (s : State) : State :=
  if s.implausible k then channelFaulted k .implausible s else s

/-- A change of the level pair of a crane's encoder (R87, R89, R91). -/
def takeTransition (k : Crane) (a b : Bool) (s : State) : State :=
  let c := s.channel k
  if c.phaseA = a ∧ c.phaseB = b then s
  else if c.phaseA ≠ a ∧ c.phaseB ≠ b then
    let s := s.modChannel k (fun c => { c with phaseA := a, phaseB := b })
    if c.state = .faulted then s else channelFaulted k .quadrature s
  else
    let s1 := s.modChannel k (fun c =>
      { c with counter := countAfter s.params.edgeMode[k] s.params.inverted[k] c a b, phaseA := a, phaseB := b })
    if modeCounts s.params.edgeMode[k] c.phaseA a then plausibleCheck k s1 else s1

/-- ENCODER_TRANSITION: the levels of A and B become a new pair (R87). -/
def execEncoderTransition (k : Crane) (a b : Bool) (s : State) : Host.Outcome State Fault Refusal :=
  .next (if s.inReset then s else settle (takeTransition k a b s))

/-! ### The reference mark (R93 to R95) -/

/-- The direction toward a crane's home end (R93). -/
def homeDirection (k : Crane) : Direction := if isWest k then .west else .east

/-- The counter is loaded, and the previous window count is shifted by the same amount (R94). -/
def Channel.load (c : Channel) (ref : BitVec 32) : Channel :=
  { c with counter := ref, prev := c.prev + (ref - c.counter) }

/-- A reference edge calibrates the channel, and its last deviation is absent (R94, log 38). -/
def calibrate (k : Crane) (s : State) : State :=
  let s := s.modChannel k (fun c =>
    { c.load s.params.refCount[k] with state := .calibrated, fault := .none, deviation := none })
  if s.implausible k then channelFaulted k .implausible s
  else railCalibrated k (latchK k .recal s)

/-- The deviation of a calibrated count from ref_count, in µm (R95). -/
def State.deviation (s : State) (k : Crane) : Nat :=
  ((s.channel k).counter.toInt - s.params.refCount[k].toInt).natAbs * s.params.pitch[k]

/-- A reference edge checks a calibrated count (R95). -/
def checkReference (k : Crane) (s : State) : State :=
  let d := s.deviation k
  let s := s.modChannel k (fun c => { c with deviation := some d })
  if (d : Int) ≤ s.params.tRef * 1000 then
    plausibleCheck k (s.modChannel k (fun c => c.load s.params.refCount[k]))
  else channelFaulted k .slip s

/-- A rising edge of REF (R93). -/
def referenceEdge (k : Crane) (s : State) : State :=
  if (s.channel k).direction = homeDirection k then
    match (s.channel k).state with
    | .uncalibrated => calibrate k s
    | .calibrated => checkReference k s
    | .faulted => s
  else s

/-- REFERENCE_EDGE: the level of REF changes; a falling edge is not taken (R93). -/
def execReferenceEdge (k : Crane) (level : Bool) (s : State) : Host.Outcome State Fault Refusal :=
  .next (if s.inReset then s
    else
      let s1 := s.modChannel k (fun c => { c with refLevel := level })
      if level && !(s.channel k).refLevel then settle (referenceEdge k s1) else s1)

/-! ### Fork captures (R96) -/

/-- The capture of a fork edge (R96). -/
def State.capture (s : State) (k : Crane) : Capture := ⟨s.posMm k, s.calibrated k⟩

/-- FORK_EDGE: the level of FORK changes; a rising edge writes the pick capture, a falling edge the
set-down capture (R96). -/
def execForkEdge (k : Crane) (level : Bool) (s : State) : Host.Outcome State Fault Refusal :=
  .next (if s.inReset ∨ (s.channel k).forkLevel = level then s
    else s.modChannel k (fun c =>
      { c with forkLevel := level,
               pick := if level then s.capture k else c.pick,
               setDown := if level then c.setDown else s.capture k }))

/-! ### Speed (R98, R99) -/

/-- The signed 32-bit difference of a window (R98). -/
def Channel.delta (c : Channel) : Int := (c.counter - c.prev).toInt

/-- The direction of a count difference (R98). -/
def directionOf (d : Int) : Direction := if 0 < d then .east else if d < 0 then .west else .none

/-- The speed of a count difference over a window (R98). -/
def windowSpeed (d : Int) (pitch len : Nat) : Nat := min 8191 (d.natAbs * pitch / len)

/-- The figures of a window end, and the next window's timer (R98, R99). -/
def measureWindow (k : Crane) (s : State) : State :=
  s.modChannel k (fun c =>
    { c with speed := windowSpeed c.delta s.params.pitch[k] c.windowLen, direction := directionOf c.delta,
             prev := c.counter, windowLen := s.params.window, windowLeft := s.params.window })

/-- The window envelope of the window that has just ended (R104). -/
def formEnvelope (k : Crane) (s : State) : State :=
  s.modChannel k (fun c =>
    { c with envelope := if s.calibrated k then some (s.presentEnvelope k) else none })

/-- WINDOW_END: a channel's speed window has run out (R98, R117, R130). -/
def execWindowEnd (k : Crane) (s : State) : Host.Outcome State Fault Refusal :=
  .next (if s.inReset = false ∧ (s.channel k).windowLeft = 0 then
      settle (evaluatePlanes (aisleOf k) (overrunCheck k (formEnvelope k (measureWindow k s))))
    else s)

end Sys2Proof.Machine
end

