-- ==== Sys2Proof/Machine/Claims.lean ====
section
/-!
DEFINITION. The claim unit's requests and events (Chapter 2): CLAIM, PICK, COUNT, RELEASE, CANCEL, QUERY_CLAIM,
QUERY_CLAIM_ITEMS, DWELL_EXPIRY.
-/
namespace Sys2Proof.Machine

/-- The kind of claim of a body field (R158). -/
def claimKindOf : Nat → Option ClaimKind
  | 0 => some .lend
  | 1 => some .ret
  | 2 => some .audit
  | _ => none

/-- Whether the item list of a CLAIM fails check 2 of R28. -/
def badItems (capacity : Nat) (kind : ClaimKind) (items : List (BitVec 32 × Nat)) : Bool :=
  (match kind with
    | .audit => !items.isEmpty
    | _ => items.isEmpty)
  || items.any (fun i => decide (i.2 = 0) || decide (capacity < i.2))

/-- CLAIM as carried out by the claim unit (R28, R29). That an urgent flag byte other than 0 and 1 counts as set is
the model's choice (log 47). -/
def serveClaim (body : List Byte) (s : State) : Reply :=
  let b := wordAt body 2
  let items := claimItems body
  if s.wing ≠ .opened then refuse .wingState s
  else match claimKindOf (byteAt body 0), craneOf (byteAt body 4) with
    | some kind, some st =>
      if 8191 < b ∨ badItems s.params.capacity kind items = true then refuse .outOfRange s
      else match s.bin? b with
        | none => refuse .noSuch s
        | some r =>
          if s.binAisle r ≠ aisleOf st then refuse .wrongAisle s
          else if (s.station st).accepts r.key = false then refuse .keyDenied s
          else if (s.station st).state = .closed then refuse .stationClosed s
          else if (s.station st).state = .shuttered then refuse .aisleClosed s
          else if kind = .ret ∧ s.freeUnits r < (items.map Prod.snd).sum then refuse .noRoom s
          else match s.claimEntry with
            | none => refuse .tableFull s
            | some id =>
              let s1 := settle (createClaim id kind (decide (byteAt body 1 ≠ 0)) b st items s)
              reply .ok (put8 id ++ (match s1.claim? id with
                | some c => put8 c.state.code ++
                    put8? (if c.state = .queued then some (s1.waitReason id c) else none)
                | none => [])) s1
    | _, _ => refuse .outOfRange s

/-- CLAIM (R28). -/
def execClaim (s : State) : Host.Outcome State Fault Refusal :=
  .next (take .c .claim anyBody serveClaim s)

/-- Checks 1 to 4 of R35 on a claim: the claim, or the status of the first check that fails. -/
def State.liveClaim (s : State) (id : Nat) (badField : Bool) : Except Status Claim :=
  if s.wing ≠ .opened then .error .wingState
  else if 127 < id ∨ badField = true then .error .outOfRange
  else match s.claim? id with
    | none => .error .noSuch
    | some c => if c.state.live = false then .error .doneAlready else .ok c

/-- Checks 1 to 6 of R35 on a claim. -/
def State.presentedClaim (s : State) (id : Nat) (badField : Bool) : Except Status Claim :=
  match s.liveClaim id badField with
  | .error e => .error e
  | .ok c => match c.state with
    | .held => .error .aisleClosed
    | .queued | .fetching => .error .busy
    | _ => .ok c

/-- The outcome of a PICK body field (R158). -/
def pickOutcomeOf : Nat → Option ItemOutcome
  | 0 => some .taken
  | 1 => some .absent
  | 2 => some .placed
  | _ => none

/-- Whether a PICK outcome belongs to a claim's kind (check 7 of R35). -/
def outcomeFits : ClaimKind → ItemOutcome → Bool
  | .lend, .taken => true
  | .lend, .absent => true
  | .ret, .placed => true
  | _, _ => false

/-- The effect of an accepted PICK on the bin record (R35). -/
def Bin.picked (r : Bin) (o : ItemOutcome) (u : Nat) : Bin :=
  match o with
  | .taken => { r with fill := r.fill - u, change := true, anomaly := r.anomaly || decide (r.fill < u) }
  | .absent => { r with anomaly := true }
  | .placed => { r with reserved := r.reserved - u, fill := r.fill + u, change := true }
  | _ => r

/-- The number of items still PENDING. -/
def Claim.pendingItems (c : Claim) : Nat :=
  (c.items.filter (fun i => decide (i.outcome = .pending))).length

/-- PICK as carried out by the claim unit (R35). -/
def servePick (body : List Byte) (s : State) : Reply :=
  let id := byteAt body 0
  let i := byteAt body 1
  let o := pickOutcomeOf (byteAt body 2)
  match s.presentedClaim id o.isNone, o with
  | .error e, _ => refuse e s
  | .ok _, none => refuse .outOfRange s
  | .ok c, some o =>
    match c.items[i]? with
    | none => refuse .outOfRange s
    | some it =>
      if outcomeFits c.kind o = false then refuse .outOfRange s
      else if it.outcome ≠ .pending then refuse .doneAlready s
      else
        let short := decide (o = .taken) && decide ((s.bin? c.bin).elim 0 Bin.fill < it.units)
        let s1 := touchClaim id (fun c => { c with items := c.items.set i { it with outcome := o } })
          (s.modBin c.bin (fun r => r.picked o it.units))
        reply (if short then .clamped else .ok)
          (put8 id ++ put8 i ++ put8 ((s1.bin? c.bin).elim 0 Bin.fill)
            ++ put8 ((s1.bin? c.bin).elim 0 Bin.reserved)
            ++ put8 ((s1.claim? id).elim 0 Claim.pendingItems)) s1

/-- PICK (R35). -/
def execPick (s : State) : Host.Outcome State Fault Refusal :=
  .next (take .c .pick anyBody servePick s)

/-- The outcomes of a COUNT, judged in the order of R36's table: MATCH 0, CORRECTED 1, CLAMPED 2. -/
def countOutcome (capacity : Nat) (r : Bin) (f : Nat) : Nat :=
  if f = r.fill then 0 else if capacity < f + r.reserved then 2 else 1

/-- The effect of an accepted COUNT on the bin record (R36). -/
def Bin.counted (capacity : Nat) (r : Bin) (f : Nat) : Bin :=
  match countOutcome capacity r f with
  | 0 => { r with reference := false, change := false, anomaly := false }
  | 1 => { r with fill := f, anomaly := false, change := true }
  | _ => { r with fill := capacity - r.reserved, change := true, anomaly := true }

/-- COUNT as carried out by the claim unit (R36). -/
def serveCount (body : List Byte) (s : State) : Reply :=
  let id := byteAt body 0
  let f := byteAt body 1
  match s.presentedClaim id false with
  | .error e => refuse e s
  | .ok c =>
    if c.kind ≠ .audit then refuse .outOfRange s
    else match s.bin? c.bin with
      | none => refuse .noSuch s
      | some r =>
        let o := countOutcome s.params.capacity r f
        let r' := r.counted s.params.capacity f
        reply (if o = 2 then .clamped else .ok) (put8 o ++ put8 r'.fill) (s.setBin c.bin r')

/-- COUNT (R36). -/
def execCount (s : State) : Host.Outcome State Fault Refusal :=
  .next (take .c .count anyBody serveCount s)

/-- RELEASE as carried out by the claim unit (R38). -/
def serveRelease (body : List Byte) (s : State) : Reply :=
  let id := byteAt body 0
  match s.presentedClaim id false with
  | .error e => refuse e s
  | .ok _ =>
    let s1 := settle (endPresented id .done s)
    reply .ok (putList (fun i => put8 i.outcome.code) ((s1.claim? id).elim [] Claim.items)) s1

/-- RELEASE (R38). -/
def execRelease (s : State) : Host.Outcome State Fault Refusal :=
  .next (take .c .release anyBody serveRelease s)

/-- CANCEL as carried out by the claim unit (R39, R40). -/
def serveCancel (body : List Byte) (s : State) : Reply :=
  let id := byteAt body 0
  match s.liveClaim id false with
  | .error e => refuse e s
  | .ok c =>
    match c.state with
    | .held => refuse .aisleClosed s
    | .presented => reply .ok [] (settle (endPresented id .cancelled s))
    | _ => reply .ok [] (settle (cancelWaiting id s))

/-- CANCEL (R39, R40). -/
def execCancel (s : State) : Host.Outcome State Fault Refusal :=
  .next (take .c .cancel anyBody serveCancel s)

/-- What QUERY CLAIM does to the claim it reports: its unseen-change flag is cleared, and a final claim
is retired (R26, R27, R44). -/
def readClaim (id : Nat) (c : Claim) (s : State) : State :=
  if c.state.live then s.setClaim id { c with unseen := false }
  else { s with claims := s.claims.erase id }

/-- The fields of a claim in a QUERY CLAIM response (R44). That a class takes one byte is the model's choice
(log 13). -/
def putClaim (s : State) (id : Nat) (c : Claim) : List Byte :=
  put8 c.kind.code ++ putFlag c.urgent ++ put8 c.cls ++ put16 c.bin ++ put8 c.station.val ++ put8 c.state.code
    ++ put8 (s.waitReason id c) ++ put32 c.created ++ putTime? c.presented ++ put32 c.dwell ++ put8? c.task
    ++ putList (fun i => put8 i.units ++ put8 i.outcome.code) c.items ++ putFlag c.unseen

/-- QUERY CLAIM as carried out by the claim unit, with the fields of its form (R44). -/
def serveQueryClaim (fields : State → Nat → Claim → List Byte) (badForm : Bool) (body : List Byte)
    (s : State) : Reply :=
  let id := byteAt body 0
  if 127 < id ∨ badForm = true then refuse .outOfRange s
  else match s.claim? id with
    | none => refuse .noSuch s
    | some c => reply .ok (fields s id c) (readClaim id c s)

/-- The second form of QUERY CLAIM: field 1 (R158). -/
def itemsForm (body : List Byte) : Bool := byteAt body 1 == 1

/-- QUERY_CLAIM: form 0; a form outside 0 and 1 is refused (R44, R158). -/
def execQueryClaim (s : State) : Host.Outcome State Fault Refusal :=
  .next (take .c .queryClaim (fun b => !itemsForm b)
    (fun b => serveQueryClaim putClaim (decide (byteAt b 1 ≠ 0)) b) s)

/-- QUERY_CLAIM_ITEMS: the item numbers (R44). -/
def execQueryClaimItems (s : State) : Host.Outcome State Fault Refusal :=
  .next (take .c .queryClaim itemsForm
    (fun b => serveQueryClaim (fun _ _ c => putList (fun i => putBits i.number) c.items) false b) s)

/-- DWELL_EXPIRY: a PRESENTED claim's dwell remaining has reached 0 (R42). -/
def execDwellExpiry (id : Nat) (s : State) : Host.Outcome State Fault Refusal :=
  .next (match s.claim? id with
    | some c =>
      if s.inReset = false ∧ c.state = .presented ∧ c.dwell = 0 then
        latchC .dwell (settle (endPresented id .expired s))
      else s
    | none => s)

end Sys2Proof.Machine
end

