-- ==== Sys2Proof/Machine/Directory.lean ====
section
/-!
DEFINITION. The directory's requests (Chapter 1) and STATION (R22): LOAD_LANE, LOAD_STATION, OPEN_WING, REGISTER_BIN, REMOVE_BIN,
QUERY_BIN, QUERY_LANE, STATION.
-/
namespace Sys2Proof.Machine

/-- A fill clamped at C (R2). -/
def State.clampFill (s : State) (f : Nat) : Nat := min f s.params.capacity

/-- OK, or CLAMPED when something was clamped (R2). -/
def okOrClamped (clamped : Bool) : Status := if clamped then .clamped else .ok

/-- A bin that enters the wing: reserved 0, flags clear, chain empty (R10, R11). -/
def Bin.entering (place : BinPlace) (key fill : Nat) : Bin :=
  ⟨place, key, fill, 0, false, false, false, []⟩

/-- LOAD LANE as carried out by the directory (R12). That the number of fills clamped takes one byte is the model's
choice (log 13). -/
def serveLoadLane (body : List Byte) (s : State) : Reply :=
  let aisle := byteAt body 0
  let side := byteAt body 1
  let bay := byteAt body 2
  let level := byteAt body 3
  let key := byteAt body 4
  let depth := byteAt body 5
  let entries := laneEntries body
  let ids := entries.map Prod.fst
  if s.wing ≠ .loading then refuse .wingState s
  else if 1 < aisle ∨ 1 < side ∨ s.params.bays ≤ bay ∨ s.params.levels ≤ level ∨ 7 < key
      ∨ depth < 1 ∨ 4 < depth ∨ depth < entries.length ∨ ids.any (fun b => decide (8191 < b)) = true then
    refuse .outOfRange s
  else
    let i := s.params.laneIndex aisle side bay level
    if ¬ ids.Nodup ∨ ids.any (fun b => match s.bin? b with
        | some r => decide (r.place ≠ .stored i)
        | none => false) = true then refuse .duplicate s
    else
      let old := s.lane i
      let clamped := (entries.filter (fun e => decide (s.params.capacity < e.2))).length
      let s1 := forIds (old.contents.filter (fun b => !ids.contains b)) (fun b s => s.dropBin b) s
      let s2 := s1.setLane i { old with key := key, depth := depth, contents := ids }
      let s3 := entries.foldl (fun s e =>
        s.setBin e.1 (Bin.entering (.stored i) key (s.clampFill e.2))) s2
      reply (okOrClamped (decide (0 < clamped)))
        (put16 i ++ put8 clamped ++ put16 s3.presentCount ++ put16 s3.totalSlots) s3

/-- LOAD_LANE (R12). -/
def execLoadLane (s : State) : Host.Outcome State Fault Refusal :=
  .next (take .c .loadLane anyBody serveLoadLane s)

/-- LOAD STATION as carried out by the directory (R13). -/
def serveLoadStation (body : List Byte) (s : State) : Reply :=
  let b := wordAt body 2
  let key := byteAt body 4
  let fill := byteAt body 5
  if s.wing ≠ .loading then refuse .wingState s
  else match craneOf (byteAt body 0), posOf (byteAt body 1) with
    | some k, some p =>
      let here := (s.station k).bins[p]
      if b = 65535 then
        let s1 := match here with
          | some x => (s.dropBin x).modStation k (fun st => { st with bins := st.bins.set p none })
          | none => s
        reply .ok (put16 s1.presentCount ++ put16 s1.totalSlots) s1
      else if 8191 < b ∨ 7 < key then refuse .outOfRange s
      else if (match s.bin? b with
          | some r => decide (r.place ≠ .atStation k p)
          | none => false) = true then refuse .duplicate s
      else if here.isSome = true ∧ here ≠ some b then refuse .busy s
      else
        let s1 := (s.setBin b (Bin.entering (.atStation k p) key (s.clampFill fill))).modStation k
          (fun st => { st with bins := st.bins.set p (some b) })
        reply (okOrClamped (decide (s.params.capacity < fill)))
          (put16 s1.presentCount ++ put16 s1.totalSlots) s1
    | _, _ => refuse .outOfRange s

/-- LOAD_STATION (R13). -/
def execLoadStation (s : State) : Host.Outcome State Fault Refusal :=
  .next (take .c .loadStation anyBody serveLoadStation s)

/-- Admits a STOW of class 4 for every bin at a station, in station and position order (R14, R20). -/
def stowStations (s : State) : State :=
  forCranes allCranes (fun k s =>
    allPos.foldl (fun s p => match (s.station k).bins[p] with
      | some b => admitStow b k p 4 s
      | none => s) s) s

/-- OPEN WING as carried out by the directory (R14). -/
def serveOpenWing (_ : List Byte) (s : State) : Reply :=
  if s.wing ≠ .loading then refuse .wingState s
  else if s.headroom < 0 then refuse .noRoom s
  else reply .ok (put16 s.presentCount ++ put16 s.totalSlots)
    (settle (stowStations { s with wing := .opened }))

/-- OPEN_WING (R14). -/
def execOpenWing (s : State) : Host.Outcome State Fault Refusal :=
  .next (take .c .openWing anyBody serveOpenWing s)

/-- REGISTER BIN as carried out by the directory (R15). -/
def serveRegisterBin (body : List Byte) (s : State) : Reply :=
  let b := wordAt body 0
  let key := byteAt body 2
  let fill := byteAt body 3
  if s.wing ≠ .opened then refuse .wingState s
  else if 8191 < b ∨ 7 < key then refuse .outOfRange s
  else match craneOf (byteAt body 4), posOf (byteAt body 5) with
    | some k, some p =>
      if (s.bin? b).isSome = true then refuse .duplicate s
      else if (s.station k).accepts key = false then refuse .keyDenied s
      else if (s.station k).state = .closed then refuse .stationClosed s
      else if s.normal (aisleOf k) = false then refuse .aisleClosed s
      else if (s.station k).free p = false then refuse .busy s
      else if s.headroom < 1 then refuse .noRoom s
      else
        let s1 := (s.setBin b (Bin.entering (.atStation k p) key (s.clampFill fill))).modStation k
          (fun st => { st with bins := st.bins.set p (some b) })
        let s2 := settle (admitStow b k p 4 s1)
        reply (okOrClamped (decide (s.params.capacity < fill))) (put16 b ++ putInt s1.headroom) s2
    | _, _ => refuse .outOfRange s

/-- REGISTER_BIN (R15). -/
def execRegisterBin (s : State) : Host.Outcome State Fault Refusal :=
  .next (take .c .registerBin anyBody serveRegisterBin s)

/-- Whether a task other than a QUEUED or BLOCKED STOW of the bin names the bin, as its own or in its
dig plan (R16). -/
def State.binInWork (s : State) (b : Nat) : Bool :=
  s.tasks.entries.any (fun e =>
    (decide (e.2.bin = some b) || e.2.dig.any (fun d => d.1 == b))
      && !(decide (e.2.kind = .stow) && decide (e.2.bin = some b)
            && (decide (e.2.state = .queued) || decide (e.2.state = .blocked))))

/-- REMOVE BIN as carried out by the directory (R16). -/
def serveRemoveBin (body : List Byte) (s : State) : Reply :=
  let b := wordAt body 0
  if s.wing ≠ .opened then refuse .wingState s
  else if 8191 < b then refuse .outOfRange s
  else match s.bin? b with
    | none => refuse .noSuch s
    | some r =>
      match r.place with
      | .atStation k p =>
        if r.chain ≠ [] ∨ s.binInWork b = true then refuse .busy s
        else
          let s1 := (s.stowOf b).elim s (fun id => endTask id s)
          let s2 := (s1.dropBin b).modStation k (fun st => { st with bins := st.bins.set p none })
          let s3 := settle (positionFreed k s2)
          reply .ok (putInt s3.headroom) s3
      | _ => refuse .busy s

/-- REMOVE_BIN (R16). -/
def execRemoveBin (s : State) : Host.Outcome State Fault Refusal :=
  .next (take .c .removeBin anyBody serveRemoveBin s)

/-- QUERY BIN as carried out by the directory (R18). -/
def serveQueryBin (body : List Byte) (s : State) : Reply :=
  let b := wordAt body 0
  if 8191 < b then refuse .outOfRange s
  else
    let place (code : Nat) (lane : Option Nat) (depth : Option Nat) (crane st : Option Crane)
        (p : Option Pos) : List Byte :=
      put8 code ++ put16? lane ++ (match lane with
          | some i => putLaneAddr s.params i
          | none => putNoLaneAddr)
        ++ put8? depth ++ put8? (crane.map Fin.val) ++ put8? (st.map Fin.val) ++ put8? (p.map Fin.val)
    reply .ok (put8 s.wing.code ++ (match s.bin? b with
      | none =>
        place 0 none none none none none ++ put8 0 ++ put8 0 ++ put8 0 ++ put8 0
          ++ putFlag false ++ putFlag false ++ putFlag false ++ put8 0 ++ putList put8 []
      | some r =>
        (match r.place with
          | .stored i => place 1 (some i) (some ((s.lane i).depthOf b)) none none none
          | .onCrane k => place 2 none none (some k) none none
          | .atStation k p => place 3 none none none (some k) (some p))
          ++ put8 r.key ++ put8 r.fill ++ put8 r.reserved ++ put8 (s.freeUnits r)
          ++ putFlag r.reference ++ putFlag r.change ++ putFlag r.anomaly
          ++ put8 r.chain.length ++ putList put8 (r.chain.take 16))) s

/-- QUERY_BIN (R18). -/
def execQueryBin (s : State) : Host.Outcome State Fault Refusal :=
  .next (take .c .queryBin anyBody serveQueryBin s)

/-- QUERY LANE as carried out by the directory (R19). That the incoming count and the free slots take one byte each
is the model's choice (log 13). -/
def serveQueryLane (body : List Byte) (s : State) : Reply :=
  let aisle := byteAt body 0
  let side := byteAt body 1
  let bay := byteAt body 2
  let level := byteAt body 3
  if 1 < aisle ∨ 1 < side ∨ s.params.bays ≤ bay ∨ s.params.levels ≤ level then refuse .outOfRange s
  else
    let i := s.params.laneIndex aisle side bay level
    let l := s.lane i
    reply .ok
      (put16 i ++ put8 l.key ++ put8 l.depth ++ put8 l.contents.length ++ put8 l.incoming
        ++ put8 (l.depth - l.contents.length - l.incoming)
        ++ putList (fun b => put16 b ++ put8 ((s.bin? b).elim 0 Bin.fill)) l.contents
        ++ put8 s.wing.code ++ put16 s.params.laneCount ++ put16 s.totalSlots ++ put16 s.presentCount
        ++ put8 s.params.reserve ++ putInt s.headroom) s

/-- QUERY_LANE (R19). -/
def execQueryLane (s : State) : Host.Outcome State Fault Refusal :=
  .next (take .c .queryLane anyBody serveQueryLane s)

/-- STATION as carried out by the claim unit (R22). -/
def serveStation (body : List Byte) (s : State) : Reply :=
  let setting := byteAt body 1
  match craneOf (byteAt body 0) with
  | none => refuse .outOfRange s
  | some k =>
    if 1 < setting then refuse .outOfRange s
    else
      let staff : Staff := if setting = 0 then .opened else .closed
      let s1 := s.modStation k (fun st =>
        { st with staff := staff, keyMask := body.getD 2 0,
                  state := if st.state = .shuttered then .shuttered
                    else if setting = 0 then .opened else .closed })
      let st := s1.station k
      reply .ok (put8 st.state.code ++ put8 st.staff.code ++ [st.keyMask]
        ++ put16? st.bins[0] ++ put16? st.bins[1]
        ++ putFlag st.promises[0].isSome ++ putFlag st.promises[1].isSome) s1

/-- STATION (R22). -/
def execStation (s : State) : Host.Outcome State Fault Refusal :=
  .next (take .c .station anyBody serveStation s)

end Sys2Proof.Machine
end

