-- ==== Sys2Proof/Machine/Configure.lean ====
section
/-!
DEFINITION. CONFIGURE (Chapter 11): the parameter table, the clamps, the consistency pass and the block effects of new values.
-/
namespace Sys2Proof.Machine

/-! ### The parameter table (R170) -/

/-- The number of instances of a parameter; 0 for an identifier that is not in the table (R170). -/
def paramInstances (id : Nat) : Nat :=
  if id = 0 ∨ id = 14 ∨ id = 15 ∨ 38 < id then 0
  else if id ≤ 5 then 1
  else if id ≤ 8 then 2
  else if id ≤ 19 then 4
  else if id = 29 then 4
  else 1

/-- The geometry parameters, which may be written only in LOADING (R170). -/
def isGeometry (id : Nat) : Bool := decide (1 ≤ id) && decide (id ≤ 13)

/-- The range of a parameter that is clamped between two bounds (R170); the positions are clamped to
0..200,000. -/
def paramRange (id : Nat) : Int × Int :=
  match id with
  | 1 => (1, 64)
  | 2 => (1, 8)
  | 3 => (1, 4)
  | 4 => (20, 250)
  | 5 => (4, 64)
  | 6 => (0, 200000)
  | 7 => (300, 3000)
  | 8 => (1000, 200000)
  | 9 | 10 | 11 | 12 | 13 => (0, 200000)
  | 16 => (1, 4000)
  | 20 => (1, 200)
  | 21 => (5, 200)
  | 22 => (10, 500)
  | 23 => (4, 32)
  | 24 => (200, 4000)
  | 25 => (0, 500)
  | 26 => (200, 5000)
  | 27 => (100, 5000)
  | 28 => (0, 20000)
  | 29 => (100, 6000)
  | 30 => (100, 6000)
  | 31 => (50, 1000)
  | 32 => (50, 2000)
  | 33 => (5, 120)
  | 34 => (5, 60)
  | 35 => (60, 3600)
  | _ => (0, 255)

/-- A value clamped into a parameter's range (R170). -/
def clampParam (id : Nat) (v : Int) : Int :=
  if id = 17 then (if v ≤ 1 then 1 else if v ≤ 3 then 2 else 4)
  else if id = 18 then (if v ≤ 0 then 0 else 1)
  else if id = 19 then v
  else max (paramRange id).1 (min v (paramRange id).2)

/-- An instance of an integer parameter. -/
def instInt {n : Nat} (v : Vector Int n) (i : Nat) : Int := v[i]?.getD 0
/-- An instance of a natural number parameter. -/
def instNat {n : Nat} (v : Vector Nat n) (i : Nat) : Int := (v[i]?.getD 0 : Nat)

/-- The value of a parameter (R170). -/
def Params.get (p : Params) (id inst : Nat) : Int :=
  match id with
  | 1 => p.bays
  | 2 => p.levels
  | 3 => p.laneDepth
  | 4 => p.capacity
  | 5 => p.reserve
  | 6 => instInt p.firstBay inst
  | 7 => instInt p.bayPitch inst
  | 8 => instInt p.railLength inst
  | 9 => instInt p.stationPos inst
  | 10 => instInt p.planePos inst
  | 11 => instInt p.parkPos inst
  | 12 => instInt p.tmin inst
  | 13 => instInt p.tmax inst
  | 16 => instNat p.pitch inst
  | 17 => instNat p.edgeMode inst
  | 18 => if p.inverted[inst]?.getD false then 1 else 0
  | 19 => (p.refCount[inst]?.getD 0).toInt
  | 20 => p.tRef
  | 21 => p.tPick
  | 22 => p.tPark
  | 23 => p.window
  | 24 => p.brake
  | 25 => p.reaction
  | 26 => p.halfLength
  | 27 => p.gap
  | 28 => p.slip
  | 29 => instNat p.vMax inst
  | 30 => p.vFire
  | 31 => p.vCreep
  | 32 => p.linkTime
  | 33 => p.shutterHold
  | 34 => p.shutterConfirm
  | 35 => p.dwell
  | 36 => p.weights.travel
  | 37 => p.weights.level
  | 38 => p.weights.depth
  | _ => 0

/-- The parameters with one value written (R170). -/
def Params.put (p : Params) (id inst : Nat) (v : Int) : Params :=
  match id with
  | 1 => { p with bays := v.toNat }
  | 2 => { p with levels := v.toNat }
  | 3 => { p with laneDepth := v.toNat }
  | 4 => { p with capacity := v.toNat }
  | 5 => { p with reserve := v.toNat }
  | 6 => { p with firstBay := p.firstBay.setIfInBounds inst v }
  | 7 => { p with bayPitch := p.bayPitch.setIfInBounds inst v }
  | 8 => { p with railLength := p.railLength.setIfInBounds inst v }
  | 9 => { p with stationPos := p.stationPos.setIfInBounds inst v }
  | 10 => { p with planePos := p.planePos.setIfInBounds inst v }
  | 11 => { p with parkPos := p.parkPos.setIfInBounds inst v }
  | 12 => { p with tmin := p.tmin.setIfInBounds inst v }
  | 13 => { p with tmax := p.tmax.setIfInBounds inst v }
  | 16 => { p with pitch := p.pitch.setIfInBounds inst v.toNat }
  | 17 => { p with edgeMode := p.edgeMode.setIfInBounds inst v.toNat }
  | 18 => { p with inverted := p.inverted.setIfInBounds inst (decide (v ≠ 0)) }
  | 19 => { p with refCount := p.refCount.setIfInBounds inst (BitVec.ofInt 32 v) }
  | 20 => { p with tRef := v }
  | 21 => { p with tPick := v }
  | 22 => { p with tPark := v }
  | 23 => { p with window := v.toNat }
  | 24 => { p with brake := v.toNat }
  | 25 => { p with reaction := v.toNat }
  | 26 => { p with halfLength := v }
  | 27 => { p with gap := v }
  | 28 => { p with slip := v }
  | 29 => { p with vMax := p.vMax.setIfInBounds inst v.toNat }
  | 30 => { p with vFire := v.toNat }
  | 31 => { p with vCreep := v.toNat }
  | 32 => { p with linkTime := v.toNat }
  | 33 => { p with shutterHold := v.toNat }
  | 34 => { p with shutterConfirm := v.toNat }
  | 35 => { p with dwell := v.toNat }
  | 36 => { p with weights := { p.weights with travel := v.toNat } }
  | 37 => { p with weights := { p.weights with level := v.toNat } }
  | 38 => { p with weights := { p.weights with depth := v.toNat } }
  | _ => p

/-! ### The consistency pass (R171) -/

/-- Whether a frame writes a parameter instance. -/
def writes (l : List ConfigEntry) (id inst : Nat) : Bool := l.any (fun e => e.id == id && e.inst == inst)

/-- The positions of an aisle that bound its rail length: the (identifier, instance) pairs of its station
positions, shutter planes, park positions and upper travel limits (step 1 of R171). -/
def aislePlaces (a : Aisle) : List (Nat × Nat) :=
  (cranesOf a).flatMap (fun k => [(9, k.val), (10, k.val), (11, k.val), (13, k.val)])

/-- Step 1 of R171 for an aisle: a written L is raised to the largest unwritten position. -/
def fixLength (l : List ConfigEntry) (a : Aisle) (p : Params) : Params :=
  if writes l 8 a.val then
    p.put 8 a.val
      (((aislePlaces a).filter (fun e => !writes l e.1 e.2)).foldl (fun m e => max m (p.get e.1 e.2)) (p.get 8 a.val))
  else p

/-- Step 2 of R171 for an aisle: written positions and travel limits are clamped into [0, L]. -/
def fixPositions (l : List ConfigEntry) (a : Aisle) (p : Params) : Params :=
  (aislePlaces a ++ (cranesOf a).map (fun (k : Crane) => ((12, k.val) : Nat × Nat))).foldl (fun p (e : Nat × Nat) =>
    if writes l e.1 e.2 then p.put e.1 e.2 (max 0 (min (p.get e.1 e.2) (p.get 8 a.val))) else p) p

/-- Step 3 of R171 for a crane: Tmin_k lies no higher than Tmax_k. -/
def fixLimits (l : List ConfigEntry) (k : Crane) (p : Params) : Params :=
  if p.get 13 k.val < p.get 12 k.val then
    if writes l 13 k.val then p.put 13 k.val (p.get 12 k.val)
    else if writes l 12 k.val then p.put 12 k.val (p.get 13 k.val)
    else p
  else p

/-- B + T_park, the distance a park position must exceed from each plane (step 4 of R171). -/
def Params.parkReach (p : Params) : Int := p.halfLength + p.tPark

/-- Whether a point lies more than a distance from every one of some centres. -/
def clearOf (d : Int) (centres : List Int) (x : Int) : Bool :=
  centres.all (fun c => decide (d < ((x - c).natAbs : Int)))

/-- The nearest point of [0, L] to x that lies more than d from every centre, the lower of two equally
near; none when there is no such point (steps 4 and 5 of R171). -/
def nearestClear (len d : Int) (centres : List Int) (x : Int) : Option Int :=
  let points := (x :: centres.flatMap (fun c => [c - d - 1, c + d + 1])).filter
    (fun y => decide (0 ≤ y) && decide (y ≤ len) && clearOf d centres y)
  points.foldl (fun best y => match best with
    | none => some y
    | some b =>
      if (y - x).natAbs < (b - x).natAbs ∨ ((y - x).natAbs = (b - x).natAbs ∧ y < b) then some y
      else some b) none

/-- Moves a written position clear of some centres, if it lies too near one of them. -/
def fixNear (len : Int) (id inst : Nat) (centres : List Int) (p : Params) : Option Params :=
  if clearOf p.parkReach centres (p.get id inst) then some p
  else (nearestClear len p.parkReach centres (p.get id inst)).map (p.put id inst)

/-- Step 4 of R171 for a station: a written shutter plane is moved clear of the unwritten park positions
of its aisle. -/
def fixPlane (l : List ConfigEntry) (k : Crane) (p : Params) : Option Params :=
  if writes l 10 k.val then
    fixNear (p.get 8 (aisleOf k).val) 10 k.val
      (((cranesOf (aisleOf k)).filter (fun c => !writes l 11 c.val)).map (fun c => p.get 11 c.val)) p
  else some p

/-- Step 5 of R171 for a crane: a written park position is moved clear of both planes of its aisle. -/
def fixPark (l : List ConfigEntry) (k : Crane) (p : Params) : Option Params :=
  if writes l 11 k.val then
    fixNear (p.get 8 (aisleOf k).val) 11 k.val ((cranesOf (aisleOf k)).map (fun c => p.get 10 c.val)) p
  else some p

/-- The smallest distance between a park position and a plane of its aisle. -/
def Params.parkClearance (p : Params) : Int :=
  (allCranes.flatMap (fun k => (cranesOf (aisleOf k)).map (fun c =>
    ((p.parkPos[k] - p.planePos[c]).natAbs : Int)))).foldl min (p.parkPos[0] - p.planePos[0]).natAbs

/-- Step 6 of R171: a written T_park, then a written B, is lowered no further than needed. -/
def fixReach (l : List ConfigEntry) (p : Params) : Params :=
  let excess (p : Params) : Int := max 0 (p.parkReach - (p.parkClearance - 1))
  let p := if writes l 22 0 then { p with tPark := p.tPark - min (excess p) (p.tPark - 10) } else p
  if writes l 26 0 then { p with halfLength := p.halfLength - min (excess p) (p.halfLength - 200) } else p

/-- The gap between the reservations of an aisle's cranes, if both have form CALIBRATED (step 7 of R171). -/
def State.presentGap (s : State) (a : Aisle) : Option Int :=
  match (s.rail (westCrane a)).reservation, (s.rail (eastCrane a)).reservation with
  | .calibrated w, .calibrated e => some (e.west - w.east)
  | _, _ => none

/-- Step 7 of R171: a written G above the present G is no more than the smallest present gap. -/
def fixGap (s : State) (l : List ConfigEntry) (p : Params) : Params :=
  if writes l 27 0 ∧ s.params.gap < p.gap then
    { p with gap := ([(0 : Aisle), 1].filterMap s.presentGap).foldl min p.gap }
  else p

/-- The values after the clamps: the entries in frame order, a later one replacing an earlier one
(R169). -/
def clampAll (l : List ConfigEntry) (p : Params) : Params :=
  l.foldl (fun p e => p.put e.id e.inst (clampParam e.id e.value)) p

/-- Runs an operation that may fail on every crane in order. -/
def tryCranes (f : Crane → Params → Option Params) (p : Params) : Option Params :=
  allCranes.foldl (fun o k => o.bind (f k)) (some p)

/-- The consistency pass (R171); none when it cannot be met. -/
def consistent (s : State) (l : List ConfigEntry) : Option Params :=
  let p := clampAll l s.params
  let p := [(0 : Aisle), 1].foldl (fun p a => fixPositions l a (fixLength l a p)) p
  let p := allCranes.foldl (fun p k => fixLimits l k p) p
  match (tryCranes (fixPlane l) p).bind (tryCranes (fixPark l)) with
  | none => none
  | some p =>
    let p := fixReach l p
    if p.parkReach < p.parkClearance then some (fixGap s l p) else none

/-! ### Block effects (R6, R100, R108) -/

/-- The bin has no place in the lane table. -/
def Bin.offLane (r : Bin) : Bool :=
  match r.place with
  | .stored _ => false
  | _ => true

/-- The lane table rebuild of R6, when the bays, the levels or the default depth have changed. -/
def rebuildLanes (old : Params) (s : State) : State :=
  if old.bays ≠ s.params.bays ∨ old.levels ≠ s.params.levels ∨ old.laneDepth ≠ s.params.laneDepth then
    { s with lanes := ⟨[]⟩, bins := ⟨s.bins.entries.filter (fun e => e.2.offLane)⟩ }
  else s

/-- The fill clamp of R6, when C has been lowered. -/
def clampFills (old : Params) (s : State) : State :=
  if s.params.capacity < old.capacity then
    { s with bins := ⟨s.bins.entries.map (fun e => (e.1, { e.2 with fill := s.clampFill e.2.fill }))⟩ }
  else s

/-- A HOME_SIDE limit taken into [0, L] (R108). -/
def Reservation.within (len : Int) (r : Reservation) : Reservation :=
  match r with
  | .homeSide x => .homeSide (max 0 (min x len))
  | r => r

/-- A HOME_SIDE limit under a new rail length: one at the old rail end moves with it, any other is taken into [0, L]
(R108). -/
def Reservation.withLength (oldLen newLen : Int) (r : Reservation) : Reservation :=
  if r = .homeSide oldLen then .homeSide newLen else r.within newLen

/-- Changes the reservations of every aisle whose rail length the frame writes, whether or not the value differs from the
present one. -/
def changeLimits (l : List ConfigEntry) (f : Crane → Reservation → Reservation) (s : State) : State :=
  forCranes allCranes (fun k s =>
    if writes l 8 (aisleOf k).val then s.modRail k (fun r => { r with reservation := f k r.reservation }) else s) s

/-- The effect of a written rail length on the HOME_SIDE reservations of its aisle (R108). -/
def moveLimits (l : List ConfigEntry) (old : Params) (s : State) : State :=
  changeLimits l (fun k => Reservation.withLength old.railLength[aisleOf k] s.params.railLength[aisleOf k]) s

/-- Takes the HOME_SIDE limits of every aisle whose rail length is written into [0, L] (R108). -/
def boundLimits (l : List ConfigEntry) (s : State) : State :=
  changeLimits l (fun k => Reservation.within s.params.railLength[aisleOf k]) s

/-- Whether a crane's P, edge mode or polarity has changed (R100). -/
def reconfigured (old new : Params) (k : Crane) : Bool :=
  decide (old.pitch[k] ≠ new.pitch[k]) || decide (old.edgeMode[k] ≠ new.edgeMode[k])
    || decide (old.inverted[k] ≠ new.inverted[k])

/-- A CALIBRATED channel whose P, edge mode or polarity has changed becomes FAULTED (R100). -/
def faultReconfigured (old : Params) (s : State) : State :=
  forCranes allCranes (fun k s =>
    if s.calibrated k && reconfigured old s.params k then channelFaulted k .reconfigured s else s) s

/-- The block effects of new values (R169). Every HOME_SIDE limit of an aisle whose L is written ends in [0, L], one that a
reconfigured channel has just given too (R108). That the limits move with the rail end before such a channel gives its own is
the model's choice (log 49). -/
def takeParams (l : List ConfigEntry) (new : Params) (s : State) : State :=
  let old := s.params
  boundLimits l (faultReconfigured old (moveLimits l old (clampFills old (rebuildLanes old { s with params := new }))))

/-! ### CONFIGURE (R169) -/

/-- Whether the value that a frame's last entry for a parameter wrote differs from the value taken. -/
def valueClamped (p : Params) : List ConfigEntry → Bool
  | [] => false
  | e :: rest =>
    (!writes rest e.id e.inst && decide (p.get e.id e.inst ≠ e.value)) || valueClamped p rest

/-- CONFIGURE as carried out by all blocks (R169). -/
def serveConfigure (body : List Byte) (s : State) : Reply :=
  let l := configEntries body
  if l.any (fun e => decide (paramInstances e.id ≤ e.inst)) = true then refuse .outOfRange s
  else if s.wing = .opened ∧ l.any (fun e => isGeometry e.id) = true then refuse .wingState s
  else match consistent s l with
    | none => refuse .outOfRange s
    | some p =>
      let s1 := settle (takeParams l p s)
      reply (okOrClamped (valueClamped p l))
        (put8 l.length ++ l.flatMap (fun e => put16 e.id ++ put8 e.inst ++ putInt (p.get e.id e.inst))) s1

/-- CONFIGURE (R169). -/
def execConfigure (s : State) : Host.Outcome State Fault Refusal :=
  .next (take .c .configure anyBody serveConfigure s)

end Sys2Proof.Machine
end

