-- ==== Sys2Proof/Machine/Frames.lean ====
section
/-!
DEFINITION. The end of a transaction and the frame it brings (R153 to R156): TRANSACTION_END.
-/
namespace Sys2Proof.Machine

/-- A directory request is carried out when its frame is taken: its row takes it in the same step
(R2, R154, log 42). A request of another block stays in flight. -/
def directoryTakes (kind : Kind) (s : State) : State :=
  match kind with
  | .loadLane => take .c .loadLane anyBody serveLoadLane s
  | .loadStation => take .c .loadStation anyBody serveLoadStation s
  | .openWing => take .c .openWing anyBody serveOpenWing s
  | .registerBin => take .c .registerBin anyBody serveRegisterBin s
  | .removeBin => take .c .removeBin anyBody serveRemoveBin s
  | .queryBin => take .c .queryBin anyBody serveQueryBin s
  | .queryLane => take .c .queryLane anyBody serveQueryLane s
  | _ => s

/-- The checks of R155 on a frame taken from a HOLDING slot, and what follows (R154, R156). -/
def takeFrame (p : Port) (bytes : List Byte) (s : State) : State :=
  let kindByte := bytes.getD 0 0
  let tag := bytes.getD 1 0
  let len := byteAt bytes 2
  let body := (bytes.drop 3).take len
  let hold (st : Status) (s : State) : State :=
    s.modPort p (fun b => { b with slot := .holding ⟨st, kindByte, tag, []⟩ })
  if len > 60 then hold .badFrame s
  else match Kind.ofCode kindByte.toNat with
    | none => hold .badFrame s
    | some kind =>
      if kind.permitted p = false then hold .notPermitted s
      else if kind.lengthOk body = false then hold .badFrame s
      else if kind = .null then hold .ok (validFrame p kind s)
      else directoryTakes kind
        ((validFrame p kind s).modPort p (fun b => { b with slot := .inFlight ⟨kind, tag, body⟩ }))

/-- TRANSACTION_END: a void transaction takes no frame; a frame received by a transaction that began
IN_FLIGHT is ignored; any other is checked (R153, R154, R155). -/
def execTransactionEnd (p : Port) (bytes : List Byte) (s : State) : Host.Outcome State Fault Refusal :=
  .next (if s.inReset then s
    else match (s.port p).transaction with
      | none => s
      | some tr =>
        let s := s.modPort p (fun b => { b with transaction := none })
        if bytes.length = 64 ∧ tr.wasHolding = true then takeFrame p bytes s else s)

end Sys2Proof.Machine
end

