-- ==== Sys2Proof/Machine/Placement.lean ====
section
/-!
DEFINITION. The placement engine's return search (Chapter 3): PLACE, SEARCH_VISIT, PASS_COMPLETION, QUERY_PLACE.
-/
namespace Sys2Proof.Machine

/-- The first check of R52 that a PLACE fails. -/
def State.placeRefusal (s : State) (st units key : Nat) : Option Status :=
  if s.wing ≠ .opened then some .wingState
  else match craneOf st with
    | none => some .outOfRange
    | some k =>
      if units = 0 ∨ s.params.capacity < units ∨ 7 < key then some .outOfRange
      else if (s.station k).accepts key = false then some .keyDenied
      else if (s.station k).state = .closed then some .stationClosed
      else if (s.station k).state = .shuttered then some .aisleClosed
      else if s.search.state = .running then some .busy
      else none

/-- The search context at the start of a search (R52). -/
def State.startSearch (s : State) (q : PlaceRequest) : Search :=
  { state := .running, request := some q, pass := 1, cursor := 0, best := none,
    weights := s.params.weights, result := none }

/-- The request's fields as a response carries them (R52, R57). -/
def PlaceRequest.fields (q : PlaceRequest) : List Byte :=
  put8 q.station.val ++ put8 q.units ++ put8 q.key ++ putBits q.item

/-- PLACE as carried out by the placement engine (R52). -/
def servePlace (body : List Byte) (s : State) : Reply :=
  match s.placeRefusal (byteAt body 0) (byteAt body 1) (byteAt body 2), craneOf (byteAt body 0) with
  | none, some k =>
    let q : PlaceRequest := ⟨k, byteAt body 1, byteAt body 2, longAt body 3⟩
    reply .accepted q.fields { s with search := s.startSearch q }
  | some e, _ => refuse e s
  | none, none => refuse .outOfRange s

/-- PLACE (R52). -/
def execPlace (s : State) : Host.Outcome State Fault Refusal :=
  .next (take .c .place anyBody servePlace s)

/-- Whether a bin's place makes it a candidate for station k (R53). -/
def State.placeSuits (s : State) (k : Crane) (b : Nat) (r : Bin) : Bool :=
  match r.place with
  | .stored i => decide (s.params.laneAisle i = aisleOf k)
  | .atStation j _ => decide (j = k)
  | .onCrane _ => s.carriedToStation k b

/-- A bin's chain holds a live AUDIT claim (R53). -/
def State.hasAudit (s : State) (r : Bin) : Bool :=
  r.chain.any (fun id => match s.claim? id with
    | some c => decide (c.kind = .audit) && c.state.live
    | none => false)

/-- The candidate conditions of R53. -/
def State.candidate (s : State) (q : PlaceRequest) (b : Nat) (r : Bin) : Bool :=
  s.placeSuits q.station b r && decide (r.key = q.key) && decide (q.units ≤ s.freeUnits r) && !s.hasAudit r

/-- The placement cost of a candidate with the pass weights (R47). -/
def State.placementCost (s : State) (k : Crane) (b : Nat) (r : Bin) : Nat :=
  match r.place with
  | .stored i =>
    cost s.search.weights (s.params.lanePos i) s.params.stationPos[k] (s.params.laneLevel i)
      ((s.lane i).depthOf b - 1)
  | _ => 0

/-- The placement cost of a bin, if it is a candidate as its record stands (R47, R53). -/
def State.candidateCost (s : State) (q : PlaceRequest) (b : Nat) : Option Nat :=
  match s.bin? b with
  | some r => if s.candidate q b r then some (s.placementCost q.station b r) else none
  | none => none

/-- The best after a visit: a candidate replaces it only at a strictly lower cost (R53). -/
def betterBest (best : Option (Nat × Nat)) (b : Nat) (c : Option Nat) : Option (Nat × Nat) :=
  match c, best with
  | none, _ => best
  | some c, none => some (b, c)
  | some c, some (b', c') => if c < c' then some (b, c) else some (b', c')

/-- The visit of the bin at the cursor (R53). -/
def visitBin (q : PlaceRequest) (s : State) : State :=
  { s with search := { s.search with
      best := betterBest s.search.best s.search.cursor (s.candidateCost q s.search.cursor),
      cursor := s.search.cursor + 1 } }

/-- SEARCH_VISIT: one visit of the running pass (R53). -/
def execSearchVisit (s : State) : Host.Outcome State Fault Refusal :=
  .next (match s.search.request with
    | some q =>
      if s.inReset = false ∧ s.search.state = .running ∧ s.search.cursor ≤ 8191 then visitBin q s else s
    | none => s)

/-- A search ends: the result is held and PLACE_DONE is latched (R55, R56). -/
def endSearch (r : PlaceResult) (s : State) : State :=
  latchC .placeDone { s with search := { s.search with state := .complete, result := some r } }

/-- A search ends without a place; the winner is given for CONTENDED and TABLE_FULL (R56). -/
def noPlace (reason : NoPlaceReason) (winner : Option (Nat × Nat)) : State → State :=
  endSearch ⟨some reason, winner.map Prod.fst, none, winner.map Prod.snd, none⟩

/-- The search restarts with the next pass (R54). -/
def restartSearch (s : State) : State :=
  { s with search := { s.search with
      pass := s.search.pass + 1, weights := s.params.weights, cursor := 0, best := none } }

/-- The oldest live RETURN claim of a bin for station k with fewer than 8 items (R55). -/
def State.roomyReturn (s : State) (k : Crane) (r : Bin) : Option Nat :=
  r.chain.find? (fun id => match s.claim? id with
    | some c => decide (c.kind = .ret) && c.state.live && decide (c.station = k) && decide (c.items.length < 8)
    | none => false)

/-- A search succeeds: the item joins a claim or a new one, and the units are reserved; with no entry
for a new claim it ends TABLE_FULL with the recorded cost (R55, R56). -/
def placeWinner (q : PlaceRequest) (winner : Nat × Nat) (present : Nat) (s : State) : State :=
  let b := winner.1
  match (s.bin? b).bind (s.roomyReturn q.station) with
  | some id =>
    endSearch ⟨none, some b, some id, some present, some true⟩
      (touchClaim id (fun c => { c with items := c.items ++ [⟨q.item, q.units, .pending⟩] })
        (s.modBin b (fun r => { r with reserved := r.reserved + q.units })))
  | none =>
    match s.claimEntry with
    | some id =>
      endSearch ⟨none, some b, some id, some present, some false⟩
        (settle (createClaim id .ret false b q.station [(q.item, q.units)] s))
    | none => noPlace .tableFull (some winner) s

/-- The completion of a pass (R54). -/
def completePass (q : PlaceRequest) (s : State) : State :=
  if (s.station q.station).state ≠ .opened then noPlace .closed none s
  else match s.search.best with
    | none => noPlace .full none s
    | some (b, recorded) =>
      let passes (c : Nat) : Bool := decide (c ≤ recorded)
      match (s.candidateCost q b).filter passes with
      | some present => placeWinner q (b, recorded) present s
      | none =>
        if s.search.pass < 3 then restartSearch s
        else noPlace .contended (some (b, recorded)) s

/-- PASS_COMPLETION: the step that ends a pass whose last bin has been visited (R54). -/
def execPassCompletion (s : State) : Host.Outcome State Fault Refusal :=
  .next (match s.search.request with
    | some q =>
      if s.inReset = false ∧ s.search.state = .running ∧ s.search.cursor = 8192 then completePass q s else s
    | none => s)

/-- The result fields of a QUERY PLACE response: outcome PLACED 0 or NO_PLACE 1, reason, bin, claim,
cost, marker (appended 0, new 1) (R57). -/
def PlaceResult.fields (r : PlaceResult) : List Byte :=
  put8 (if r.reason.isNone then 0 else 1) ++ put8? (r.reason.map NoPlaceReason.code) ++ put16? r.bin
    ++ put8? r.claim ++ put16? r.cost ++ put8? (r.appended.map (fun a => if a then 0 else 1))

/-- The request fields of a QUERY PLACE response; in IDLE the units and the item number have no absent
form and are free values (R57, log 12). -/
def requestFields : Option PlaceRequest → List Byte
  | some q => q.fields
  | none => put8? none ++ [Config.absentUnits] ++ put8? none ++ putBits Config.absentItemNumber

/-- QUERY PLACE as carried out by the placement engine (R57). That the pass number takes one byte is the model's
choice (log 13). -/
def serveQueryPlace (_ : List Byte) (s : State) : Reply :=
  reply .ok (put8 s.search.state.code ++ requestFields s.search.request ++ (match s.search.state with
    | .idle => []
    | .running => put8 s.search.pass
    | .complete => (s.search.result.elim [] PlaceResult.fields) ++ put8 s.search.pass)) s

/-- QUERY_PLACE (R57). -/
def execQueryPlace (s : State) : Host.Outcome State Fault Refusal :=
  .next (take .c .queryPlace anyBody serveQueryPlace s)

end Sys2Proof.Machine
end

