-- ==== Sys2Proof/Machine/Restart.lean ====
section
/-!
DEFINITION. WING_RESTART (R160, R161) and its parts in every block.
-/
namespace Sys2Proof.Machine

/-- The first check of R160 that a WING RESTART fails. -/
def State.wingRestartRefusal (s : State) : Option Status :=
  if s.wing ≠ .opened then some .wingState
  else if s.tasks.entries.any (fun e => decide (e.2.state = .active) || decide (e.2.state = .suspended)) = true then
    some .busy
  else if s.bins.entries.any (fun e => match e.2.place with
      | .onCrane _ => true
      | _ => false) = true then some .busy
  else none

/-- Every bin's reserved units become 0 and its chain empty (R45). -/
def clearBins (s : State) : State :=
  { s with bins := ⟨s.bins.entries.map (fun e => (e.1, { e.2 with reserved := 0, chain := [] }))⟩ }

/-- Every lane's incoming is 0 (R20). -/
def clearLanes (s : State) : State :=
  forIds s.lanes.keys (fun i s => s.modLane i (fun l => { l with incoming := 0 })) s

/-- What the restart does to the directory (R161). -/
def clearDirectory (s : State) : State := clearLanes (clearBins s)

/-- The claim table and the backlog are emptied (R45). -/
def clearClaims (s : State) : State := { s with claims := ⟨[]⟩, backlog := [] }

/-- A crane task record after the clearing of R85, steps 1 to 3. -/
def CraneTasks.cleared (c : CraneTasks) : CraneTasks :=
  { c with queue := [], standingYield := none, undelivered := .none, roomRefusal := false,
           lastCompleted := none }

/-- The queued tasks, the yields, markers and flags are cleared (R85). -/
def clearTasks (s : State) : State :=
  { s with tasks := ⟨[]⟩, cranes := s.cranes.map CraneTasks.cleared }

/-- Every latch flag and source flag of every port is cleared; the masks are kept (R163). -/
def clearNotices (s : State) : State :=
  { s with
    portC := { s.portC with latch := 0 },
    portK := s.portK.map (fun p => { p with latch := 0 }),
    sources := ⟨0, 0, 0, 0⟩ }

/-- Everything that a WING RESTART clears (R161). -/
def clearWing (s : State) : State :=
  clearNotices (clearTasks (clearClaims (clearDirectory
    { s with search := Search.reset, sweep := Sweep.reset })))

/-- The admissions of R85: a HOME for every UNHOMED crane, a PARK for every crane whose aisle is not
NORMAL, then the STOW tasks of R20. That HOMEs and PARKs are admitted from crane 0 to crane 3, which fixes their task IDs,
is the model's choice (log 57). -/
def admitAfterRestart (s : State) : State :=
  let s := forCranes allCranes (fun k s => if (s.rail k).state = .unhomed then admitHome k s else s) s
  let s := forCranes allCranes (fun k s => if s.normal (aisleOf k) then s else admitPark k s) s
  stowStations s

/-- The number of STOW tasks in the task table. -/
def State.stowCount (s : State) : Nat :=
  (s.tasks.entries.filter (fun e => decide (e.2.kind = .stow))).length

/-- WING RESTART as carried out by all blocks (R161). -/
def serveWingRestart (_ : List Byte) (s : State) : Reply :=
  match s.wingRestartRefusal with
  | some e => refuse e s
  | none =>
    let s1 := settle (admitAfterRestart (clearWing s))
    reply .ok (put8 s.claims.entries.length ++ put8 s.tasks.entries.length ++ put8 s1.stowCount
      ++ put16 s1.presentCount) s1

/-- WING_RESTART (R160). -/
def execWingRestart (s : State) : Host.Outcome State Fault Refusal :=
  .next (take .c .wingRestart anyBody serveWingRestart s)

end Sys2Proof.Machine
end

