-- ==== Sys2Proof/Machine/Dispatch.lean ====
section
/-!
DEFINITION. One arm per command: `exec` calls the meaning of each row of spec/opcode_table.json.
-/
namespace Sys2Proof.Machine

/-- The effect of a command on everything but the queue. -/
def exec (i : Instr) (s : State) : Host.Outcome State Fault Refusal :=
  match i with
  | .resetAssert => Sys2Proof.Machine.execResetAssert s
  | .resetRelease pins => Sys2Proof.Machine.execResetRelease pins s
  | .transactionStart p => Sys2Proof.Machine.execTransactionStart p s
  | .transactionEnd p bytes => Sys2Proof.Machine.execTransactionEnd p bytes s
  | .readNotices p => Sys2Proof.Machine.execReadNotices p s
  | .setMask p => Sys2Proof.Machine.execSetMask p s
  | .configure => Sys2Proof.Machine.execConfigure s
  | .loadLane => Sys2Proof.Machine.execLoadLane s
  | .loadStation => Sys2Proof.Machine.execLoadStation s
  | .openWing => Sys2Proof.Machine.execOpenWing s
  | .registerBin => Sys2Proof.Machine.execRegisterBin s
  | .removeBin => Sys2Proof.Machine.execRemoveBin s
  | .queryBin => Sys2Proof.Machine.execQueryBin s
  | .queryLane => Sys2Proof.Machine.execQueryLane s
  | .station => Sys2Proof.Machine.execStation s
  | .claim => Sys2Proof.Machine.execClaim s
  | .pick => Sys2Proof.Machine.execPick s
  | .count => Sys2Proof.Machine.execCount s
  | .release => Sys2Proof.Machine.execRelease s
  | .cancel => Sys2Proof.Machine.execCancel s
  | .queryClaim => Sys2Proof.Machine.execQueryClaim s
  | .queryClaimItems => Sys2Proof.Machine.execQueryClaimItems s
  | .changedClaims => Sys2Proof.Machine.execChangedClaims s
  | .place => Sys2Proof.Machine.execPlace s
  | .searchVisit => Sys2Proof.Machine.execSearchVisit s
  | .passCompletion => Sys2Proof.Machine.execPassCompletion s
  | .queryPlace => Sys2Proof.Machine.execQueryPlace s
  | .sweep => Sys2Proof.Machine.execSweep s
  | .sweepVisit => Sys2Proof.Machine.execSweepVisit s
  | .querySweep => Sys2Proof.Machine.execQuerySweep s
  | .cancelSweep => Sys2Proof.Machine.execCancelSweep s
  | .setLaneKeys => Sys2Proof.Machine.execSetLaneKeys s
  | .queryCraneTask => Sys2Proof.Machine.execQueryCraneTask s
  | .queryCraneChannel => Sys2Proof.Machine.execQueryCraneChannel s
  | .queryCraneRail => Sys2Proof.Machine.execQueryCraneRail s
  | .queryCraneFire => Sys2Proof.Machine.execQueryCraneFire s
  | .resumeAisle => Sys2Proof.Machine.execResumeAisle s
  | .wingRestart => Sys2Proof.Machine.execWingRestart s
  | .nextStep k => Sys2Proof.Machine.execNextStep k s
  | .picked k => Sys2Proof.Machine.execPicked k s
  | .setDown k => Sys2Proof.Machine.execSetDown k s
  | .grant k => Sys2Proof.Machine.execGrant k s
  | .arrived k => Sys2Proof.Machine.execArrived k s
  | .driveFault k => Sys2Proof.Machine.execDriveFault k s
  | .restart k => Sys2Proof.Machine.execRestart k s
  | .queryRailChannel k => Sys2Proof.Machine.execQueryRailChannel k s
  | .queryRailRail k => Sys2Proof.Machine.execQueryRailRail k s
  | .encoderTransition k a b => Sys2Proof.Machine.execEncoderTransition k a b s
  | .referenceEdge k level => Sys2Proof.Machine.execReferenceEdge k level s
  | .forkEdge k level => Sys2Proof.Machine.execForkEdge k level s
  | .windowEnd k => Sys2Proof.Machine.execWindowEnd k s
  | .linkExpiry k => Sys2Proof.Machine.execLinkExpiry k s
  | .dwellExpiry id => Sys2Proof.Machine.execDwellExpiry id s
  | .fireLineSettled line active => Sys2Proof.Machine.execFireLineSettled line active s
  | .shutterInputSettled k input level => Sys2Proof.Machine.execShutterInputSettled k input level s
  | .shutterHoldExpiry a => Sys2Proof.Machine.execShutterHoldExpiry a s
  | .shutterConfirmExpiry a => Sys2Proof.Machine.execShutterConfirmExpiry a s

end Sys2Proof.Machine
end

