-- ==== Sys2Proof/Machine/Time.lean ====
section
/-!
DEFINITION. The wing clock (R173): one millisecond of wing time, the timers it counts down and the expiry commands it makes wait.
-/
namespace Sys2Proof.Machine

/-- A countdown by one millisecond; a timer at 0 stays at 0. -/
def countDown (running : Bool) (left : Nat) : Nat := if running then left - 1 else left

/-- Whether a countdown reaches 0 in this millisecond. -/
def runsOut (running : Bool) (left : Nat) : Bool := running && left == 1

/-- Whether a crane's link timer counts: it is armed and no request of the crane's port is in flight
(R118). -/
def State.linkCounts (s : State) (k : Crane) : Bool :=
  (s.rail k).linkArmed && match (s.port (.k k)).slot with
    | .inFlight _ => false
    | .holding _ => true

/-- Whether a claim's dwell counts: it is PRESENTED (R41). -/
def Claim.counts (c : Claim) : Bool := decide (c.state = .presented)

/-- The expiry commands that fall due in the coming millisecond. That a claim held with no dwell left, because an alarm edge
was taken before its due expiry, never expires after it is PRESENTED again is the model's choice (log 52). -/
def State.expiring (s : State) : List Instr :=
  (allCranes.filter (fun k => runsOut true (s.channel k).windowLeft)).map Instr.windowEnd
    ++ (allCranes.filter (fun k => runsOut (s.linkCounts k) (s.rail k).linkLeft)).map Instr.linkExpiry
    ++ ((s.claims.entries.filter (fun e => runsOut e.2.counts e.2.dwell)).map Prod.fst).map Instr.dwellExpiry
    ++ ([(0 : Aisle), 1].filter (fun a => runsOut (s.fire a).hold.running (s.fire a).hold.left)).map
        Instr.shutterHoldExpiry
    ++ ([(0 : Aisle), 1].filter (fun a => runsOut (s.fire a).confirm.running (s.fire a).confirm.left)).map
        Instr.shutterConfirmExpiry

/-- A timer after one millisecond. -/
def Timer.tick (t : Timer) : Timer := { t with left := countDown t.running t.left }

/-- A claim after one millisecond (R41). -/
def Claim.tick (c : Claim) : Claim := { c with dwell := countDown c.counts c.dwell }

/-- Every timer counts down by one millisecond (R41, R98, R118, R133, R134). -/
def countTimers (s : State) : State :=
  { s with
    channels := s.channels.map (fun c => { c with windowLeft := countDown true c.windowLeft }),
    rails := Vector.ofFn (fun k =>
      { s.rail k with linkLeft := countDown (s.linkCounts k) (s.rail k).linkLeft }),
    claims := ⟨s.claims.entries.map (fun e => (e.1, e.2.tick))⟩,
    fires := s.fires.map (fun f => { f with hold := f.hold.tick, confirm := f.confirm.tick }) }

/-- The events of one millisecond in the order that the manual leaves open (log 11). -/
def arrange (time : Nat) : Nat → List Instr → List Instr
  | 0, l => l
  | n + 1, l =>
    if l.length ≤ 1 then l
    else
      let i := Config.tieBreak time l.length % l.length
      l[i]?.toList ++ arrange time n (l.eraseIdx i)

/-- One millisecond of wing time, an unsigned 64-bit count; none passes in reset (R173, log 2). -/
def tick (s : State) : State :=
  if s.inReset then s
  else
    { countTimers s with
      wingTime := (s.wingTime + 1) % 2 ^ 64,
      pending := s.pending ++ arrange s.wingTime s.expiring.length s.expiring }

end Sys2Proof.Machine
end

