-- ==== Sys2Proof/Safety.lean ====
section
/-!
DEFINITION. What counts as a safe state: the laws that the manual says the device keeps, and the model's own invariants, as
predicates that statements use.
-/
namespace Sys2Proof.Machine

/-- The model's canonical form: every table lists rising numbers, and no lane equal to the reset lane is
listed (log 4). -/
def State.tablesWf (s : State) : Prop :=
  s.lanes.wf = true ∧ s.bins.wf = true ∧ s.claims.wf = true ∧ s.tasks.wf = true
    ∧ ∀ e ∈ s.lanes.entries, e.2 ≠ s.params.resetLane

/-- No preemption test is owed between commands (log 3). -/
def State.settled (s : State) : Prop := ∀ k : Crane, s.due[k] = false

/-- What the hold-open law of R131 asks of a station's line in a fire state. -/
def FireState.lineOk (f : FireState) (holdOpen : Bool) : Bool :=
  match f with
  | .normal => holdOpen
  | .reopening => holdOpen
  | .closing => !holdOpen
  | .sealed => !holdOpen
  | .parking => true

/-- The hold-open law over states (R131): asserted in NORMAL and REOPENING, released in CLOSING and SEALED. -/
def State.holdOpenLaw (s : State) : Prop :=
  ∀ k : Crane, (s.fire (aisleOf k)).state.lineOk (s.shutter k).holdOpen = true

/-- The hold-open law over one step (R131): a line is released only once its plane is clear or the shutter hold timer has expired
in PARKING, which leaves PARKING; a released line is asserted again only in NORMAL or REOPENING, or by the end of a reset. -/
def State.keepsHoldOpenLaw (s t : State) : Prop :=
  ∀ k : Crane,
    ((s.shutter k).holdOpen = true → (t.shutter k).holdOpen = false →
      (t.shutter k).planeClear = true
        ∨ ((s.fire (aisleOf k)).state = .parking ∧ (s.fire (aisleOf k)).hold = ⟨true, 0⟩
          ∧ (t.fire (aisleOf k)).state ≠ .parking))
    ∧ ((s.shutter k).holdOpen = false → (t.shutter k).holdOpen = true →
      (t.fire (aisleOf k)).state = .normal ∨ (t.fire (aisleOf k)).state = .reopening
        ∨ ∃ pins rest, s.pending = .resetRelease pins :: rest)

/-- The crane is OFFLINE, STOPPED or LOST, so that its state asserts its STOP line (R107). -/
def CraneState.halted (c : CraneState) : Bool :=
  match c with
  | .offline => true
  | .stopped => true
  | .lost => true
  | _ => false

/-- The overrun law (R117): a crane whose window envelope lies outside its reservation is OFFLINE, STOPPED
or LOST. -/
def State.overrunLaw (s : State) : Prop :=
  ∀ k : Crane, s.overrun k = true → (s.rail k).state.halted = true

/-- The form that R108 gives a crane's reservation, and R138's statement that a PARKED crane is
CALIBRATED. -/
def State.formLaw (s : State) : Prop :=
  ∀ k : Crane, (match (s.rail k).reservation with
      | .frozen _ => decide ((s.rail k).state = .lost)
      | .calibrated _ => s.calibrated k && decide ((s.rail k).state ≠ .offline)
          && decide ((s.rail k).state ≠ .lost)
      | .homeSide _ => decide ((s.rail k).state = .offline)
          || (!s.calibrated k && decide ((s.rail k).state ≠ .parked) && decide ((s.rail k).state ≠ .lost))) = true

/-- The result buffer holds at most 32 entries, and fewer while the sweep runs (R142, R145). -/
def State.sweepLaw (s : State) : Prop :=
  s.sweep.buffer.length ≤ 32 ∧ (s.sweep.state = .running → s.sweep.buffer.length < 32)

/-! ### The laws of the task unit (Chapter 4) -/

/-- The task is ACTIVE or SUSPENDED, so that it holds what its activation took. -/
def Task.atWork (t : Task) : Bool := decide (t.state = .active) || decide (t.state = .suspended)

/-- The task's step puts down a bin that lies on the fork: RELOC_SET or SET (R63). -/
def Task.carries (t : Task) : Bool := decide (t.step = .relocSet) || decide (t.step = .set)

/-- The classes of the kinds of task (R60, R62): PARK 0, HOME 1, the others 2 or above. -/
def Task.classOk (t : Task) : Bool :=
  match t.kind with
  | .park => t.cls == 0
  | .home => t.cls == 1
  | _ => decide (2 ≤ t.cls)

/-- The classes of a list of tasks, in its order. -/
def State.classes (s : State) (l : List Nat) : List Nat := l.filterMap (fun id => (s.task? id).map Task.cls)

/-- The task `id` is in the table, runs on crane k and is in a state that `p` accepts. -/
def State.holds (s : State) (k : Crane) (p : TaskState → Prop) (id : Nat) : Prop :=
  ∃ t ∈ s.task? id, t.crane = k ∧ p t.state

/-- The stack law of a crane (R75) with the collections of R61: at most 4 suspended tasks, whose classes rise from the active
task's on down the stack; every task of a collection is in the state that R61 gives it. -/
def State.craneLaw (s : State) (k : Crane) : Prop :=
  (∀ id ∈ (s.crane k).active, s.holds k (· = .active) id)
    ∧ (s.crane k).stack.length ≤ 4 ∧ (∀ id ∈ (s.crane k).stack, s.holds k (· = .suspended) id)
    ∧ (s.classes ((s.crane k).active.toList ++ (s.crane k).stack)).Pairwise (· < ·)
    ∧ (s.crane k).queue.Nodup ∧ ∀ id ∈ (s.crane k).queue, s.holds k (fun st => st = .queued ∨ st = .blocked) id

/-- The stack law over states (R60 to R62, R75): the law of each crane; every task of the table stands in the collection that
its state names; the classes are those of R60 and R25. -/
def State.stackLaw (s : State) : Prop :=
  s.tasks.wf = true ∧ (∀ k : Crane, s.craneLaw k) ∧ (∀ e ∈ s.claims.entries, 2 ≤ e.2.cls)
    ∧ ∀ e ∈ s.tasks.entries, e.2.classOk = true
        ∧ (e.2.state = .active → (s.crane e.2.crane).active = some e.1)
        ∧ (e.2.state = .suspended → e.1 ∈ (s.crane e.2.crane).stack)
        ∧ ((e.2.state = .queued ∨ e.2.state = .blocked) → e.1 ∈ (s.crane e.2.crane).queue)

/-- The aisle law of R64 over one step: no task other than a PARK becomes ACTIVE on a crane whose aisle is not NORMAL. -/
def State.keepsAisleLaw (s t : State) : Prop :=
  ∀ id, ∀ u ∈ t.task? id, u.state = .active → u.kind ≠ .park → (t.fire (aisleOf u.crane)).state ≠ .normal →
    ∃ v ∈ s.task? id, v.state = .active

/-- The task has given up its slot in the planned lane under a redirection (R78). -/
def Task.slotGivenUp (t : Task) : Bool := t.redirect.any (fun r => !r.kept)

/-- The incoming slots that a task holds in a lane (R5, R72): one for each dig plan entry not yet finished, its source hold in
its source lane, and one in the destination lane of a STOW or RELOCATE. -/
def Task.slotsIn (t : Task) (i : Nat) : Nat :=
  if t.atWork = false then 0
  else match t.kind with
    | .fetch =>
      (if t.slotGivenUp = true then t.unfinished.tail else t.unfinished).countP (fun e => e.2 == i)
        + (if t.sourceLane = some i then t.hold else 0)
    | .stow | .relocate => if t.slotGivenUp = false ∧ t.destLane = some i then 1 else 0
    | .park | .home => 0

/-- The steps and fields that the kinds of task go through (R60, R63, R65, R66, R72, R78, R83). -/
def Task.shaped (t : Task) : Bool :=
  (t.atWork || (t.redirect.isNone && (decide (t.step = .pick) || decide (t.step = .travel))))
    && match t.kind with
       | .fetch =>
         decide (t.digLeft ≤ t.dig.length) && t.destLane.isNone && (t.redirect.isNone || decide (t.step = .relocSet))
           && match t.step with
              | .relocPick | .relocSet => decide (1 ≤ t.digLeft)
              | .pick => t.digLeft == 0
              | .set => t.digLeft == 0 && t.hold == 0
              | .travel => false
       | .stow => t.hold == 0 && (decide (t.step = .pick) && t.redirect.isNone || decide (t.step = .set))
       | .relocate => t.hold == 0 && decide (t.step = .relocSet)
       | .park | .home => t.destLane.isNone && t.redirect.isNone && decide (t.step = .travel)

/-- The lane-capacity law of R5 with what keeps it: in every lane occupants + incoming ≤ depth, and incoming is the sum of the
slots that tasks hold there; while a preemption is undelivered the new active task has picked nothing (R77); in LOADING only PARK
and HOME tasks are held (R64). -/
def State.laneLaw (s : State) : Prop :=
  (∀ i, (s.lane i).contents.length + (s.lane i).incoming ≤ (s.lane i).depth
      ∧ (s.lane i).incoming = (s.tasks.entries.map (fun e => e.2.slotsIn i)).sum)
    ∧ (∀ e ∈ s.tasks.entries, e.2.shaped = true ∧ (s.wing = .loading → e.2.kind = .park ∨ e.2.kind = .home))
    ∧ ∀ k : Crane, (s.crane k).undelivered = .push → ∀ t ∈ (s.crane k).active.bind s.task?,
        t.step = .relocPick ∨ t.step = .pick

/-! ### The laws of the directory and of the claim unit (Chapters 1 and 2) -/

/-- The single-place law for stored bins, over states (R8): a lane lists exactly the bins that are STORED in it, each once, and a bin that a
station position lists is in that place; so no bin is listed in two places. -/
def State.placeLaw (s : State) : Prop :=
  (∀ i, (s.lane i).contents.Nodup ∧ ∀ b, b ∈ (s.lane i).contents ↔ ∃ r ∈ s.bin? b, r.place = .stored i)
    ∧ ∀ (k : Crane) (p : Pos), ∀ b ∈ (s.station k).bins[p], ∃ r ∈ s.bin? b, r.place = .atStation k p

/-- The account of a bin (R37): fill + reserved ≤ C, the reserved units are those of the PENDING items of the RETURN claims in
its chain, and its chain lists live claims on it, each once (R34). -/
def State.binLaw (s : State) (b : Nat) (r : Bin) : Prop :=
  r.fill + r.reserved ≤ s.params.capacity
    ∧ r.reserved = (r.chain.map (fun id => (s.claim? id).elim 0 Claim.pendingUnits)).sum
    ∧ r.chain.Nodup ∧ ∀ id ∈ r.chain, ∃ c ∈ s.claim? id, c.bin = b ∧ c.state.live = true

/-- The capacity law and the reserved-units law over states (R37), with the chains of R29 and R34: every live claim is in its
bin's chain, and in LOADING there is none. -/
def State.unitsLaw (s : State) : Prop :=
  (∀ e ∈ s.bins.entries, s.binLaw e.1 e.2)
    ∧ ∀ e ∈ s.claims.entries, e.2.state.live = true →
        s.wing = .opened ∧ ∃ r ∈ s.bin? e.2.bin, e.1 ∈ r.chain

/-- The claim has been presented and has not ended: PRESENTED or HELD. -/
def Claim.shown (c : Claim) : Bool := decide (c.state = .presented) || decide (c.state = .held)

/-- The station law over states (R32): a PRESENTED or HELD claim is the head of the chain of its bin, which stands at the
claim's station. -/
def State.stationLaw (s : State) : Prop :=
  ∀ e ∈ s.claims.entries, e.2.shown = true →
    ∃ r ∈ s.bin? e.2.bin, r.chain.head? = some e.1 ∧ ∃ p, r.place = .atStation e.2.station p

/-- The claim `c` that the task `id` of crane k is bringing the bin `b` for: it waits at the head of that bin's chain, for the
crane's station, with the task's ID (R30, R32, R78). -/
def State.serves (s : State) (id : Nat) (k : Crane) (b : Option Nat) (c : Nat) : Prop :=
  ∃ x ∈ s.claim? c, x.task = some id ∧ (x.state = .queued ∨ x.state = .fetching) ∧ x.station = k ∧ b = some x.bin
    ∧ s.chainHead x.bin = some c

/-- The tasks and the claims they serve (R30, R32, R39): the claim of a FETCH and of a redirected step; a FETCH that names no
claim is past its pick. -/
def State.serviceLaw (s : State) : Prop :=
  (∀ e ∈ s.tasks.entries, (∀ c ∈ e.2.claim, e.2.kind = .fetch ∧ s.serves e.1 e.2.crane e.2.bin c)
      ∧ (∀ r ∈ e.2.redirect, ∀ c ∈ r.claim, s.serves e.1 e.2.crane e.2.stepBin c)
      ∧ (e.2.kind = .fetch → e.2.claim = none → e.2.step = .set))
    ∧ s.backlog.Nodup ∧ ∀ id ∈ s.backlog, ∃ c ∈ s.claim? id, c.state = .queued ∧ c.task = none
        ∧ s.chainHead c.bin = some id ∧ ∃ r ∈ s.bin? c.bin, ∃ i, r.place = .stored i

/-- The bins on the forks and at the stations, and the tasks that move them (R8, R30, R63, R79): a fork holds one bin at most,
the one that a set step of its crane carries; a bin has one STOW and one FETCH at most; a STOW at its PICK finds its bin at the
position it names, with no claim presented on it; only a STOW picks at a station. -/
def State.carryLaw (s : State) : Prop :=
  (∀ e ∈ s.tasks.entries, e.2.carries = true →
      ∃ b ∈ e.2.stepBin, ∃ r ∈ s.bin? b, r.place = .onCrane e.2.crane)
    ∧ (∀ e ∈ s.tasks.entries, ∀ f ∈ s.tasks.entries, e.2.carries = true → f.2.carries = true → e.2.crane = f.2.crane → e.1 = f.1)
    ∧ (∀ e ∈ s.bins.entries, ∀ f ∈ s.bins.entries, ∀ k, e.2.place = .onCrane k → f.2.place = .onCrane k → e.1 = f.1)
    ∧ (∀ e ∈ s.tasks.entries, ∀ f ∈ s.tasks.entries, e.2.kind = f.2.kind → (e.2.kind = .stow ∨ e.2.kind = .fetch) →
        e.2.bin = f.2.bin → e.1 = f.1)
    ∧ ∀ e ∈ s.tasks.entries, (∀ p, e.2.source = some (.station p) → e.2.kind = .stow)
        ∧ (e.2.kind = .stow → e.2.step = .pick → ∃ b ∈ e.2.bin, ∃ p, e.2.source = some (.station p)
            ∧ ∃ r ∈ s.bin? b, r.place = .atStation e.2.crane p
              ∧ ∀ id ∈ r.chain.head?, ∀ c ∈ s.claim? id, c.shown = false)

/-- The laws of the directory, the claim unit and the task unit taken together: each is kept by a step from a state that meets
them all. -/
def State.workLaws (s : State) : Prop :=
  s.tablesWf ∧ s.stackLaw ∧ s.laneLaw ∧ s.placeLaw ∧ s.unitsLaw ∧ s.serviceLaw ∧ s.carryLaw ∧ s.stationLaw

/-! ### The separation law (Chapter 6) -/

/-- The separation law over states (R112): two CALIBRATED reservations of an aisle keep the gap G. -/
def State.separationLaw (s : State) : Prop :=
  ∀ a : Aisle, ∀ west east, (s.rail (westCrane a)).reservation = .calibrated west →
    (s.rail (eastCrane a)).reservation = .calibrated east → west.east + s.params.gap ≤ east.west

/-- Every crane with a CALIBRATED reservation stands in it, over its whole body length. -/
def State.standsInside (s : State) : Prop :=
  ∀ k : Crane, ∀ sp, (s.rail k).reservation = .calibrated sp →
    sp.west ≤ s.posMm k - s.params.halfLength ∧ s.posMm k + s.params.halfLength ≤ sp.east

/-! ### Premises of statements -/

/-- The request `q` is in flight at port `p`, outside reset (R154): the premise under which the row of `q` takes
it. -/
def State.hasRequest (s : State) (p : Port) (q : Request) : Prop :=
  s.inReset = false ∧ (s.port p).slot = .inFlight q

/-- What checks 1 to 8 of R28 ask of a CLAIM for a bin with the record `r`: the premises of the statements about
an accepted CLAIM. -/
def State.claimAccepted (s : State) (body : List Byte) (kind : ClaimKind) (st : Crane) (r : Bin) : Prop :=
  s.wing = .opened ∧ byteAt body 0 = kind.code ∧ byteAt body 4 = st.val ∧ wordAt body 2 ≤ 8191
    ∧ (claimItems body = [] ↔ kind = .audit)
    ∧ (∀ i ∈ claimItems body, 1 ≤ i.2 ∧ i.2 ≤ s.params.capacity)
    ∧ s.bin? (wordAt body 2) = some r ∧ s.binAisle r = aisleOf st
    ∧ (s.station st).keyMask.getLsbD r.key = true ∧ (s.station st).state = .opened
    ∧ (kind = .ret → ((claimItems body).map Prod.snd).sum ≤ s.params.capacity - r.fill - r.reserved)

/-- The claim that an accepted CLAIM creates, QUEUED with no task (R25, R29). -/
def State.newClaim (s : State) (body : List Byte) (kind : ClaimKind) (st : Crane) : Claim where
  kind := kind
  urgent := decide (kind = .lend) && decide (byteAt body 1 ≠ 0)
  cls := match kind with
    | .lend => if byteAt body 1 = 0 then 3 else 2
    | .ret => 4
    | .audit => 5
  bin := wordAt body 2
  station := st
  state := .queued
  created := s.wingTime
  presented := none
  dwell := 0
  items := (claimItems body).map (fun i => ⟨i.1, i.2, .pending⟩)
  unseen := true
  task := none

/-- The state after an owning block has answered a request with a status and a body (R154, R157). -/
def State.answered (s : State) (p : Port) (q : Request) (st : Status) (body : List Byte) : State :=
  s.modPort p (fun b => { b with slot := .holding ⟨st, BitVec.ofNat 8 q.kind.code, q.tag, body⟩ })

end Sys2Proof.Machine
end

