-- ==== Sys2Proof/Certificates/Slice0/Obligations.lean ====
section
/-!
DEFINITION. The statements about the W46 for the provers, by chapter of the manual.
-/
open Sys2Proof Sys2Proof.Machine

/-! ### The machine: the step, the queue, the reset, the clock -/

/-- A step takes the command at the front of the queue and runs it with the queue's rest; on an empty queue a millisecond of
wing time passes. The queue and the millisecond are the model's choice (log 1, log 2). -/
def Obligations.StepRunsTheFrontCommand : Prop :=
  (∀ (c : Instr) (rest : List Instr) (s : State),
      step { s with pending := c :: rest } = exec c { s with pending := rest })
    ∧ ∀ s : State, s.pending = [] → step s = .next (tick s)

/-- Every command is carried out: it answers a next state, and leaves the commands that wait behind it as they are. The
manual's failures are effects on records, never stops of the device. -/
def Obligations.EveryCommandRuns : Prop :=
  ∀ (c : Instr) (s : State), ∃ t, exec c s = .next t ∧ t.pending = s.pending

/-- RESET_ASSERT (R152, R173): the outputs are held, every transaction is abandoned, and nothing else changes. -/
def Obligations.ResetAssertHoldsTheOutputs : Prop :=
  ∀ s : State, ∃ t, exec .resetAssert s = .next t
    ∧ (∀ k : Crane, t.stopLine k = true ∧ t.holdOpenLine k = false)
    ∧ t.wingSealed = false
    ∧ (∀ p : Port, t.attention p = false ∧ t.port p = { s.port p with transaction := none })
    ∧ t = { s with inReset := true, portC := t.portC, portK := t.portK }

/-- RESET_RELEASE with no alarm (R173 and the reset values of R4, R7, R51, R60, R61, R86, R105, R126, R142, R152, R163):
every record takes the value of its own chapter, the whole rail record and the levels of encoder, REF, FORK, shutter and fire
inputs from the pins included (R125), wing time is 0, and the waiting commands are kept (log 1). The time left of the unarmed
link timer is the model's 0 (log 5), the first speed window is its reading (log 7), no window envelope stands (log 8).
RESET_RELEASE with an aisle in alarm (R126, R127, R173): the aisle is in PARKING with its hold timer at T_sh, its stations
are SHUTTERED with their hold-open lines still asserted, and FIRE and FIRE_PARK are latched. -/
def Obligations.ResetReleaseGivesResetValues : Prop :=
  (∀ (pins : Pins) (s : State), pins.fire0 = false → pins.fire1 = false → pins.fireW = false →
    ∃ t, exec (.resetRelease pins) s = .next t
      ∧ t.pending = s.pending ∧ t.inReset = false ∧ t.wingTime = 0 ∧ t.wing = .loading ∧ t.params = {}
      ∧ (∀ i, t.lane i = ⟨0, 3, [], 0⟩) ∧ (∀ b, t.bin? b = none) ∧ (∀ id, t.claim? id = none)
      ∧ (∀ id, t.task? id = none) ∧ t.backlog = []
      ∧ (∀ k : Crane, t.station k = ⟨.opened, .opened, 1, #v[none, none], #v[none, none]⟩)
      ∧ t.search.state = .idle ∧ t.search.request = none ∧ t.search.result = none ∧ t.search.best = none
      ∧ (∀ k : Crane, t.crane k = ⟨[], [], none, none, .none, false, none⟩)
      ∧ (∀ k : Crane, t.channel k =
          ⟨.uncalibrated, .none, pins.cranes[k].a, pins.cranes[k].b, 0, ⟨0, false⟩, ⟨0, false⟩, 0, .none, 0, none,
           10, 10, none, pins.cranes[k].ref, pins.cranes[k].fork⟩)
      ∧ (∀ k : Crane, t.rail k = ⟨.offline, none, .powerOn, 0, false, .homeSide (if isWest k then 64000 else 0), none,
            none, 0, false, 0⟩ ∧ t.edges k = ⟨0, 64000⟩ ∧ t.stopLine k = true)
      ∧ (∀ a : Aisle, t.fire a = ⟨.normal, ⟨false, 0⟩, ⟨false, 0⟩⟩)
      ∧ (∀ k : Crane, t.shutter k = ⟨false, true, false, pins.shutters[k].openIn, pins.shutters[k].closedIn⟩
          ∧ t.holdOpenLine k = true)
      ∧ t.fireLines = ⟨pins.fire0, pins.fire1, pins.fireW⟩
      ∧ t.sweep.state = .none ∧ t.sweep.buffer = [] ∧ t.sweep.visited = 0 ∧ t.sweep.reported = 0
      ∧ (∀ p : Port, t.port p = ⟨.holding ⟨.notReady, 0, 0, []⟩, none, 0, 0⟩ ∧ t.attention p = false)
      ∧ t.sources = ⟨0, 0, 0, 0⟩)
  ∧
  (∀ (pins : Pins) (s : State) (a : Aisle), (State.afterReset pins).alarm a = true →
    ∃ t, exec (.resetRelease pins) s = .next t
      ∧ (t.fire a).state = .parking ∧ (t.fire a).hold = ⟨true, 30000⟩ ∧ t.wingTime = 0 ∧ t.inReset = false
      ∧ t.fireLines = ⟨pins.fire0, pins.fire1, pins.fireW⟩
      ∧ (∀ k ∈ cranesOf a, (t.station k).state = .shuttered ∧ t.holdOpenLine k = true
          ∧ (t.port (.k k)).latch.getLsbD NoticeK.firePark.position = true)
      ∧ t.portC.latch.getLsbD NoticeC.fire.position = true ∧ t.sources.fire.getLsbD a.val = true)

/-- The wing clock (R41, R98, R118, R133, R134, R173): a millisecond adds 1 to wing time and takes 1 off every timer that
counts, and the events of the timers that reach 0 wait as commands. That a millisecond is what a step does on an empty queue,
and that its events wait there, is the model's choice (log 2, log 11). That wing time counts modulo 2^64 is the model's
reading (log 25), and that a PRESENTED claim with 0 left raises no expiry its choice (log 52). -/
def Obligations.AMillisecondCountsTheTimers : Prop :=
  ∀ s : State, s.pending = [] → s.inReset = false → s.claims.wf = true →
    ∃ t, step s = .next t
      ∧ t.wingTime = (s.wingTime + 1) % 2 ^ 64
      ∧ (∀ k : Crane, t.channel k = { s.channel k with windowLeft := (s.channel k).windowLeft - 1 })
      ∧ (∀ k : Crane, t.rail k = { s.rail k with linkLeft := (t.rail k).linkLeft })
      ∧ (∀ (k : Crane) (r : Response), (s.port (.k k)).slot = .holding r →
          (t.rail k).linkLeft = if (s.rail k).linkArmed = true then (s.rail k).linkLeft - 1 else (s.rail k).linkLeft)
      ∧ (∀ (k : Crane) (q : Request), (s.port (.k k)).slot = .inFlight q →
          (t.rail k).linkLeft = (s.rail k).linkLeft)
      ∧ (∀ id, t.claim? id = (s.claim? id).map (fun c =>
          { c with dwell := if c.state = .presented then c.dwell - 1 else c.dwell }))
      ∧ (∀ a : Aisle, t.fire a = { s.fire a with
          hold := { (s.fire a).hold with
            left := if (s.fire a).hold.running = true then (s.fire a).hold.left - 1 else (s.fire a).hold.left },
          confirm := { (s.fire a).confirm with
            left := if (s.fire a).confirm.running = true then (s.fire a).confirm.left - 1
              else (s.fire a).confirm.left } })
      ∧ t = { s with pending := t.pending, wingTime := t.wingTime, channels := t.channels, rails := t.rails,
                     claims := t.claims, fires := t.fires }
      ∧ (∀ k, .windowEnd k ∈ t.pending ↔ (s.channel k).windowLeft = 1)
      ∧ (∀ k, .linkExpiry k ∈ t.pending ↔ (s.rail k).linkArmed = true ∧ (s.rail k).linkLeft = 1
          ∧ ∃ r, (s.port (.k k)).slot = .holding r)
      ∧ (∀ id, .dwellExpiry id ∈ t.pending ↔ ∃ c, s.claim? id = some c ∧ c.state = .presented ∧ c.dwell = 1)
      ∧ (∀ a, .shutterHoldExpiry a ∈ t.pending ↔ (s.fire a).hold = ⟨true, 1⟩)
      ∧ (∀ a, .shutterConfirmExpiry a ∈ t.pending ↔ (s.fire a).confirm = ⟨true, 1⟩)

/-! ### Ports and notices (Chapters 9 and 10) -/

/-- TRANSACTION_START (R153, R154): the port block chooses the frame it sends, the held response or NOT_READY with the kind
and tag of the request in flight; nothing else changes. TRANSACTION_END that takes no frame (R153, R154): a void transaction,
and one that began with a request in flight, end and change nothing else. TRANSACTION_END with a frame that fails a check of
R155: the first failing check gives the status, the slot holds the answer with the received kind and tag, and no other record
changes. -/
def Obligations.TransactionsThatTakeNoRequest : Prop :=
  (∀ (p : Port) (s : State), s.inReset = false → (s.port p).transaction = none →
    (∀ r, (s.port p).slot = .holding r →
      exec (.transactionStart p) s = .next (s.modPort p (fun b => { b with transaction := some ⟨r, true⟩ })))
    ∧ (∀ q, (s.port p).slot = .inFlight q →
      exec (.transactionStart p) s = .next (s.modPort p (fun b =>
        { b with transaction := some ⟨⟨.notReady, BitVec.ofNat 8 q.kind.code, q.tag, []⟩, false⟩ }))))
  ∧
  (∀ (p : Port) (bytes : List Byte) (s : State) (tr : Transaction), s.inReset = false →
    (s.port p).transaction = some tr → (bytes.length ≠ 64 ∨ tr.wasHolding = false) →
    exec (.transactionEnd p bytes) s = .next (s.modPort p (fun b => { b with transaction := none })))
  ∧
  (∀ (p : Port) (bytes : List Byte) (s : State) (tr : Transaction), s.inReset = false →
    (s.port p).transaction = some tr → bytes.length = 64 → tr.wasHolding = true →
    let answered (st : Status) : State := s.modPort p (fun b =>
      { b with transaction := none, slot := .holding ⟨st, bytes.getD 0 0, bytes.getD 1 0, []⟩ })
    (60 < byteAt bytes 2 → exec (.transactionEnd p bytes) s = .next (answered .badFrame))
    ∧ (byteAt bytes 2 ≤ 60 → (∀ kind : Kind, kind.code ≠ byteAt bytes 0) →
        exec (.transactionEnd p bytes) s = .next (answered .badFrame))
    ∧ (∀ kind : Kind, byteAt bytes 2 ≤ 60 → kind.code = byteAt bytes 0 → kind.permitted p = false →
        exec (.transactionEnd p bytes) s = .next (answered .notPermitted))
    ∧ (∀ kind : Kind, byteAt bytes 2 ≤ 60 → kind.code = byteAt bytes 0 → kind.permitted p = true →
        kind.lengthOk ((bytes.drop 3).take (byteAt bytes 2)) = false →
        exec (.transactionEnd p bytes) s = .next (answered .badFrame)))

/-- TRANSACTION_END with a frame that passes the checks of R155 (R118, R154): a NULL frame is answered OK at once, any other
frame puts the slot in flight with its kind, tag and body; at a K port the armed link timer restarts at H. The crane of a K
port is not SILENT here, or the frame is a RESTART. A directory request is carried out when its frame is taken (R2): the
TRANSACTION_END acts as the request's own row does on the state with the request in flight, and the slot holds its answer
(log 42). A valid frame other than RESTART returns a SILENT crane to service (R119): its state is the one its silent from
names, no other rail or channel record changes, and the frame is passed on as at any other time. -/
def Obligations.AValidFrameIsTaken : Prop :=
  (∀ (p : Port) (bytes : List Byte) (s : State) (tr : Transaction) (kind : Kind), s.inReset = false →
    (s.port p).transaction = some tr → bytes.length = 64 → tr.wasHolding = true →
    byteAt bytes 2 ≤ 60 → kind.code = byteAt bytes 0 → kind.permitted p = true →
    kind.lengthOk ((bytes.drop 3).take (byteAt bytes 2)) = true →
    (∀ k, p = .k k → (s.rail k).state ≠ .silent ∨ kind = Kind.restart) →
    let taken : State := (match p with
        | .c => s
        | .k k => s.modRail k (fun r =>
            { r with linkLeft := if r.linkArmed = true then s.params.linkTime else r.linkLeft })).modPort p
      (fun b => { b with
        transaction := none,
        slot := if kind = Kind.null then .holding ⟨.ok, 0, bytes.getD 1 0, []⟩
          else .inFlight ⟨kind, bytes.getD 1 0, (bytes.drop 3).take (byteAt bytes 2)⟩ })
    let rows : List (Kind × Instr) := [(.loadLane, .loadLane), (.loadStation, .loadStation), (.openWing, .openWing),
      (.registerBin, .registerBin), (.removeBin, .removeBin), (.queryBin, .queryBin), (.queryLane, .queryLane)]
    ((∀ row ∈ rows, kind ≠ row.1) → exec (.transactionEnd p bytes) s = .next taken)
    ∧ (∀ row ∈ rows, kind = row.1 → exec (.transactionEnd p bytes) s = exec row.2 taken
        ∧ ∃ t, exec row.2 taken = .next t ∧ ∃ r, (t.port .c).slot = .holding r))
  ∧
  (∀ (k : Crane) (bytes : List Byte) (s : State) (tr : Transaction) (kind : Kind), s.inReset = false →
    (s.port (.k k)).transaction = some tr → bytes.length = 64 → tr.wasHolding = true →
    byteAt bytes 2 ≤ 60 → kind.code = byteAt bytes 0 → kind.permitted (.k k) = true →
    kind.lengthOk ((bytes.drop 3).take (byteAt bytes 2)) = true →
    (s.rail k).state = .silent → kind ≠ Kind.restart →
    ∃ t, exec (.transactionEnd (.k k) bytes) s = .next t
      ∧ t.rail k = { s.rail k with
          state := if (s.rail k).silentFrom = some .unhomed then .unhomed else .ready, silentFrom := none,
          linkLeft := if (s.rail k).linkArmed = true then s.params.linkTime else (s.rail k).linkLeft }
      ∧ (t.port (.k k)).slot = (if kind = Kind.null then .holding ⟨.ok, 0, bytes.getD 1 0, []⟩
          else .inFlight ⟨kind, bytes.getD 1 0, (bytes.drop 3).take (byteAt bytes 2)⟩)
      ∧ (t.port (.k k)).transaction = none
      ∧ (∀ j : Crane, j ≠ k → t.rail j = s.rail j)
      ∧ t.pending = s.pending ∧ t.wingTime = s.wingTime ∧ t.wing = s.wing ∧ t.params = s.params ∧ t.bins = s.bins
      ∧ t.channels = s.channels ∧ t.fires = s.fires ∧ t.shutters = s.shutters ∧ t.search = s.search
      ∧ t.sweep = s.sweep)

/-- READ_NOTICES (R166): the latched set and the mask are answered, at port C with the source sets of the latched kinds;
every latch flag is cleared, and at port C the source sets of the kinds that were latched; nothing else changes. Fields of
the response that R157 gives no type are laid out as log 13 says. -/
def Obligations.ReadNoticesClearsTheLatches : Prop :=
  (∀ (s : State) (q : Request), s.hasRequest .c q → q.kind = .readNotices →
    let latched := s.portC.latch
    let kept (i v : Nat) : Nat := if latched.getLsbD i = true then v else 0
    exec (.readNotices .c) s = .next (State.answered
      { s with
        portC := { s.portC with latch := 0 },
        sources :=
          ⟨if latched.getLsbD 0 = true then 0 else s.sources.fire,
           if latched.getLsbD 2 = true then 0 else s.sources.shutterFault,
           if latched.getLsbD 1 = true then 0 else s.sources.craneFault,
           if latched.getLsbD 8 = true then 0 else s.sources.stackFull⟩ } .c q .ok
      (put16 latched.toNat ++ put16 s.portC.mask.toNat ++ put8 (kept 0 s.sources.fire.toNat)
        ++ put8 (kept 2 s.sources.shutterFault.toNat) ++ put8 (kept 1 s.sources.craneFault.toNat)
        ++ put8 (kept 8 s.sources.stackFull.toNat))))
  ∧ (∀ (k : Crane) (s : State) (q : Request), s.hasRequest (.k k) q → q.kind = .readNotices →
    exec (.readNotices (.k k)) s = .next ((s.modPort (.k k) (fun b => { b with latch := 0 })).answered (.k k) q .ok
      (put16 (s.port (.k k)).latch.toNat ++ put16 (s.port (.k k)).mask.toNat)))

/-- SET_MASK (R165): a set bit at or above position 9 at port C, or 6 at a K port, refuses the request and leaves the mask;
an accepted one replaces the whole mask, changes no latch and no source set, answers the new mask and the latched set, and
the attention line is asserted exactly when some kind is latched and unmasked. -/
def Obligations.SetMaskReplacesTheMask : Prop :=
  ∀ (p : Port) (s : State) (q : Request), s.hasRequest p q → q.kind = .setMask →
    let m := wordAt q.body 0
    let top := match p with
      | .c => 9
      | .k _ => 6
    ((∃ i, top ≤ i ∧ m.testBit i = true) → exec (.setMask p) s = .next (s.answered p q .outOfRange []))
    ∧ ((∀ i, top ≤ i → m.testBit i = false) → ∃ t, exec (.setMask p) s = .next t
        ∧ t = (s.modPort p (fun b => { b with mask := BitVec.ofNat 16 m })).answered p q .ok
            (put16 m ++ put16 (s.port p).latch.toNat)
        ∧ (t.attention p = true ↔ ∃ i, (s.port p).latch.getLsbD i = true ∧ m.testBit i = false))

/-- CHANGED_CLAIMS (R167): up to 16 flagged claims are listed in ascending ID and their flags cleared, the flag at the end
says whether flagged claims remain, and no other claim, latch or record changes. Fields of the response that R157 gives no
type are laid out as log 13 says. -/
def Obligations.ChangedClaimsListsAndClears : Prop :=
  ∀ (s : State) (q : Request), s.hasRequest .c q → q.kind = .changedClaims → s.claims.wf = true →
    let flagged := (s.claims.entries.filter (fun e => e.2.unseen)).map Prod.fst
    ∃ t, exec .changedClaims s = .next t
      ∧ (∀ id, t.claim? id = (s.claim? id).map (fun c =>
          { c with unseen := c.unseen && !(flagged.take 16).contains id }))
      ∧ t = State.answered { s with claims := t.claims } .c q .ok
          (put8 (flagged.take 16).length ++ (flagged.take 16).flatMap put8 ++ putFlag (decide (16 < flagged.length)))

/-! ### The directory (Chapter 1) and STATION (R22) -/

/-- LOAD_LANE (R12): the lane takes the key, the depth and the listed contents; each listed bin is STORED there with its fill
clamped at C, nothing reserved, its flags clear and its chain empty; a bin that stood in the lane and is not listed becomes
ABSENT; no other bin, no other lane and no other record changes. Fields of the response that R157 gives no type are laid out
as log 13 says. -/
def Obligations.LoadLaneReplacesTheLane : Prop :=
  ∀ (s : State) (q : Request), s.hasRequest .c q → q.kind = .loadLane → s.wing = .loading →
    byteAt q.body 0 ≤ 1 → byteAt q.body 1 ≤ 1 → byteAt q.body 2 < s.params.bays → byteAt q.body 3 < s.params.levels →
    byteAt q.body 4 ≤ 7 → 1 ≤ byteAt q.body 5 → byteAt q.body 5 ≤ 4 →
    (laneEntries q.body).length ≤ byteAt q.body 5 →
    let ids := (laneEntries q.body).map Prod.fst
    let i := s.params.laneIndex (byteAt q.body 0) (byteAt q.body 1) (byteAt q.body 2) (byteAt q.body 3)
    let clamped := ((laneEntries q.body).filter (fun e => decide (s.params.capacity < e.2))).length
    (∀ b ∈ ids, b ≤ 8191) → ids.Nodup → (∀ b ∈ ids, ∀ r, s.bin? b = some r → r.place = .stored i) →
    ∃ t, exec .loadLane s = .next t
      ∧ t.lane i = { s.lane i with key := byteAt q.body 4, depth := byteAt q.body 5, contents := ids }
      ∧ (∀ j, j ≠ i → t.lane j = s.lane j)
      ∧ (∀ e ∈ laneEntries q.body, t.bin? e.1 =
          some ⟨.stored i, byteAt q.body 4, min e.2 s.params.capacity, 0, false, false, false, []⟩)
      ∧ (∀ b, b ∉ ids → t.bin? b = if b ∈ (s.lane i).contents then none else s.bin? b)
      ∧ t = State.answered { s with lanes := t.lanes, bins := t.bins } .c q (if clamped = 0 then .ok else .clamped)
          (put16 i ++ put8 clamped ++ put16 t.presentCount ++ put16 t.totalSlots)

/-- LOAD_STATION (R13): a listed bin stands at the named position, entering with its fill clamped at C, nothing reserved, its
flags clear and its chain empty; with no bin the position is emptied and its bin becomes ABSENT; nothing else changes. Fields
of the response that R157 gives no type are laid out as log 13 says. -/
def Obligations.LoadStationSetsThePosition : Prop :=
  ∀ (s : State) (q : Request) (k : Crane) (p : Pos), s.hasRequest .c q → q.kind = .loadStation → s.wing = .loading →
    byteAt q.body 0 = k.val → byteAt q.body 1 = p.val →
    (∀ b, wordAt q.body 2 = b → b ≤ 8191 → byteAt q.body 4 ≤ 7 →
      (∀ r, s.bin? b = some r → r.place = .atStation k p) →
      ((s.station k).bins[p] = none ∨ (s.station k).bins[p] = some b) →
      ∃ t, exec .loadStation s = .next t
        ∧ t.bin? b = some ⟨.atStation k p, byteAt q.body 4, min (byteAt q.body 5) s.params.capacity, 0,
            false, false, false, []⟩
        ∧ (∀ c, c ≠ b → t.bin? c = s.bin? c)
        ∧ t = State.answered
            { (s.modStation k (fun st => { st with bins := st.bins.set p (some b) })) with bins := t.bins } .c q
            (if s.params.capacity < byteAt q.body 5 then .clamped else .ok)
            (put16 t.presentCount ++ put16 t.totalSlots))
    ∧ (∀ b, wordAt q.body 2 = 65535 → (s.station k).bins[p] = some b →
      ∃ t, exec .loadStation s = .next t
        ∧ t.bin? b = none ∧ (∀ c, c ≠ b → t.bin? c = s.bin? c)
        ∧ t = State.answered
            { (s.modStation k (fun st => { st with bins := st.bins.set p none })) with bins := t.bins } .c q .ok
            (put16 t.presentCount ++ put16 t.totalSlots))
    ∧ (wordAt q.body 2 = 65535 → (s.station k).bins[p] = none →
      exec .loadStation s =
        .next (s.answered .c q .ok (put16 s.presentCount ++ put16 s.totalSlots)))

/-- OPEN_WING (R14, R64, R79): the wing becomes OPEN, every bin standing at one station position is given a STOW on that
station's own crane with the position as its source, and each task admitted is a QUEUED STOW of class 4; bins, lanes, claims
and the records of the other chapters stay as they are. The tables are canonical (log 4), only PARK and HOME tasks are held,
as R64 says of LOADING, none of them active, and the task table has room for eight more. OPEN_WING refused (R14): outside
LOADING with WING_STATE, and with less than the reserve free with NO_ROOM; nothing else changes. REGISTER_BIN (R15): the bin
stands at the named position as a bin that enters the wing, every other bin and position is as before, the response carries
the headroom left, and a crane with no active task takes a QUEUED STOW of class 4. REGISTER_BIN over an active task (R48,
R74, R75, R76): the new STOW of class 4 is alone in the queue of a READY crane in NORMAL and finds a lane. Over a task of
class 5 at a step boundary with room on the stack it preempts: the old task is SUSPENDED on top of the stack, the STOW is
ACTIVE with its lane's slot, the marker is PUSH and TASK_READY is latched. With three tasks on the stack it is refused: room
refusal is set, and STACK_FULL is latched at both ports if it was clear. Away from a boundary, or over a class of 4 or below,
it waits and latches nothing. REMOVE_BIN (R16): the bin becomes ABSENT and its position is emptied, every other bin and
position is as before, the response carries the headroom, and with no crane at work its STOW is gone. The tables are
canonical (log 4). Fields of the response that R157 gives no type are laid out as log 13 says. -/
def Obligations.RegisterBinEntersAtAStation : Prop :=
  (∀ (s : State) (q : Request), s.hasRequest .c q → q.kind = .openWing → s.wing = .loading → 0 ≤ s.headroom →
    s.settled → s.tablesWf → (∀ k, (s.crane k).active = none) → s.tasks.entries.length ≤ 56 →
    (∀ e ∈ s.tasks.entries, e.2.kind = .park ∨ e.2.kind = .home) →
    ∃ t, exec .openWing s = .next t
      ∧ (∀ (k : Crane) (p : Pos) (b : Nat), (s.station k).bins[p] = some b →
          (∀ (j : Crane) (y : Pos), (s.station j).bins[y] = some b → j = k ∧ y = p) →
          ∃ id task, t.task? id = some task ∧ task.kind = .stow ∧ task.bin = some b ∧ task.crane = k
            ∧ task.source = some (.station p))
      ∧ (∀ id task, s.task? id = none → t.task? id = some task →
          task.kind = .stow ∧ task.cls = 4 ∧ task.state = .queued ∧ task.admitted = s.wingTime
            ∧ id ∈ (t.crane task.crane).queue)
      ∧ t = State.answered
          { s with wing := .opened, tasks := t.tasks, cranes := t.cranes, portK := t.portK } .c q .ok
          (put16 s.presentCount ++ put16 s.totalSlots))
  ∧
  (∀ (s : State) (q : Request), s.hasRequest .c q → q.kind = .openWing →
    (s.wing = .opened → exec .openWing s = .next (s.answered .c q .wingState []))
    ∧ (s.wing = .loading → s.headroom < 0 → exec .openWing s = .next (s.answered .c q .noRoom [])))
  ∧
  (∀ (s : State) (q : Request) (k : Crane) (p : Pos), s.hasRequest .c q → q.kind = .registerBin → s.wing = .opened →
    s.settled → byteAt q.body 4 = k.val → byteAt q.body 5 = p.val →
    let b := wordAt q.body 0
    let r : Bin := ⟨.atStation k p, byteAt q.body 2, min (byteAt q.body 3) s.params.capacity, 0, false, false, false, []⟩
    b ≤ 8191 → byteAt q.body 2 ≤ 7 → s.bin? b = none → (s.station k).keyMask.getLsbD (byteAt q.body 2) = true →
    (s.station k).state ≠ .closed → (s.fire (aisleOf k)).state = .normal →
    (s.station k).bins[p] = none → (s.station k).promises[p] = none → 1 ≤ s.headroom →
    ∃ t, exec .registerBin s = .next t
      ∧ t.bin? b = some r ∧ (∀ c, c ≠ b → t.bin? c = s.bin? c)
      ∧ (∀ j : Crane, (t.station j).bins = if j = k then (s.station k).bins.set p (some b) else (s.station j).bins)
      ∧ t.portC.slot = .holding ⟨if s.params.capacity < byteAt q.body 3 then .clamped else .ok,
          BitVec.ofNat 8 q.kind.code, q.tag, put16 b ++ putInt (s.headroom - 1)⟩
      ∧ t.pending = s.pending ∧ t.wing = s.wing ∧ t.params = s.params ∧ t.wingTime = s.wingTime
      ∧ t.search = s.search ∧ t.sweep = s.sweep ∧ t.channels = s.channels ∧ t.rails = s.rails ∧ t.fires = s.fires
      ∧ t.shutters = s.shutters
      ∧ ((s.crane k).active = none → s.stowOf b = none → ∀ id, s.tasks.lowestFree 64 = some id →
          t.task? id = some ⟨k, .stow, 4, s.wingTime, some b, some (.station p), none, none, [], 0, 0, none, .queued,
            none, .pick, none⟩
          ∧ id ∈ (t.crane k).queue))
  ∧
  (∀ (s : State) (q : Request) (k : Crane) (p : Pos) (id old i : Nat) (o : Task), s.hasRequest .c q →
    q.kind = .registerBin → s.wing = .opened → s.settled → byteAt q.body 4 = k.val → byteAt q.body 5 = p.val →
    let b := wordAt q.body 0
    b ≤ 8191 → byteAt q.body 2 ≤ 7 → s.bin? b = none → (s.station k).keyMask.getLsbD (byteAt q.body 2) = true →
    (s.station k).state ≠ .closed → (s.fire (aisleOf k)).state = .normal → (s.station k).bins[p] = none →
    (s.station k).promises[p] = none → 1 ≤ s.headroom → s.stowOf b = none → s.tasks.lowestFree 64 = some id →
    (s.rail k).state = .ready → (s.crane k).queue = [] → (s.crane k).active = some old → s.task? old = some o →
    let open' (j : Nat) : Prop := j < s.params.laneCount ∧ s.params.laneAisle j = aisleOf k
      ∧ (s.lane j).key = byteAt q.body 2 ∧ (s.lane j).contents.length + (s.lane j).incoming < (s.lane j).depth
    let price (j : Nat) : Nat := min 65535
      (((s.params.bayMm (aisleOf k) (s.params.laneBay j) - s.params.stationPos[k]).natAbs + 99) / 100
          * s.params.weights.travel
        + s.params.laneLevel j * s.params.weights.level
        + ((s.lane j).contents.length + (s.lane j).incoming) * s.params.weights.depth)
    open' i → (∀ j, open' j → price i < price j ∨ (price i = price j ∧ i ≤ j)) →
    let stow : Task := ⟨k, .stow, 4, s.wingTime, some b, some (.station p), none, none, [], 0, 0, none, .queued, none, .pick, none⟩
    let boundary : Prop := (o.step = .relocPick ∨ o.step = .pick) ∧ s.fork k = none ∧ o.yield = none
    let waits (t : State) : Prop := t.task? id = some stow ∧ t.task? old = some o ∧ t.lanes = s.lanes
      ∧ (t.crane k).queue = [id] ∧ (t.crane k).active = some old ∧ (t.crane k).stack = (s.crane k).stack
      ∧ (t.crane k).undelivered = (s.crane k).undelivered
    (4 < o.cls → boundary → (s.crane k).stack.length < 3 →
        ¬ ((s.crane k).undelivered = .push ∧ o.kind = .fetch) → ∃ t, exec .registerBin s = .next t
      ∧ t.task? id = some { stow with state := .active, dest := some (.lane i) }
      ∧ t.task? old = some { o with state := .suspended, yield := none } ∧ (∀ j, j ≠ id → j ≠ old → t.task? j = s.task? j)
      ∧ t.crane k = { s.crane k with
          active := some id, stack := old :: (s.crane k).stack, undelivered := .push, roomRefusal := false }
      ∧ t.lane i = { s.lane i with incoming := (s.lane i).incoming + 1 } ∧ (∀ j, j ≠ i → t.lane j = s.lane j)
      ∧ (t.port (.k k)).latch = (s.port (.k k)).latch ||| bit16 NoticeK.taskReady.position)
    ∧ (4 < o.cls → boundary → 3 ≤ (s.crane k).stack.length → ∃ t, exec .registerBin s = .next t ∧ waits t
      ∧ (t.crane k).roomRefusal = true
      ∧ ((s.crane k).roomRefusal = true → t.portC.latch = s.portC.latch ∧ (t.port (.k k)).latch = (s.port (.k k)).latch)
      ∧ ((s.crane k).roomRefusal = false → t.portC.latch = s.portC.latch ||| bit16 NoticeC.stackFull.position
          ∧ (t.port (.k k)).latch = (s.port (.k k)).latch ||| bit16 NoticeK.stackFull.position
          ∧ t.sources.stackFull.getLsbD k.val = true))
    ∧ ((o.cls ≤ 4 ∨ ¬ boundary) → ∃ t, exec .registerBin s = .next t ∧ waits t
      ∧ t.portC.latch = s.portC.latch ∧ (t.port (.k k)).latch = (s.port (.k k)).latch
      ∧ (o.cls ≤ 4 → (t.crane k).roomRefusal = false)))
  ∧
  (∀ (s : State) (q : Request) (k : Crane) (p : Pos) (r : Bin), s.hasRequest .c q → q.kind = .removeBin →
    s.wing = .opened → s.settled → s.tablesWf →
    let b := wordAt q.body 0
    b ≤ 8191 → s.bin? b = some r → r.place = .atStation k p → r.chain = [] → s.binInWork b = false →
    ∃ t, exec .removeBin s = .next t
      ∧ t.bin? b = none ∧ (∀ c, c ≠ b → t.bin? c = s.bin? c)
      ∧ (∀ j : Crane, (t.station j).bins = if j = k then (s.station k).bins.set p none else (s.station j).bins)
      ∧ t.portC.slot = .holding ⟨.ok, BitVec.ofNat 8 q.kind.code, q.tag, putInt t.headroom⟩
      ∧ t.pending = s.pending ∧ t.wing = s.wing ∧ t.params = s.params ∧ t.wingTime = s.wingTime
      ∧ t.search = s.search ∧ t.sweep = s.sweep ∧ t.channels = s.channels ∧ t.rails = s.rails ∧ t.fires = s.fires
      ∧ t.shutters = s.shutters
      ∧ ((∀ j, (s.crane j).active = none) → ∀ id, s.stowOf b = some id → t.task? id = none))

/-- QUERY_BIN and QUERY_LANE (R18, R19): the response carries the record as it stands, in the field order of the manual, and
nothing but the response slot changes. QUERY_PLACE (R57): while a search runs or is complete the response carries the state,
the request, the result once it is complete, and the pass; nothing but the response slot changes. The queries of a crane and
of a rail record (R61, R102, R122, R126): the response carries the part that the request names, and nothing but the response
slot changes. Fields of the response that R157 gives no type are laid out as log 13 says. -/
def Obligations.QueriesReportTheRecords : Prop :=
  ((∀ (s : State) (q : Request), s.hasRequest .c q → q.kind = .queryBin → wordAt q.body 0 ≤ 8191 →
    (s.bin? (wordAt q.body 0) = none → exec .queryBin s = .next (s.answered .c q .ok
      (put8 s.wing.code ++ [0, 255, 255, 255, 255, 255, 255, 255, 255, 255, 255, 0, 0, 0, 0, 0, 0, 0, 0, 0])))
    ∧ (∀ r, s.bin? (wordAt q.body 0) = some r → exec .queryBin s = .next (s.answered .c q .ok
      (put8 s.wing.code ++ (match r.place with
        | .stored i => [1] ++ put16 i ++ putLaneAddr s.params i
            ++ put8 ((s.lane i).contents.idxOf (wordAt q.body 0) + 1) ++ [255, 255, 255]
        | .onCrane k => [2, 255, 255, 255, 255, 255, 255, 255] ++ put8 k.val ++ [255, 255]
        | .atStation k p => [3, 255, 255, 255, 255, 255, 255, 255, 255] ++ put8 k.val ++ put8 p.val)
        ++ put8 r.key ++ put8 r.fill ++ put8 r.reserved ++ put8 (s.params.capacity - r.fill - r.reserved)
        ++ putFlag r.reference ++ putFlag r.change ++ putFlag r.anomaly ++ put8 r.chain.length
        ++ put8 (r.chain.take 16).length ++ (r.chain.take 16).flatMap put8))))
  ∧ (∀ (s : State) (q : Request), s.hasRequest .c q → q.kind = .queryLane → byteAt q.body 0 ≤ 1 →
    byteAt q.body 1 ≤ 1 → byteAt q.body 2 < s.params.bays → byteAt q.body 3 < s.params.levels →
    let i := s.params.laneIndex (byteAt q.body 0) (byteAt q.body 1) (byteAt q.body 2) (byteAt q.body 3)
    let l := s.lane i
    exec .queryLane s = .next (s.answered .c q .ok
      (put16 i ++ put8 l.key ++ put8 l.depth ++ put8 l.contents.length ++ put8 l.incoming
        ++ put8 (l.depth - l.contents.length - l.incoming) ++ put8 l.contents.length
        ++ l.contents.flatMap (fun b => put16 b ++ put8 ((s.bin? b).elim 0 Bin.fill))
        ++ put8 s.wing.code ++ put16 (4 * s.params.bays * s.params.levels) ++ put16 s.totalSlots
        ++ put16 s.presentCount ++ put8 s.params.reserve ++ putInt s.headroom))))
  ∧
  (∀ (s : State) (q : Request) (pr : PlaceRequest), s.hasRequest .c q → q.kind = .queryPlace →
    s.search.request = some pr →
    let request := put8 pr.station.val ++ put8 pr.units ++ put8 pr.key ++ putBits pr.item
    (s.search.state = .running →
      exec .queryPlace s = .next (s.answered .c q .ok ([1] ++ request ++ put8 s.search.pass)))
    ∧ ∀ r, s.search.state = .complete → s.search.result = some r →
      exec .queryPlace s = .next (s.answered .c q .ok ([2] ++ request
        ++ put8 (if r.reason = none then 0 else 1) ++ put8? (r.reason.map NoPlaceReason.code) ++ put16? r.bin
        ++ put8? r.claim ++ put16? r.cost ++ put8? (r.appended.map (fun a => if a = true then 0 else 1))
        ++ put8 s.search.pass)))
  ∧
  ((∀ (s : State) (q : Request) (k : Crane), s.hasRequest .c q → q.kind = .queryCrane → byteAt q.body 0 = k.val →
    (byteAt q.body 1 = 0 → exec .queryCraneTask s = .next (s.answered .c q .ok (s.taskPart k)))
    ∧ (byteAt q.body 1 = 1 → exec .queryCraneChannel s = .next (s.answered .c q .ok (s.channelPart k)))
    ∧ (byteAt q.body 1 = 2 → exec .queryCraneRail s = .next (s.answered .c q .ok (s.railPart k)))
    ∧ (byteAt q.body 1 = 3 → exec .queryCraneFire s = .next (s.answered .c q .ok (s.firePart (aisleOf k)))))
  ∧ (∀ (s : State) (q : Request) (k : Crane), s.hasRequest (.k k) q → q.kind = .queryRail →
    (byteAt q.body 0 = 1 → exec (.queryRailChannel k) s = .next (s.answered (.k k) q .ok (s.channelPart k)))
    ∧ (byteAt q.body 0 = 2 → exec (.queryRailRail k) s = .next (s.answered (.k k) q .ok (s.railPart k)))))

/-- STATION (R22): the staff setting and the key mask take the given values; the state follows the setting unless the station
is SHUTTERED; nothing else changes, and the response carries the record. Fields of the response that R157 gives no type are
laid out as log 13 says. -/
def Obligations.StationTakesTheSetting : Prop :=
  ∀ (s : State) (q : Request) (k : Crane), s.hasRequest .c q → q.kind = .station → byteAt q.body 0 = k.val →
    (1 < byteAt q.body 1 → exec .station s = .next (s.answered .c q .outOfRange []))
    ∧ ∀ setting : Staff, byteAt q.body 1 = setting.code →
      let st := s.station k
      let new : Station := { st with
        staff := setting, keyMask := q.body.getD 2 0,
        state := if st.state = .shuttered then .shuttered else if setting = .opened then .opened else .closed }
      exec .station s = .next ((s.modStation k (fun _ => new)).answered .c q .ok
        (put8 new.state.code ++ put8 setting.code ++ [q.body.getD 2 0] ++ put16? st.bins[0] ++ put16? st.bins[1]
          ++ putFlag st.promises[0].isSome ++ putFlag st.promises[1].isSome))

/-! ### Claims (Chapter 2) -/

/-- CLAIM of a bin that has live claims (R28, R29): the claim joins the end of the bin's chain, QUEUED with wait reason TURN,
a RETURN claim reserves its units, CLAIM_CHANGED is latched, and nothing else changes. CLAIM of a bin that stands at the
claim's station, with an empty chain (R29, R30, R32): the claim is PRESENTED at once with its dwell at D, and the bin's STOW
is removed unless it is past its PICK (R79). No crane has an active task here, and the tables are canonical (log 4). CLAIM of
a STORED bin with an empty chain (R29 to R31): a FETCH of the claim's class is queued for the crane of its station and the
claim waits for it with reason TASK; with no room in the queue the claim waits in the backlog with reason BACKLOG. CLAIM of a
bin on the fork of its station's crane, with an empty chain (R23, R29, R30, R78): the active task carries it in a RELOC_SET
or a STOW's SET that is not redirected. With a position free, the lowest is promised to the task, the step is redirected with
its lane slot kept, the claim is FETCHING with the task's ID, the marker is REDIRECT and TASK_READY is latched; with none
free it waits with reason STORAGE. No marker PUSH stands. PASS_COMPLETION that succeeds with a claim to join (R55): the item
is appended to the oldest live RETURN claim of the bin for the station with fewer than 8 items, the bin's reserved units rise
by the item's, the result carries "appended", and CLAIM_CHANGED and PLACE_DONE are latched. PASS_COMPLETION that succeeds on
a bin standing at the station with an empty chain (R29, R30, R55): a new RETURN claim of class 4 with the one item takes the
entry of R26 and is PRESENTED, and the bin's reserved units rise once. No crane has an active task here, and the tables are
canonical (log 4). Fields of the response that R157 gives no type are laid out as log 13 says. That the wait reason of a
claim that is not QUEUED is answered as 255 (log 16), and that an urgent byte of 2 to 255 counts as set (log 47), are the
model's choices. -/
def Obligations.AClaimIsCreatedAndPlaced : Prop :=
  (∀ (s : State) (q : Request) (kind : ClaimKind) (st : Crane) (r : Bin) (id : Nat), s.hasRequest .c q →
    q.kind = .claim → s.claimAccepted q.body kind st r → s.claimEntry = some id → s.settled →
    r.chain ≠ [] → id ∉ r.chain →
    ∃ t, exec .claim s = .next t
      ∧ t.claim? id = some (s.newClaim q.body kind st)
      ∧ (∀ j, j ≠ id → t.claim? j = s.claim? j)
      ∧ t.bin? (wordAt q.body 2) = some { r with
          reserved := r.reserved + (if kind = .ret then ((claimItems q.body).map Prod.snd).sum else 0),
          chain := r.chain ++ [id] }
      ∧ (∀ b, b ≠ wordAt q.body 2 → t.bin? b = s.bin? b)
      ∧ t = State.answered { s with
          claims := t.claims, bins := t.bins, portC := { s.portC with latch := s.portC.latch ||| 8 } } .c q .ok
          (put8 id ++ [0, 4]))
  ∧
  (∀ (s : State) (q : Request) (kind : ClaimKind) (st : Crane) (r : Bin) (id : Nat) (p : Pos), s.hasRequest .c q →
    q.kind = .claim → s.claimAccepted q.body kind st r → s.claimEntry = some id → s.settled →
    s.tablesWf → r.chain = [] → r.place = .atStation st p → (∀ k, (s.crane k).active = none) →
    ∃ t, exec .claim s = .next t
      ∧ t.claim? id = some { s.newClaim q.body kind st with
          state := .presented, presented := some s.wingTime, dwell := s.params.dwell * 1000 }
      ∧ (∀ j, j ≠ id → t.claim? j = s.claim? j)
      ∧ t.bin? (wordAt q.body 2) = some { r with
          reserved := r.reserved + (if kind = .ret then ((claimItems q.body).map Prod.snd).sum else 0), chain := [id] }
      ∧ (∀ b, b ≠ wordAt q.body 2 → t.bin? b = s.bin? b)
      ∧ (∀ tid u, s.stowOf (wordAt q.body 2) = some tid → s.task? tid = some u →
          (u.state = .queued ∨ u.state = .blocked ∨ u.step = .pick) → t.task? tid = none)
      ∧ (s.stowOf (wordAt q.body 2) = none → t.tasks = s.tasks)
      ∧ t = State.answered { s with
          claims := t.claims, bins := t.bins, tasks := t.tasks, cranes := t.cranes, lanes := t.lanes, portK := t.portK,
          portC := { s.portC with latch := s.portC.latch ||| 8 } } .c q .ok (put8 id ++ [2, 255]))
  ∧
  (∀ (s : State) (q : Request) (kind : ClaimKind) (st : Crane) (r : Bin) (id tid i : Nat), s.hasRequest .c q →
    q.kind = .claim → s.claimAccepted q.body kind st r → s.claimEntry = some id → s.settled →
    r.chain = [] → r.place = .stored i → s.spareFetch (wordAt q.body 2) st = none →
    (s.crane st).active = none → s.tasks.lowestFree 64 = some tid →
    ∃ t, exec .claim s = .next t
      ∧ (∀ j, j ≠ id → t.claim? j = s.claim? j)
      ∧ t.bin? (wordAt q.body 2) = some { r with
          reserved := r.reserved + (if kind = .ret then ((claimItems q.body).map Prod.snd).sum else 0), chain := [id] }
      ∧ (∀ b, b ≠ wordAt q.body 2 → t.bin? b = s.bin? b)
      ∧ (∀ j, j ≠ tid → t.task? j = s.task? j)
      ∧ (s.fetchRoom st = true →
          t.claim? id = some { s.newClaim q.body kind st with task := some tid }
          ∧ t.task? tid = some ⟨st, .fetch, (s.newClaim q.body kind st).cls, s.wingTime, some (wordAt q.body 2), none,
              none, some id, [], 0, 0, none, .queued, none, .pick, none⟩
          ∧ tid ∈ (t.crane st).queue ∧ t.backlog = s.backlog
          ∧ t.portC.slot = .holding ⟨.ok, BitVec.ofNat 8 q.kind.code, q.tag, put8 id ++ [0, 1]⟩)
      ∧ (s.fetchRoom st = false →
          t.claim? id = some (s.newClaim q.body kind st) ∧ t.tasks = s.tasks ∧ t.backlog = s.backlog ++ [id]
          ∧ t.portC.slot = .holding ⟨.ok, BitVec.ofNat 8 q.kind.code, q.tag, put8 id ++ [0, 2]⟩)
      ∧ t.lanes = s.lanes ∧ t.stations = s.stations ∧ t.rails = s.rails ∧ t.channels = s.channels
      ∧ t.fires = s.fires ∧ t.shutters = s.shutters ∧ t.search = s.search ∧ t.sweep = s.sweep
      ∧ t.wing = s.wing ∧ t.params = s.params ∧ t.wingTime = s.wingTime)
  ∧
  (∀ (s : State) (q : Request) (kind : ClaimKind) (k : Crane) (r : Bin) (id tid : Nat) (t : Task), s.hasRequest .c q →
    q.kind = .claim → s.claimAccepted q.body kind k r → s.claimEntry = some id → s.settled → r.chain = [] →
    r.place = .onCrane k → (s.fire (aisleOf k)).state = .normal → (s.crane k).active = some tid →
    (s.crane k).undelivered ≠ .push → s.task? tid = some t → t.redirect = none → t.stepBin = some (wordAt q.body 2) →
    (t.step = .relocSet ∧ (t.kind = .fetch ∨ t.kind = .relocate) ∨ t.step = .set ∧ t.kind = .stow) →
    let free (p : Pos) : Prop := (s.station k).bins[p] = none ∧ (s.station k).promises[p] = none
    let claimed (s' : State) (c : Claim) : Prop := s'.claim? id = some c ∧ (∀ j, j ≠ id → s'.claim? j = s.claim? j)
      ∧ s'.bin? (wordAt q.body 2) = some { r with
          reserved := r.reserved + (if kind = .ret then ((claimItems q.body).map Prod.snd).sum else 0), chain := [id] }
      ∧ (∀ b, b ≠ wordAt q.body 2 → s'.bin? b = s.bin? b)
    (∀ p : Pos, free p → (∀ j, j < p → ¬ free j) → ∃ s', exec .claim s = .next s'
      ∧ claimed s' { s.newClaim q.body kind k with state := .fetching, task := some tid }
      ∧ s'.task? tid = some { t with redirect := some ⟨some id, p, true⟩ } ∧ (∀ j, j ≠ tid → s'.task? j = s.task? j)
      ∧ s' = State.answered { s with
          claims := s'.claims, bins := s'.bins, tasks := s'.tasks,
          stations := s.stations.set k { s.station k with promises := (s.station k).promises.set p (some tid) },
          cranes := s.cranes.set k { s.crane k with undelivered := .redirect },
          portK := s.portK.set k { s.port (.k k) with
            latch := (s.port (.k k)).latch ||| bit16 NoticeK.taskReady.position },
          portC := { s.portC with latch := s.portC.latch ||| 8 } } .c q .ok (put8 id ++ [1, 255]))
    ∧ ((∀ p : Pos, ¬ free p) → s.spareFetch (wordAt q.body 2) k = none → id ∉ s.backlog → ∃ s', exec .claim s = .next s'
      ∧ claimed s' (s.newClaim q.body kind k)
      ∧ s' = State.answered { s with
          claims := s'.claims, bins := s'.bins, portC := { s.portC with latch := s.portC.latch ||| 8 } } .c q .ok
          (put8 id ++ [0, 3])))
  ∧
  (∀ (s : State) (pr : PlaceRequest) (b cost now id : Nat) (r : Bin) (c : Claim), s.inReset = false →
    s.search.state = .running → s.search.request = some pr → s.search.cursor = 8192 →
    (s.station pr.station).state = .opened → s.search.best = some (b, cost) → s.candidateCost pr b = some now →
    now ≤ cost → s.bin? b = some r →
    let roomy (j : Nat) : Prop := ∃ d, s.claim? j = some d ∧ d.kind = .ret ∧ d.state.live = true
      ∧ d.station = pr.station ∧ d.items.length < 8
    (∃ before after, r.chain = before ++ id :: after ∧ roomy id ∧ ∀ j ∈ before, ¬ roomy j) → s.claim? id = some c →
    ∃ t, exec .passCompletion s = .next t
      ∧ t.claim? id = some { c with items := c.items ++ [⟨pr.item, pr.units, .pending⟩], unseen := true }
      ∧ (∀ j, j ≠ id → t.claim? j = s.claim? j)
      ∧ t.bin? b = some { r with reserved := r.reserved + pr.units }
      ∧ (∀ x, x ≠ b → t.bin? x = s.bin? x)
      ∧ t = { s with
          claims := t.claims, bins := t.bins,
          search := { s.search with
            state := .complete, result := some ⟨none, some b, some id, some now, some true⟩ },
          portC := { s.portC with latch := s.portC.latch ||| 8 ||| 64 } })
  ∧
  (∀ (s : State) (pr : PlaceRequest) (b cost now id : Nat) (r : Bin) (p : Pos), s.inReset = false → s.settled →
    s.tablesWf → s.search.state = .running → s.search.request = some pr → s.search.cursor = 8192 →
    (s.station pr.station).state = .opened → s.search.best = some (b, cost) → s.candidateCost pr b = some now →
    now ≤ cost → s.bin? b = some r → r.chain = [] → r.place = .atStation pr.station p → s.claimEntry = some id →
    (∀ k, (s.crane k).active = none) →
    ∃ t, exec .passCompletion s = .next t
      ∧ t.claim? id = some ⟨.ret, false, 4, b, pr.station, .presented, s.wingTime, some s.wingTime,
          s.params.dwell * 1000, [⟨pr.item, pr.units, .pending⟩], true, none⟩
      ∧ (∀ j, j ≠ id → t.claim? j = s.claim? j)
      ∧ t.bin? b = some { r with reserved := r.reserved + pr.units, chain := [id] }
      ∧ (∀ x, x ≠ b → t.bin? x = s.bin? x)
      ∧ t.search = { s.search with
          state := .complete, result := some ⟨none, some b, some id, some now, some false⟩ }
      ∧ t.portC = { s.portC with latch := s.portC.latch ||| 8 ||| 64 }
      ∧ t.rails = s.rails ∧ t.channels = s.channels ∧ t.fires = s.fires ∧ t.shutters = s.shutters
      ∧ t.sweep = s.sweep ∧ t.wing = s.wing ∧ t.params = s.params ∧ t.pending = s.pending)

/-- PICK (R35): the item takes the outcome, and the bin record changes as the manual's table says: TAKEN lowers the fill by
the units, clamped at 0 with the anomaly flag; ABSENT sets the anomaly flag; PLACED moves the units from reserved to fill.
Fields of the response that R157 gives no type are laid out as log 13 says. -/
def Obligations.PickRecordsTheOutcome : Prop :=
  ∀ (s : State) (q : Request) (c : Claim) (r : Bin) (it : Item), s.hasRequest .c q → q.kind = .pick → s.wing = .opened →
    let id := byteAt q.body 0
    let i := byteAt q.body 1
    id ≤ 127 → s.claim? id = some c → c.state = .presented → c.items[i]? = some it → it.outcome = .pending →
    s.bin? c.bin = some r →
    let picked (o : ItemOutcome) (r' : Bin) (st : Status) : Prop :=
      let items := c.items.set i { it with outcome := o }
      exec .pick s = .next (State.answered
        { (s.setBin c.bin r').setClaim id { c with items := items, unseen := true } with
          portC := { s.portC with latch := s.portC.latch ||| 8 } } .c q st
        (put8 id ++ put8 i ++ put8 r'.fill ++ put8 r'.reserved
          ++ put8 (items.filter (fun x => decide (x.outcome = .pending))).length))
    (c.kind = .lend → byteAt q.body 2 = 0 → it.units ≤ r.fill →
      picked .taken { r with fill := r.fill - it.units, change := true } .ok)
    ∧ (c.kind = .lend → byteAt q.body 2 = 0 → r.fill < it.units →
      picked .taken { r with fill := 0, change := true, anomaly := true } .clamped)
    ∧ (c.kind = .lend → byteAt q.body 2 = 1 → picked .absent { r with anomaly := true } .ok)
    ∧ (c.kind = .ret → byteAt q.body 2 = 2 →
      picked .placed { r with reserved := r.reserved - it.units, fill := r.fill + it.units, change := true } .ok)

/-- COUNT of a presented AUDIT claim (R36), with the outcomes judged in the order of the manual's table: MATCH clears the
three flags, CORRECTED writes the fill, CLAMPED writes C − reserved and sets the anomaly flag; nothing but the bin record
changes. Fields of the response that R157 gives no type are laid out as log 13 says. That MATCH is judged before CLAMPED, in
the order of the table, is the model's reading (log 44). -/
def Obligations.CountConfirmsTheFill : Prop :=
  ∀ (s : State) (q : Request) (c : Claim) (r : Bin), s.hasRequest .c q → q.kind = .count → s.wing = .opened →
    let id := byteAt q.body 0
    let f := byteAt q.body 1
    id ≤ 127 → s.claim? id = some c → c.state = .presented → c.kind = .audit → s.bin? c.bin = some r →
    let counted (o : Nat) (r' : Bin) (st : Status) : Prop :=
      exec .count s = .next ((s.setBin c.bin r').answered .c q st (put8 o ++ put8 r'.fill))
    (f = r.fill → counted 0 { r with reference := false, change := false, anomaly := false } .ok)
    ∧ (f ≠ r.fill → f + r.reserved ≤ s.params.capacity →
      counted 1 { r with fill := f, anomaly := false, change := true } .ok)
    ∧ (f ≠ r.fill → s.params.capacity < f + r.reserved →
      counted 2 { r with fill := s.params.capacity - r.reserved, change := true, anomaly := true } .clamped)

/-- The end of a PRESENTED claim (R33, R38, R40, R42): RELEASE makes it DONE, CANCEL CANCELLED and the expiry of its dwell
EXPIRED; its PENDING items are settled, the reserved units of withdrawn items come off the bin, the claim leaves the chain,
and the bin, with no other claim waiting, is handed on to a QUEUED STOW of class 4. The crane has no active task here. CANCEL
of a claim that waits behind another (R34, R39): it becomes CANCELLED with its PENDING items settled, leaves the chain and
the backlog, gives back its reserved units, and nothing else changes. Fields of the response that R157 gives no type are laid
out as log 13 says. That the response of CANCEL has an empty body is the model's choice (log 16). -/
def Obligations.AClaimEnds : Prop :=
  (∀ (s : State) (id tid : Nat) (c : Claim) (r : Bin) (p : Pos), id ≤ 127 → s.inReset = false → s.settled →
    s.claim? id = some c → c.state = .presented → s.bin? c.bin = some r → r.chain = [id] →
    r.place = .atStation c.station p → s.stowOf c.bin = none → (s.crane c.station).active = none →
    s.tasks.lowestFree 64 = some tid →
    let ended (t : State) (final : ClaimState) : Prop :=
      t.claim? id = some { c with
        state := final, unseen := true, task := none,
        items := c.items.map (fun i => { i with
          outcome := if i.outcome = .pending then (if c.kind = .ret then .withdrawn else .notCollected)
            else i.outcome }) }
      ∧ (∀ j, j ≠ id → t.claim? j = s.claim? j)
      ∧ t.bin? c.bin = some { r with
          chain := [],
          reserved := r.reserved - (if c.kind = .ret
            then ((c.items.filter (fun i => decide (i.outcome = .pending))).map Item.units).sum else 0) }
      ∧ (∀ b, b ≠ c.bin → t.bin? b = s.bin? b)
      ∧ t.task? tid = some ⟨c.station, .stow, 4, s.wingTime, some c.bin, some (.station p), none, none, [], 0, 0, none,
          .queued, none, .pick, none⟩
      ∧ (∀ j, j ≠ tid → t.task? j = s.task? j) ∧ tid ∈ (t.crane c.station).queue
      ∧ t.backlog = s.backlog.erase id
      ∧ t.lanes = s.lanes ∧ t.stations = s.stations ∧ t.rails = s.rails ∧ t.channels = s.channels
      ∧ t.fires = s.fires ∧ t.shutters = s.shutters ∧ t.search = s.search ∧ t.sweep = s.sweep
      ∧ t.wing = s.wing ∧ t.params = s.params ∧ t.wingTime = s.wingTime ∧ t.pending = s.pending
    (∀ q, s.hasRequest .c q → q.kind = .release → byteAt q.body 0 = id → s.wing = .opened →
      ∃ t, exec .release s = .next t ∧ ended t .done)
    ∧ (∀ q, s.hasRequest .c q → q.kind = .cancel → byteAt q.body 0 = id → s.wing = .opened →
      ∃ t, exec .cancel s = .next t ∧ ended t .cancelled)
    ∧ (c.dwell = 0 → ∃ t, exec (.dwellExpiry id) s = .next t ∧ ended t .expired
        ∧ t.portC.latch.getLsbD NoticeC.dwell.position = true))
  ∧
  (∀ (s : State) (q : Request) (c : Claim) (r : Bin), s.hasRequest .c q → q.kind = .cancel → s.wing = .opened →
    s.settled →
    let id := byteAt q.body 0
    id ≤ 127 → s.claim? id = some c → c.state = .queued → c.task = none → s.bin? c.bin = some r →
    r.chain.head? ≠ some id →
    ∃ t, exec .cancel s = .next t
      ∧ t.claim? id = some { c with
          state := .cancelled, unseen := true,
          items := c.items.map (fun i => { i with
            outcome := if i.outcome = .pending then (if c.kind = .ret then .withdrawn else .notCollected)
              else i.outcome }) }
      ∧ (∀ j, j ≠ id → t.claim? j = s.claim? j)
      ∧ t.bin? c.bin = some { r with
          chain := r.chain.erase id,
          reserved := r.reserved - (if c.kind = .ret
            then ((c.items.filter (fun i => decide (i.outcome = .pending))).map Item.units).sum else 0) }
      ∧ (∀ b, b ≠ c.bin → t.bin? b = s.bin? b)
      ∧ t = State.answered { s with
          claims := t.claims, bins := t.bins, backlog := s.backlog.erase id,
          portC := { s.portC with latch := s.portC.latch ||| 8 } } .c q .ok [])

/-- QUERY_CLAIM in its two forms (R26, R27, R44): the claim's fields, or its item numbers, are answered as they stood; the
unseen-change flag is cleared, a final claim's entry becomes free, and nothing else changes. Fields of the response that R157
gives no type are laid out as log 13 says. That the unseen-change flag is the last field of the body, and that the
item-number form clears it too, is the model's choice (log 17). -/
def Obligations.QueryClaimReadsAndRetires : Prop :=
  ∀ (s : State) (q : Request) (c : Claim), s.hasRequest .c q → q.kind = .queryClaim → byteAt q.body 0 ≤ 127 →
    s.claim? (byteAt q.body 0) = some c →
    let id := byteAt q.body 0
    let read (t : State) (body : List Byte) : Prop :=
      t.claim? id = (if c.state = .done ∨ c.state = .cancelled ∨ c.state = .expired then none
        else some { c with unseen := false })
      ∧ (∀ j, j ≠ id → t.claim? j = s.claim? j)
      ∧ t = State.answered { s with claims := t.claims } .c q .ok body
    (byteAt q.body 1 = 0 → ∃ t, exec .queryClaim s = .next t ∧ read t
      (put8 c.kind.code ++ putFlag c.urgent ++ put8 c.cls ++ put16 c.bin ++ put8 c.station.val ++ put8 c.state.code
        ++ put8 (s.waitReason id c) ++ put32 c.created ++ putTime? c.presented ++ put32 c.dwell ++ put8? c.task
        ++ put8 c.items.length ++ c.items.flatMap (fun i => put8 i.units ++ put8 i.outcome.code) ++ putFlag c.unseen))
    ∧ (byteAt q.body 1 = 1 → ∃ t, exec .queryClaimItems s = .next t ∧ read t
      (put8 c.items.length ++ c.items.flatMap (fun i => putBits i.number)))

/-! ### The placement engine (Chapter 3) -/

/-- PLACE (R52): the checks are made in the manual's order, and the first that fails gives the status and changes nothing; an
accepted PLACE starts pass 1 at cursor 0 with the current weights, no best and no result, and echoes its fields. -/
def Obligations.PlaceStartsASearch : Prop :=
  ∀ (s : State) (q : Request), s.hasRequest .c q → q.kind = .place →
    let u := byteAt q.body 1
    let key := byteAt q.body 2
    let refused (st : Status) : Prop := exec .place s = .next (s.answered .c q st [])
    (s.wing = .loading → refused .wingState)
    ∧ (s.wing = .opened →
      ((3 < byteAt q.body 0 ∨ u = 0 ∨ s.params.capacity < u ∨ 7 < key) → refused .outOfRange)
      ∧ ∀ k : Crane, byteAt q.body 0 = k.val → 1 ≤ u → u ≤ s.params.capacity → key ≤ 7 →
        ((s.station k).keyMask.getLsbD key = false → refused .keyDenied)
        ∧ ((s.station k).keyMask.getLsbD key = true →
          ((s.station k).state = .closed → refused .stationClosed)
          ∧ ((s.station k).state = .shuttered → refused .aisleClosed)
          ∧ ((s.station k).state = .opened → s.search.state = .running → refused .busy)
          ∧ ((s.station k).state = .opened → s.search.state ≠ .running →
            exec .place s = .next (State.answered
              { s with search := ⟨.running, some ⟨k, u, key, longAt q.body 3⟩, 1, 0, none, s.params.weights, none⟩ }
              .c q .accepted (put8 k.val ++ put8 u ++ put8 key ++ putBits (longAt q.body 3))))))

/-- SEARCH_VISIT (R47, R53): a bin that is not a candidate as its record stands moves the cursor alone; a candidate STORED in
a lane becomes the best if there is none or if its placement cost by the pass weights, saturated at 65,535, is strictly
lower; a candidate at the station or carried to it costs 0. Nothing but the search context changes. The pace of the visits is
the model's choice (log 1). -/
def Obligations.SearchVisitJudgesOneBin : Prop :=
  ∀ (s : State) (pr : PlaceRequest), s.inReset = false → s.search.state = .running → s.search.request = some pr →
    s.search.cursor ≤ 8191 →
    let b := s.search.cursor
    let k := pr.station
    let moved (best : Option (Nat × Nat)) : Prop := exec .searchVisit s =
      .next { s with search := { s.search with best := best, cursor := b + 1 } }
    let judged (c : Nat) : Prop :=
      (s.search.best = none → moved (some (b, c)))
      ∧ ∀ x d, s.search.best = some (x, d) → moved (if c < d then some (b, c) else some (x, d))
    (s.bin? b = none → moved s.search.best)
    ∧ ∀ r, s.bin? b = some r →
      let suits : Prop := r.key = pr.key ∧ pr.units ≤ s.params.capacity - r.fill - r.reserved
        ∧ ∀ id ∈ r.chain, ∀ c, s.claim? id = some c → c.kind = .audit → c.state.live = false
      (¬ suits → moved s.search.best)
      ∧ (∀ i, r.place = .stored i →
        (s.params.laneAisle i ≠ aisleOf k → moved s.search.best)
        ∧ (suits → s.params.laneAisle i = aisleOf k → judged (min 65535
            (((s.params.bayMm (aisleOf k) (s.params.laneBay i) - s.params.stationPos[k]).natAbs + 99) / 100
                * s.search.weights.travel
              + s.params.laneLevel i * s.search.weights.level
              + (s.lane i).contents.idxOf b * s.search.weights.depth))))
      ∧ (∀ j p, r.place = .atStation j p →
        (j ≠ k → moved s.search.best) ∧ (suits → j = k → judged 0))
      ∧ (∀ j, r.place = .onCrane j →
        (s.carriedToStation k b = false → moved s.search.best) ∧ (suits → s.carriedToStation k b = true → judged 0))

/-- PASS_COMPLETION (R54, R56): with the station not OPEN the search ends CLOSED; with no best it ends FULL; with a best that
is no candidate at a cost within the recorded one it restarts, or after the third pass ends CONTENDED. PLACE_DONE is latched
at the end, and nothing else changes. -/
def Obligations.PassCompletionWithoutAPlace : Prop :=
  ∀ (s : State) (pr : PlaceRequest), s.inReset = false → s.search.state = .running → s.search.request = some pr →
    s.search.cursor = 8192 →
    let ended (r : PlaceResult) : Prop := exec .passCompletion s =
      .next { s with
        search := { s.search with state := .complete, result := some r },
        portC := { s.portC with latch := s.portC.latch ||| 64 } }
    ((s.station pr.station).state ≠ .opened → ended ⟨some .closed, none, none, none, none⟩)
    ∧ ((s.station pr.station).state = .opened →
      (s.search.best = none → ended ⟨some .full, none, none, none, none⟩)
      ∧ ∀ b cost, s.search.best = some (b, cost) →
        (∀ now, s.candidateCost pr b = some now → cost < now) →
        (s.search.pass < 3 → exec .passCompletion s =
          .next { s with search := { s.search with
            pass := s.search.pass + 1, weights := s.params.weights, cursor := 0, best := none } })
        ∧ (3 ≤ s.search.pass → ended ⟨some .contended, some b, none, some cost, none⟩))

/-! ### The audit unit (Chapter 8) -/

/-- SWEEP (R143): out of range, or with a sweep in being, it is refused and changes nothing; accepted, it writes first and
last, sets the cursor to first, both counts to 0 and the buffer to empty, the state to RUNNING, and echoes first and last. -/
def Obligations.SweepStarts : Prop :=
  ∀ (s : State) (q : Request), s.hasRequest .c q → q.kind = .sweep →
    let first := wordAt q.body 0
    let last := wordAt q.body 2
    ((8191 < first ∨ 8191 < last ∨ last < first) → exec .sweep s = .next (s.answered .c q .outOfRange []))
    ∧ (last ≤ 8191 → first ≤ last → s.sweep.state ≠ .none → exec .sweep s = .next (s.answered .c q .busy []))
    ∧ (last ≤ 8191 → first ≤ last → s.sweep.state = .none →
      exec .sweep s = .next (State.answered { s with sweep := ⟨.running, first, last, first, 0, 0, []⟩ } .c q .ok
        (put16 first ++ put16 last)))

/-- SWEEP_VISIT (R144, R145): an ABSENT bin is skipped; a present one is counted, its reference and change flags are cleared,
and it is appended to the buffer if its change or anomaly flag was set; then the end of the range makes the sweep DONE, else
a full buffer makes it PAUSED, each with SWEEP latched. No other field, record or latch changes. The pace of the visits is
the model's choice (log 1). -/
def Obligations.SweepVisitReportsTheBin : Prop :=
  ∀ s : State, s.inReset = false → s.sweep.state = .running →
    let b := s.sweep.cursor
    let visited (s' : State) : Prop :=
      let full := s'.sweep.buffer.length = 32
      let ended := s.sweep.last ≤ b
      exec .sweepVisit s = .next { s' with
        sweep := { s'.sweep with
          cursor := b + 1, state := if ended then .done else if full then .paused else .running },
        portC := { s.portC with latch := if ended ∨ full then s.portC.latch ||| 128 else s.portC.latch } }
    (s.bin? b = none → visited s)
    ∧ ∀ r, s.bin? b = some r → visited { s.setBin b { r with reference := false, change := false } with
        sweep := { s.sweep with
          visited := s.sweep.visited + 1,
          reported := if r.change = true ∨ r.anomaly = true then s.sweep.reported + 1 else s.sweep.reported,
          buffer := if r.change = true ∨ r.anomaly = true
            then s.sweep.buffer ++ [⟨b, r.reference, r.change, r.anomaly, r.fill⟩] else s.sweep.buffer } }

/-- QUERY_SWEEP (R146, R157): with no sweep it is refused; otherwise up to 12 entries leave the front of the buffer and are
answered as a list after the context as it stood, the number returned and the number left; an emptied PAUSED sweep resumes,
an emptied DONE one is freed. Nothing else changes. CANCEL_SWEEP (R147): with no sweep it is refused; otherwise the context
is freed with its buffer unread, the response carries the cursor, the two counts and the number of entries discarded, and
nothing else changes. Fields of the response that R157 gives no type are laid out as log 13 says. -/
def Obligations.SweepIsReadAndCancelled : Prop :=
  (∀ (s : State) (q : Request), s.hasRequest .c q → q.kind = .querySweep →
    (s.sweep.state = .none → exec .querySweep s = .next (s.answered .c q .noSuch []))
    ∧ (s.sweep.state ≠ .none → ∃ t, exec .querySweep s = .next t
      ∧ t.sweep.buffer = s.sweep.buffer.drop 12
      ∧ t.sweep.state = (match s.sweep.state, s.sweep.buffer.drop 12 with
          | .paused, [] => .running
          | .done, [] => .none
          | st, _ => st)
      ∧ (t.sweep.state ≠ .none → t.sweep = { s.sweep with state := t.sweep.state, buffer := t.sweep.buffer })
      ∧ t = State.answered { s with sweep := t.sweep } .c q .ok
          (put8 s.sweep.state.code ++ put16 s.sweep.first ++ put16 s.sweep.last ++ put16 s.sweep.cursor
            ++ put16 s.sweep.visited ++ put16 s.sweep.reported ++ put8 (min 12 s.sweep.buffer.length)
            ++ put8 (s.sweep.buffer.length - 12) ++ put8 (min 12 s.sweep.buffer.length)
            ++ (s.sweep.buffer.take 12).flatMap SweepEntry.bytes)))
  ∧
  (∀ (s : State) (q : Request), s.hasRequest .c q → q.kind = .cancelSweep →
    (s.sweep.state = .none → exec .cancelSweep s = .next (s.answered .c q .noSuch []))
    ∧ (s.sweep.state ≠ .none → ∃ t, exec .cancelSweep s = .next t ∧ t.sweep.state = .none ∧ t.sweep.buffer = []
      ∧ t = State.answered { s with sweep := t.sweep } .c q .ok
          (put16 s.sweep.cursor ++ put16 s.sweep.visited ++ put16 s.sweep.reported ++ put8 s.sweep.buffer.length)))

/-- SET_LANE_KEYS (R149, R150): lanes are taken in ascending order up to the first busy one; each lane taken and every bin in
its contents has the new key, no lane from the busy one on changes, no bin that is in none of the lanes taken changes, and no
other field of a bin or lane record but a lane's incoming count changes. The response gives the lanes processed, the bins
whose key changed and the resume index, OK when the whole range was processed. A bin stands in one lane alone here. Fields of
the response that R157 gives no type are laid out as log 13 says. Which lanes are busy while a step is redirected is the
model's reading (log 27). -/
def Obligations.SetLaneKeysRekeys : Prop :=
  ∀ (s : State) (q : Request), s.hasRequest .c q → q.kind = .setLaneKeys → s.tablesWf →
    let first := wordAt q.body 0
    let last := wordAt q.body 2
    let key := byteAt q.body 4
    first ≤ last → last < s.params.laneCount → key ≤ 7 →
    (∀ i j b, b ∈ (s.lane i).contents → b ∈ (s.lane j).contents → i = j) → (∀ i, (s.lane i).contents.Nodup) →
    ∀ stop, first ≤ stop → stop ≤ last + 1 → (∀ i, first ≤ i → i < stop → s.laneBusy i = false) →
      (stop ≤ last → s.laneBusy stop = true) →
    let taken (i : Nat) : Prop := first ≤ i ∧ i < stop
    ∃ t, exec .setLaneKeys s = .next t
      ∧ (∀ i, (t.lane i).key = if first ≤ i ∧ i < stop then key else (s.lane i).key)
      ∧ (∀ i, (t.lane i).depth = (s.lane i).depth ∧ (t.lane i).contents = (s.lane i).contents)
      ∧ (∀ i, taken i → ∀ b ∈ (s.lane i).contents,
          t.bin? b = (s.bin? b).map (fun r => { r with key := key }))
      ∧ (∀ b, (∀ i, taken i → b ∉ (s.lane i).contents) → t.bin? b = s.bin? b)
      ∧ t.portC.slot = .holding ⟨if stop = last + 1 then .ok else .partly, BitVec.ofNat 8 q.kind.code, q.tag,
          put16 (stop - first)
            ++ put16 ((List.range (stop - first)).map (fun n => ((s.lane (first + n)).contents.filter (fun b =>
                match s.bin? b with
                | some r => decide (r.key ≠ key)
                | none => false)).length)).sum
            ++ put16 stop⟩
      ∧ t.rails = s.rails ∧ t.channels = s.channels ∧ t.fires = s.fires ∧ t.shutters = s.shutters
      ∧ t.search = s.search ∧ t.sweep = s.sweep ∧ t.wing = s.wing ∧ t.params = s.params
      ∧ t.wingTime = s.wingTime ∧ t.pending = s.pending

/-! ### Crane tasks (Chapter 4) -/

/-- NEXT_STEP of a crane with an active task and no change to deliver (R63, R68): the task, its class cap, its step with the
bin, the location and the rail position, and the entries left to dig are answered, or the yield form while a yield stands;
nothing but the response slot changes. NEXT_STEP with a change to deliver (R31, R62, R77, R78): the marker of undelivered
change becomes none, and the answer is that of the same crane with nothing to deliver. With no backlog nothing else changes;
a PUSH that so ends without a reversal signals the queue slot of the FETCH it made active, and the one claim of the backlog
gets a FETCH. A redirection's slot in the planned lane, kept till now, is given back, and the step is answered at the
station. No BLOCKED task waits here. NEXT_STEP of an idle crane (R48, R63, R64, R66, R68, R82) whose one queued task can be
activated: a STOW in an aisle in NORMAL takes, of the lanes of its aisle with its bin's key and a free slot, the one of
lowest stow cost, then lowest index, and one of its slots; a PARK is taken in any fire state and clears the standing yield; a
HOME is taken for an UNHOMED crane; the destination of either is the park position or home travel limit as it stands. The
task leaves the queue and becomes ACTIVE. Fields of the response that R157 gives no type are laid out as log 13 says. -/
def Obligations.NextStepGivesWork : Prop :=
  (∀ (s : State) (k : Crane) (q : Request) (id : Nat) (t : Task), s.hasRequest (.k k) q → q.kind = .nextStep → s.settled →
    (s.crane k).undelivered = .none → (s.crane k).active = some id → s.task? id = some t →
    (∀ j ∈ id :: (s.crane k).stack, ∀ u, s.task? j = some u → u.redirect = none) →
    let own := put8 id ++ put8 t.kind.code ++ put8 t.cls
      ++ put16 (if t.cls = 0 then s.params.vFire else if t.cls = 1 then s.params.vCreep else s.params.vMax[k])
    let last := put8 (s.rail k).state.code ++ put8 (s.crane k).queue.length ++ putCompleted (s.crane k).lastCompleted
    let answered (form : List Byte) : Prop :=
      exec (.nextStep k) s = .next (s.answered (.k k) q .ok (own ++ form ++ last))
    (∀ y, t.yield = some y →
      answered ([4, 255, 255, 255, 255, 255, 255, 255, 255] ++ putPos y ++ put8 t.digLeft ++ [1]))
    ∧ (t.yield = none → ∀ i, t.place = some (.lane i) →
      answered (put8 t.step.code ++ put16? t.stepBin ++ putLaneAddr s.params i ++ [255, 255]
        ++ putPos (s.params.bayMm (s.params.laneAisle i) (s.params.laneBay i)) ++ put8 t.digLeft ++ [0]))
    ∧ (t.yield = none → ∀ p, t.place = some (.station p) →
      answered (put8 t.step.code ++ put16? t.stepBin ++ [255, 255, 255, 255] ++ put8 k.val ++ put8 p.val
        ++ putPos s.params.stationPos[k] ++ put8 t.digLeft ++ [0]))
    ∧ (t.yield = none → ∀ mm, t.place = some (.rail mm) →
      answered (put8 t.step.code ++ put16? t.stepBin ++ [255, 255, 255, 255, 255, 255] ++ putPos mm
        ++ put8 t.digLeft ++ [0])))
  ∧
  (∀ (s : State) (k : Crane) (q : Request) (id : Nat) (t : Task), s.hasRequest (.k k) q → q.kind = .nextStep → s.settled →
    (s.crane k).active = some id → s.task? id = some t → (∀ e ∈ s.tasks.entries, e.2.state ≠ .blocked) →
    (s.backlog = [] → (∀ j ∈ id :: (s.crane k).stack, ∀ u ∈ s.task? j, u.redirect = none) →
      exec (.nextStep k) s = exec (.nextStep k) (s.modCrane k (fun c => { c with undelivered := .none }))
      ∧ ∃ s', exec (.nextStep k) s = .next s' ∧ s'.crane k = { s.crane k with undelivered := .none }
        ∧ (∀ j, j ≠ k → s'.crane j = s.crane j) ∧ s' = { s with cranes := s'.cranes, portK := s'.portK })
    ∧ (∀ cid c, s.claim? cid = some c → ∀ tid, (s.crane k).undelivered = .push → t.kind = .fetch → s.backlog = [cid] →
        c.station = k → t.cls ≤ c.cls → (s.crane k).queue = [] → s.tasks.lowestFree 64 = some tid →
        (∀ j ∈ id :: (s.crane k).stack, ∀ u ∈ s.task? j, u.redirect = none) →
      ∃ s', exec (.nextStep k) s = .next s' ∧ (s'.crane k).undelivered = .none ∧ s'.backlog = []
        ∧ s'.claim? cid = some { c with task := some tid, unseen := true }
        ∧ s'.task? tid = some ⟨k, .fetch, c.cls, s.wingTime, some c.bin, none, none, some cid, [], 0, 0, none, .queued,
            none, .pick, none⟩
        ∧ (s'.crane k).queue = [tid] ∧ (s'.crane k).active = some id)
    ∧ (∀ r, t.redirect = some r → ∀ i, (s.crane k).undelivered = .redirect → (s.crane k).stack = [] → r.kept = true →
        (t.step = .set ∧ t.dest = some (.lane i) ∨ t.step = .relocSet ∧ t.kind = .relocate ∧ t.dest = some (.lane i)
          ∨ t.step = .relocSet ∧ t.kind = .fetch ∧ t.unfinished.head?.map Prod.snd = some i) → t.yield = none →
      ∃ s', exec (.nextStep k) s = .next s' ∧ (s'.crane k).undelivered = .none
        ∧ s'.task? id = some { t with redirect := some { r with kept := false } } ∧ (∀ j, j ≠ id → s'.task? j = s.task? j)
        ∧ s'.lane i = { s.lane i with incoming := (s.lane i).incoming - 1 } ∧ (∀ j, j ≠ i → s'.lane j = s.lane j)
        ∧ s' = State.answered { s with
            tasks := s'.tasks, lanes := s'.lanes,
            cranes := s.cranes.set k { s.crane k with undelivered := .none } } (.k k) q .ok
          (put8 id ++ put8 t.kind.code ++ put8 t.cls
            ++ put16 (if t.cls = 0 then s.params.vFire else if t.cls = 1 then s.params.vCreep else s.params.vMax[k])
            ++ put8 t.step.code ++ put16? t.stepBin ++ [255, 255, 255, 255] ++ put8 k.val ++ put8 r.pos.val
            ++ putPos s.params.stationPos[k] ++ put8 t.digLeft ++ [0]
            ++ put8 (s.rail k).state.code ++ put8 (s.crane k).queue.length ++ putCompleted (s.crane k).lastCompleted)))
  ∧
  (∀ (s : State) (k : Crane) (q : Request) (id : Nat) (t : Task), s.hasRequest (.k k) q → q.kind = .nextStep → s.settled →
    (s.crane k).undelivered = .none → (s.crane k).active = none → (s.crane k).stack = [] → (s.crane k).queue = [id] →
    s.task? id = some t → t.crane = k → t.state = .queued →
    let taken (s' : State) (t' : Task) : Prop :=
      s'.task? id = some t' ∧ (∀ j, j ≠ id → s'.task? j = s.task? j)
      ∧ (s'.crane k).active = some id ∧ (s'.crane k).queue = [] ∧ (s'.crane k).stack = []
      ∧ (∀ j, j ≠ k → s'.crane j = s.crane j)
      ∧ s' = { s with tasks := s'.tasks, cranes := s'.cranes, lanes := s'.lanes, portK := s'.portK }
    (∀ b r p i, t.kind = .stow → (s.rail k).state = .ready → (s.fire (aisleOf k)).state = .normal →
      (s.crane k).standingYield = none → t.bin = some b → s.bin? b = some r → r.place = .atStation k p →
      let open' (j : Nat) : Prop := j < s.params.laneCount ∧ s.params.laneAisle j = aisleOf k
        ∧ (s.lane j).key = r.key ∧ (s.lane j).contents.length + (s.lane j).incoming < (s.lane j).depth
      let price (j : Nat) : Nat := min 65535
        (((s.params.bayMm (aisleOf k) (s.params.laneBay j) - s.params.stationPos[k]).natAbs + 99) / 100
            * s.params.weights.travel
          + s.params.laneLevel j * s.params.weights.level
          + ((s.lane j).contents.length + (s.lane j).incoming) * s.params.weights.depth)
      open' i → (∀ j, open' j → price i < price j ∨ (price i = price j ∧ i ≤ j)) →
      ∃ s', exec (.nextStep k) s = .next s'
        ∧ taken s' { t with
            state := .active, block := none, step := .pick, dest := some (.lane i), source := some (.station p) }
        ∧ s'.lane i = { s.lane i with incoming := (s.lane i).incoming + 1 } ∧ (∀ j, j ≠ i → s'.lane j = s.lane j))
    ∧ (t.kind = .park → ((s.rail k).state = .ready ∨ (s.rail k).state = .unhomed) →
      ((s.fire (aisleOf k)).state = .normal → (s.crane k).standingYield = none) →
      ∃ s', exec (.nextStep k) s = .next s'
        ∧ taken s' { t with
            state := .active, block := none, step := .travel, dest := some (.rail s.params.parkPos[k]) }
        ∧ s'.lanes = s.lanes ∧ (s'.crane k).standingYield = none)
    ∧ (t.kind = .home → (s.rail k).state = .unhomed → (s.fire (aisleOf k)).state = .normal →
      (s.crane k).standingYield = none →
      ∃ s', exec (.nextStep k) s = .next s'
        ∧ taken s' { t with
            state := .active, block := none, step := .travel,
            dest := some (.rail (if isWest k then s.params.tmin[k] else s.params.tmax[k])) }
        ∧ s'.lanes = s.lanes))

/-- NEXT_STEP that activates a FETCH of a STORED bin in a quiet lane (R49, R65, R72): the task promises the free station
position, holds every free slot of its source lane, makes its claim FETCHING, and starts at PICK for a bin at the front, or
at RELOC_PICK of the one bin in front of it, bound, of the other lanes of its aisle with that bin's key and a free slot, for
the one of lowest relocation cost, then lowest index, which loses a slot. -/
def Obligations.NextStepActivatesAFetch : Prop :=
  ∀ (s : State) (k : Crane) (q : Request) (id b src cid : Nat) (t : Task) (r : Bin) (c : Claim) (p : Pos)
    (rest : List Nat), s.hasRequest (.k k) q → q.kind = .nextStep → s.settled → s.backlog = [] →
    (s.crane k).undelivered = .none → (s.crane k).active = none → (s.crane k).stack = [] →
    (s.crane k).standingYield = none → (s.crane k).queue = [id] → (s.rail k).state = .ready →
    (s.fire (aisleOf k)).state = .normal → s.task? id = some t → t.crane = k → t.state = .queued → t.kind = .fetch →
    t.bin = some b → t.claim = some cid → s.claim? cid = some c → c.state = .queued → s.bin? b = some r →
    r.place = .stored src → (s.lane src).incoming = 0 → s.isFetchSource src = false →
    (s.station k).freePos = some p →
    let free := (s.lane src).depth - (s.lane src).contents.length
    let active (s' : State) (dig : List (Nat × Nat)) (step : TaskStep) : Prop :=
      s'.task? id = some { t with
        state := .active, block := none, source := some (.lane src), dest := some (.station p), dig := dig,
        digLeft := dig.length, hold := free, step := step }
      ∧ (∀ j, j ≠ id → s'.task? j = s.task? j)
      ∧ (s'.crane k).active = some id ∧ (s'.crane k).queue = []
      ∧ s'.station k = { s.station k with promises := (s.station k).promises.set p (some id) }
      ∧ (∀ j, j ≠ k → s'.station j = s.station j)
      ∧ (s'.lane src).incoming = free ∧ (s'.lane src).contents = (s.lane src).contents
      ∧ s'.claim? cid = some { c with state := .fetching, unseen := true }
      ∧ (∀ j, j ≠ cid → s'.claim? j = s.claim? j)
      ∧ s' = { s with
          tasks := s'.tasks, cranes := s'.cranes, lanes := s'.lanes, stations := s'.stations, claims := s'.claims,
          portC := s'.portC, portK := s'.portK }
    ((s.lane src).contents = b :: rest → ∃ s', exec (.nextStep k) s = .next s' ∧ active s' [] .pick
        ∧ ∀ j, j ≠ src → s'.lane j = s.lane j)
    ∧ (∀ x i y, (s.lane src).contents = x :: b :: rest → x ≠ b → s.bin? x = some y →
      let open' (j : Nat) : Prop := j < s.params.laneCount ∧ s.params.laneAisle j = s.params.laneAisle src ∧ j ≠ src
        ∧ (s.lane j).key = y.key ∧ (s.lane j).contents.length + (s.lane j).incoming < (s.lane j).depth
      let price (j : Nat) : Nat := min 65535
        (((s.params.lanePos j - s.params.lanePos src).natAbs + 99) / 100 * s.params.weights.travel
          + ((s.params.laneLevel j : Int) - (s.params.laneLevel src : Int)).natAbs * s.params.weights.level
          + ((s.lane j).contents.length + (s.lane j).incoming) * s.params.weights.depth)
      open' i → (∀ j, open' j → price i < price j ∨ (price i = price j ∧ i ≤ j)) →
      ∃ s', exec (.nextStep k) s = .next s' ∧ active s' [(x, i)] .relocPick
        ∧ s'.lane i = { s.lane i with incoming := (s.lane i).incoming + 1 }
        ∧ ∀ j, j ≠ src → j ≠ i → s'.lane j = s.lane j)

/-- PICKED from a lane (R8, R10, R69, R72): the bin leaves the front of its lane for the fork with its reference flag set,
the capture is consumed, and the response carries the new step; no other bin, lane contents, rail or fire record changes.
With no BLOCKED task to re-examine, RELOC_PICK becomes RELOC_SET and the freed slot joins the source hold, PICK becomes SET
and the hold is given back, the bin's head claim is no longer in the backlog (R31), and of the rest only the response slot
changes. PICKED at a station (R8, R69): the bin leaves its position for the fork with its reference flag set, the position is
emptied, the capture is consumed and the step becomes SET; with no BLOCKED task to re-examine the bin's head claim leaves the
backlog, and of the rest only the response slot changes. PICKED while a preemption is undelivered (R69, R72, R77): it is
judged against the top of the stack. Under PUSH, in an aisle in NORMAL, one that passes reverses the preemption: the active
FETCH or STOW goes back to the queue, QUEUED, and gives back its promise, its slots and its source hold in every lane; the
suspended task is ACTIVE again and takes the pick. Under PARK_PUSH the pick is applied to the SUSPENDED task and no task
changes its state. The bin stands at the front of its lane, no task is BLOCKED, and the claim of the suspended task is
FETCHING. A returned task has no yield target (log 46). PICKED of a STOW at its station while a preemption is undelivered
(R69, R77): under PUSH, in NORMAL, the preemption is reversed as at a lane; under PARK_PUSH the SUSPENDED STOW takes the
pick. The position is emptied. No task is BLOCKED. Fields of the response that R157 gives no type are laid out as log 13
says. -/
def Obligations.PickedTakesTheBin : Prop :=
  (∀ (s : State) (k : Crane) (q : Request) (id b i : Nat) (t : Task) (r : Bin), s.hasRequest (.k k) q → q.kind = .picked →
    s.settled → wordAt q.body 0 = b → (s.crane k).undelivered = .none ∨ (s.crane k).undelivered = .redirect →
    (s.crane k).active = some id → s.task? id = some t → (t.step = .relocPick ∨ t.step = .pick) → s.fork k = none →
    t.stepBin = some b → t.source = some (.lane i) → (s.lane i).contents.head? = some b → s.bin? b = some r →
    r.place = .stored i → (s.channel k).pick.valid = true →
    (((s.channel k).pick.pos - s.params.bayMm (s.params.laneAisle i) (s.params.laneBay i)).natAbs : Int)
      ≤ s.params.tPick →
    let new : TaskStep := if t.step = .relocPick then .relocSet else .set
    ∃ s', exec (.picked k) s = .next s'
      ∧ s'.bin? b = some { r with place := .onCrane k, reference := true } ∧ (∀ c, c ≠ b → s'.bin? c = s.bin? c)
      ∧ (∀ j, (s'.lane j).contents = if j = i then (s.lane i).contents.tail else (s.lane j).contents)
      ∧ s'.channel k = { s.channel k with pick := { (s.channel k).pick with valid := false } }
      ∧ (∀ j, j ≠ k → s'.channel j = s.channel j)
      ∧ (s'.port (.k k)).slot = .holding ⟨.ok, BitVec.ofNat 8 q.kind.code, q.tag, put8 new.code⟩
      ∧ s'.rails = s.rails ∧ s'.fires = s.fires ∧ s'.shutters = s.shutters ∧ s'.search = s.search
      ∧ s'.sweep = s.sweep ∧ s'.wing = s.wing ∧ s'.params = s.params ∧ s'.wingTime = s.wingTime
      ∧ s'.pending = s.pending
      ∧ ((∀ e ∈ s.tasks.entries, e.2.state ≠ .blocked) →
          s'.task? id = some { t with step := new, hold := if t.step = .relocPick then t.hold + 1 else 0 }
          ∧ (∀ j, j ≠ id → s'.task? j = s.task? j)
          ∧ (s'.lane i).incoming = (if t.step = .relocPick then (s.lane i).incoming + 1
              else (s.lane i).incoming - t.hold)
          ∧ (∀ j, j ≠ i → s'.lane j = s.lane j)
          ∧ s' = State.answered { s with
              bins := s'.bins, lanes := s'.lanes, tasks := s'.tasks, channels := s'.channels,
              backlog := match r.chain with
                | [] => s.backlog
                | h :: _ => s.backlog.erase h } (.k k) q .ok (put8 new.code)))
  ∧
  (∀ (s : State) (k : Crane) (q : Request) (id b : Nat) (p : Pos) (t : Task) (r : Bin), s.hasRequest (.k k) q →
    q.kind = .picked → s.settled → wordAt q.body 0 = b →
    (s.crane k).undelivered = .none ∨ (s.crane k).undelivered = .redirect → (s.crane k).active = some id →
    s.task? id = some t → t.step = .pick → s.fork k = none → t.bin = some b → t.source = some (.station p) →
    (s.station k).bins[p] = some b → s.bin? b = some r → r.place = .atStation k p → (s.channel k).pick.valid = true →
    (((s.channel k).pick.pos - s.params.stationPos[k]).natAbs : Int) ≤ s.params.tPick →
    ∃ s', exec (.picked k) s = .next s'
      ∧ s'.bin? b = some { r with place := .onCrane k, reference := true } ∧ (∀ c, c ≠ b → s'.bin? c = s.bin? c)
      ∧ (∀ j : Crane, (s'.station j).bins = if j = k then (s.station k).bins.set p none else (s.station j).bins)
      ∧ s'.channel k = { s.channel k with pick := { (s.channel k).pick with valid := false } }
      ∧ (∀ j, j ≠ k → s'.channel j = s.channel j)
      ∧ (s'.port (.k k)).slot = .holding ⟨.ok, BitVec.ofNat 8 q.kind.code, q.tag, put8 TaskStep.set.code⟩
      ∧ s'.rails = s.rails ∧ s'.fires = s.fires ∧ s'.shutters = s.shutters ∧ s'.search = s.search
      ∧ s'.sweep = s.sweep ∧ s'.wing = s.wing ∧ s'.params = s.params ∧ s'.wingTime = s.wingTime
      ∧ s'.pending = s.pending
      ∧ ((∀ e ∈ s.tasks.entries, e.2.state ≠ .blocked) →
          s'.task? id = some { t with step := .set } ∧ (∀ j, j ≠ id → s'.task? j = s.task? j)
          ∧ (∀ j, s'.station j = { s.station j with bins := (s'.station j).bins })
          ∧ s' = State.answered { s with
              bins := s'.bins, stations := s'.stations, tasks := s'.tasks, channels := s'.channels,
              backlog := match r.chain with
                | [] => s.backlog
                | h :: _ => s.backlog.erase h } (.k k) q .ok (put8 TaskStep.set.code)))
  ∧
  (∀ (s : State) (k : Crane) (q : Request) (new old b i : Nat) (t o : Task) (r : Bin) (rest : List Nat),
    s.hasRequest (.k k) q → q.kind = .picked → s.settled → wordAt q.body 0 = b → s.backlog = [] →
    (s.crane k).active = some new → (s.crane k).stack = old :: rest → (s.crane k).queue = [] → new ≠ old →
    s.task? new = some t → s.task? old = some o → t.crane = k → o.crane = k → t.cls < o.cls →
    t.state = .active → t.redirect = none → (∀ c ∈ o.claim, ∀ x ∈ s.claim? c, x.state = .fetching) →
    (∀ e ∈ s.tasks.entries, e.2.state ≠ .blocked) → (o.step = .relocPick ∨ o.step = .pick) → o.yield = none →
    s.fork k = none → o.stepBin = some b → o.source = some (.lane i) → (s.lane i).contents.head? = some b →
    s.bin? b = some r → r.place = .stored i → (s.channel k).pick.valid = true →
    (((s.channel k).pick.pos - s.params.bayMm (s.params.laneAisle i) (s.params.laneBay i)).natAbs : Int)
      ≤ s.params.tPick →
    let step : TaskStep := if o.step = .relocPick then .relocSet else .set
    let picked (s' : State) (o' : Task) : Prop :=
      s'.bin? b = some { r with place := .onCrane k, reference := true } ∧ (∀ c, c ≠ b → s'.bin? c = s.bin? c)
      ∧ s'.task? old = some { o' with step := step, hold := if o.step = .relocPick then o.hold + 1 else 0 }
      ∧ (∀ j, j ≠ old → j ≠ new → s'.task? j = s.task? j)
      ∧ s'.channel k = { s.channel k with pick := { (s.channel k).pick with valid := false } }
      ∧ (s'.port (.k k)).slot = .holding ⟨.ok, BitVec.ofNat 8 q.kind.code, q.tag, put8 step.code⟩
      ∧ s'.claims = s.claims ∧ s'.rails = s.rails ∧ s'.fires = s.fires ∧ s'.params = s.params ∧ s'.wing = s.wing
    let taken (l : Lane) : Lane := { l with
      contents := l.contents.tail, incoming := if o.step = .relocPick then l.incoming + 1 else l.incoming - o.hold }
    ((s.crane k).undelivered = .push → (s.fire (aisleOf k)).state = .normal → t.kind = .fetch ∨ t.kind = .stow →
      ∃ s', exec (.picked k) s = .next s' ∧ picked s' { o with state := .active }
        ∧ s'.task? new = some { t with
            state := .queued, dest := none, dig := [], digLeft := 0, hold := 0, step := .pick, yield := none,
            source := if t.kind = .fetch then none else t.source }
        ∧ (s'.crane k).active = some old ∧ (s'.crane k).stack = rest ∧ (s'.crane k).queue = [new]
        ∧ (s'.crane k).undelivered = .none ∧ (∀ j, j ≠ k → s'.crane j = s.crane j)
        ∧ (∀ j, s'.lane j = (if j = i then taken else id) { s.lane j with incoming := (s.lane j).incoming - t.slotsIn j })
        ∧ (∀ j : Crane, (s'.station j).bins = (s.station j).bins)
        ∧ ∀ (j : Crane) (p : Pos), (s'.station j).promises[p]
            = if j = k ∧ t.kind = .fetch ∧ (s.station k).promises[p] = some new then none else (s.station j).promises[p])
    ∧ ((s.crane k).undelivered = .parkPush →
      ∃ s', exec (.picked k) s = .next s' ∧ picked s' o ∧ s'.task? new = some t
        ∧ (∀ j, s'.lane j = (if j = i then taken else id) (s.lane j))
        ∧ s'.cranes = s.cranes ∧ s'.stations = s.stations))
  ∧
  (∀ (s : State) (k : Crane) (q : Request) (new old b : Nat) (p : Pos) (t o : Task) (r : Bin) (rest : List Nat),
    s.hasRequest (.k k) q → q.kind = .picked → s.settled → wordAt q.body 0 = b → s.backlog = [] →
    (s.crane k).active = some new → (s.crane k).stack = old :: rest → (s.crane k).queue = [] → new ≠ old →
    s.task? new = some t → s.task? old = some o → t.crane = k → o.crane = k → t.cls < o.cls →
    t.state = .active → t.redirect = none → (∀ e ∈ s.tasks.entries, e.2.state ≠ .blocked) →
    o.kind = .stow → o.step = .pick → o.yield = none → s.fork k = none → o.bin = some b →
    o.source = some (.station p) → (s.station k).bins[p] = some b → s.bin? b = some r → r.place = .atStation k p →
    (s.channel k).pick.valid = true →
    (((s.channel k).pick.pos - s.params.stationPos[k]).natAbs : Int) ≤ s.params.tPick →
    let picked (s' : State) (o' : Task) : Prop :=
      s'.bin? b = some { r with place := .onCrane k, reference := true } ∧ (∀ c, c ≠ b → s'.bin? c = s.bin? c)
      ∧ s'.task? old = some { o' with step := .set } ∧ (∀ j, j ≠ old → j ≠ new → s'.task? j = s.task? j)
      ∧ (∀ j : Crane, (s'.station j).bins = if j = k then (s.station k).bins.set p none else (s.station j).bins)
      ∧ s'.channel k = { s.channel k with pick := { (s.channel k).pick with valid := false } }
      ∧ (s'.port (.k k)).slot = .holding ⟨.ok, BitVec.ofNat 8 q.kind.code, q.tag, put8 TaskStep.set.code⟩
      ∧ s'.claims = s.claims ∧ s'.rails = s.rails ∧ s'.fires = s.fires ∧ s'.params = s.params ∧ s'.wing = s.wing
    ((s.crane k).undelivered = .push → (s.fire (aisleOf k)).state = .normal → t.kind = .fetch ∨ t.kind = .stow →
      ∃ s', exec (.picked k) s = .next s' ∧ picked s' { o with state := .active }
        ∧ s'.task? new = some { t with
            state := .queued, dest := none, dig := [], digLeft := 0, hold := 0, step := .pick, yield := none,
            source := if t.kind = .fetch then none else t.source }
        ∧ (s'.crane k).active = some old ∧ (s'.crane k).stack = rest ∧ (s'.crane k).queue = [new]
        ∧ (s'.crane k).undelivered = .none ∧ (∀ j, j ≠ k → s'.crane j = s.crane j)
        ∧ (∀ j, s'.lane j = { s.lane j with incoming := (s.lane j).incoming - t.slotsIn j })
        ∧ ∀ (j : Crane) (x : Pos), (s'.station j).promises[x]
            = if j = k ∧ t.kind = .fetch ∧ (s.station k).promises[x] = some new then none else (s.station j).promises[x])
    ∧ ((s.crane k).undelivered = .parkPush →
      ∃ s', exec (.picked k) s = .next s' ∧ picked s' o ∧ s'.task? new = some t ∧ s'.lanes = s.lanes
        ∧ s'.cranes = s.cranes ∧ ∀ j : Crane, (s'.station j).promises = (s.station j).promises))

/-- SET_DOWN in the planned lane (R8, R70, R73): the bin joins the front of the lane, the falling capture is consumed, and no
other bin, lane contents, rail or fire record changes. For a crane with no other work and no BLOCKED task, a lane slot of the
task is used up; a FETCH goes on to its next blocking bin or its own pick, and a STOW or RELOCATE completes and is recorded.
SET_DOWN of a FETCH at its station (R8, R23, R32, R43, R70): the bin stands at the promised position, whose promise is
consumed; the claim is PRESENTED, or HELD at a SHUTTERED station, with its dwell at D, and loses its task; the FETCH
completes. The crane has no other work here. SET_DOWN of a redirected step (R23, R32, R43, R70, R78), with the crane at no
other work and no task BLOCKED. Within T_pick of the station it is taken there: the bin stands at the promised position, the
slot still kept in the planned lane is given back, the claim is PRESENTED, or HELD at a SHUTTERED station, and loses the
task; a STOW or RELOCATE completes, a FETCH goes on with its next entry. Within T_pick of the planned lane alone, while its
slot is kept, the bin is stored there, the promise is released, and the claim is QUEUED and placed again with a FETCH.
SET_DOWN under PARK_PUSH (R77): it is judged against the top of the stack and applied to that SUSPENDED task without a
reversal. A STOW that it completes leaves the stack and is recorded as completed, and the active task goes on. No task is
BLOCKED, and the crane's queue is empty. Fields of the response that R157 gives no type are laid out as log 13 says. -/
def Obligations.SetDownPlacesTheBin : Prop :=
  (∀ (s : State) (k : Crane) (q : Request) (id b i : Nat) (t : Task) (r : Bin), s.hasRequest (.k k) q → q.kind = .setDown →
    s.settled → (s.crane k).undelivered = .none ∨ (s.crane k).undelivered = .redirect →
    (s.crane k).active = some id → s.task? id = some t → (t.step = .relocSet ∨ t.step = .set) → s.fork k = some b →
    t.stepBin = some b → t.redirect = none → t.place = some (.lane i) → s.bin? b = some r →
    (s.channel k).setDown.valid = true →
    (((s.channel k).setDown.pos - s.params.bayMm (s.params.laneAisle i) (s.params.laneBay i)).natAbs : Int)
      ≤ s.params.tPick →
    let goesOn : Prop := t.kind = .fetch ∧ t.step = .relocSet
    let next : TaskStep := if t.digLeft ≤ 1 then .pick else .relocPick
    ∃ s', exec (.setDown k) s = .next s'
      ∧ s'.bin? b = some { r with place := .stored i } ∧ (∀ c, c ≠ b → s'.bin? c = s.bin? c)
      ∧ (∀ j, (s'.lane j).contents = if j = i then b :: (s.lane i).contents else (s.lane j).contents)
      ∧ s'.channel k = { s.channel k with setDown := { (s.channel k).setDown with valid := false } }
      ∧ (∀ j, j ≠ k → s'.channel j = s.channel j)
      ∧ (goesOn → (s'.port (.k k)).slot = .holding ⟨.ok, BitVec.ofNat 8 q.kind.code, q.tag, put8 next.code⟩)
      ∧ (¬ goesOn → (s'.port (.k k)).slot = .holding ⟨.ok, BitVec.ofNat 8 q.kind.code, q.tag, [255]⟩)
      ∧ s'.rails = s.rails ∧ s'.fires = s.fires ∧ s'.shutters = s.shutters ∧ s'.search = s.search
      ∧ s'.sweep = s.sweep ∧ s'.wing = s.wing ∧ s'.params = s.params ∧ s'.wingTime = s.wingTime
      ∧ s'.pending = s.pending
      ∧ ((∀ e ∈ s.tasks.entries, e.2.state ≠ .blocked) → (s.crane k).queue = [] → (s.crane k).stack = [] →
          t.crane = k → r.chain = [] →
          (s'.lane i).incoming = (s.lane i).incoming - 1 ∧ (∀ j, j ≠ i → s'.lane j = s.lane j)
          ∧ (∀ j, j ≠ id → s'.task? j = s.task? j)
          ∧ (goesOn → s'.task? id = some { t with digLeft := t.digLeft - 1, step := next }
              ∧ (s'.crane k).active = some id)
          ∧ (¬ goesOn → s'.task? id = none ∧ (s'.crane k).active = none
              ∧ (s'.crane k).lastCompleted = some (id, t.kind))
          ∧ s' = { s with
              bins := s'.bins, lanes := s'.lanes, tasks := s'.tasks, cranes := s'.cranes, channels := s'.channels,
              portK := s'.portK }))
  ∧
  (∀ (s : State) (k : Crane) (q : Request) (id b cid : Nat) (p : Pos) (t : Task) (r : Bin) (c : Claim),
    s.hasRequest (.k k) q → q.kind = .setDown → s.settled → (s.crane k).undelivered = .none →
    (s.crane k).active = some id → (s.crane k).queue = [] → (s.crane k).stack = [] → s.task? id = some t →
    t.crane = k → t.kind = .fetch → t.step = .set → s.fork k = some b → t.bin = some b → t.redirect = none →
    t.dest = some (.station p) → t.claim = some cid → s.claim? cid = some c → c.station = k → s.bin? b = some r →
    (s.channel k).setDown.valid = true →
    (((s.channel k).setDown.pos - s.params.stationPos[k]).natAbs : Int) ≤ s.params.tPick →
    ∃ s', exec (.setDown k) s = .next s'
      ∧ s'.bin? b = some { r with place := .atStation k p } ∧ (∀ x, x ≠ b → s'.bin? x = s.bin? x)
      ∧ s'.station k = { s.station k with
          bins := (s.station k).bins.set p (some b), promises := (s.station k).promises.set p none }
      ∧ (∀ j, j ≠ k → s'.station j = s.station j)
      ∧ s'.claim? cid = some { c with
          state := if (s.station k).state = .shuttered then .held else .presented,
          presented := some s.wingTime, dwell := s.params.dwell * 1000, unseen := true, task := none }
      ∧ (∀ j, j ≠ cid → s'.claim? j = s.claim? j)
      ∧ s'.task? id = none ∧ (∀ j, j ≠ id → s'.task? j = s.task? j)
      ∧ (s'.crane k).active = none ∧ (s'.crane k).lastCompleted = some (id, .fetch)
      ∧ s'.channel k = { s.channel k with setDown := { (s.channel k).setDown with valid := false } }
      ∧ s' = State.answered { s with
          bins := s'.bins, stations := s'.stations, claims := s'.claims, tasks := s'.tasks, cranes := s'.cranes,
          channels := s'.channels, portC := { s.portC with latch := s.portC.latch ||| 8 } } (.k k) q .ok [255])
  ∧
  (∀ (s : State) (k : Crane) (q : Request) (id b i cid : Nat) (p : Pos) (kept : Bool) (t : Task) (r : Bin) (c : Claim)
    (chain : List Nat), s.hasRequest (.k k) q → q.kind = .setDown → s.settled →
    (s.crane k).undelivered = .none ∨ (s.crane k).undelivered = .redirect → (s.crane k).active = some id →
    (s.crane k).queue = [] → (s.crane k).stack = [] → (∀ e ∈ s.tasks.entries, e.2.state ≠ .blocked) →
    s.task? id = some t → t.crane = k → t.redirect = some ⟨some cid, p, kept⟩ → s.fork k = some b → s.bin? b = some r →
    r.chain = cid :: chain → s.claim? cid = some c → c.bin = b → c.station = k → c.task = some id →
    (t.kind = .stow ∧ t.step = .set ∧ t.bin = some b ∧ t.dest = some (.lane i)
      ∨ t.kind = .relocate ∧ t.step = .relocSet ∧ t.bin = some b ∧ t.dest = some (.lane i)
      ∨ t.kind = .fetch ∧ t.step = .relocSet ∧ t.unfinished.head? = some (b, i)) →
    (s.channel k).setDown.valid = true →
    let near (x : Int) : Prop := (((s.channel k).setDown.pos - x).natAbs : Int) ≤ s.params.tPick
    let lane := s.params.bayMm (s.params.laneAisle i) (s.params.laneBay i)
    let next : TaskStep := if t.digLeft ≤ 1 then .pick else .relocPick
    let advanced (s' : State) : Prop := (∀ x, x ≠ b → s'.bin? x = s.bin? x) ∧ (∀ j, j ≠ cid → s'.claim? j = s.claim? j)
      ∧ (∀ j, j ≠ i → s'.lane j = s.lane j) ∧ (s'.channel k).setDown.valid = false
      ∧ s'.rails = s.rails ∧ s'.fires = s.fires ∧ s'.shutters = s.shutters ∧ s'.wing = s.wing ∧ s'.params = s.params
      ∧ (if t.kind = .fetch then
            s'.task? id = some { t with digLeft := t.digLeft - 1, step := next, redirect := none }
            ∧ (s'.crane k).active = some id
            ∧ (s'.port (.k k)).slot = .holding ⟨.ok, BitVec.ofNat 8 q.kind.code, q.tag, put8 next.code⟩
          else s'.task? id = none ∧ (s'.crane k).active = none ∧ (s'.crane k).lastCompleted = some (id, t.kind)
            ∧ (s'.port (.k k)).slot = .holding ⟨.ok, BitVec.ofNat 8 q.kind.code, q.tag, [255]⟩)
    (near (s.params.stationPos[k]) →
      ∃ s', exec (.setDown k) s = .next s' ∧ advanced s'
        ∧ s'.bin? b = some { r with place := .atStation k p }
        ∧ s'.station k = { s.station k with
            bins := (s.station k).bins.set p (some b), promises := (s.station k).promises.set p none }
        ∧ (s'.lane i).contents = (s.lane i).contents
        ∧ (s'.lane i).incoming = (if kept = true then (s.lane i).incoming - 1 else (s.lane i).incoming)
        ∧ s'.claim? cid = some { c with
            state := if (s.station k).state = .shuttered then .held else .presented,
            presented := some s.wingTime, dwell := s.params.dwell * 1000, unseen := true, task := none }
        ∧ (∀ j, j ≠ id → s'.task? j = s.task? j) ∧ (s'.crane k).queue = [])
    ∧ (∀ tid, ¬ near (s.params.stationPos[k]) → near lane → kept = true → s.backlog = [] →
        s.spareFetch b k = none → s.tasks.lowestFree 64 = some tid → t.cls ≤ c.cls →
      ∃ s', exec (.setDown k) s = .next s' ∧ advanced s'
        ∧ s'.bin? b = some { r with place := .stored i }
        ∧ s'.station k = { s.station k with promises := (s.station k).promises.set p none }
        ∧ (s'.lane i).contents = b :: (s.lane i).contents ∧ (s'.lane i).incoming = (s.lane i).incoming - 1
        ∧ s'.claim? cid = some { c with state := .queued, unseen := true, task := some tid }
        ∧ s'.task? tid = some ⟨k, .fetch, c.cls, s.wingTime, some b, none, none, some cid, [], 0, 0, none, .queued,
            none, .pick, none⟩
        ∧ (∀ j, j ≠ id → j ≠ tid → s'.task? j = s.task? j) ∧ (s'.crane k).queue = [tid])
    ∧ (¬ near (s.params.stationPos[k]) → (kept = false ∨ ¬ near lane) → (s.rail k).state = .ready →
      ∃ s', exec (.setDown k) s = .next s' ∧ s'.bins = s.bins ∧ s'.tasks = s.tasks ∧ s'.lanes = s.lanes
        ∧ s'.stations = s.stations ∧ s'.claims = s.claims ∧ (s'.rail k).state = .stopped
        ∧ (s'.rail k).stopCause = .mismatch
        ∧ (s'.port (.k k)).slot = .holding ⟨.mismatch, BitVec.ofNat 8 q.kind.code, q.tag, []⟩))
  ∧
  (∀ (s : State) (k : Crane) (q : Request) (new old b i : Nat) (t o : Task) (r : Bin) (rest : List Nat),
    s.hasRequest (.k k) q → q.kind = .setDown → s.settled → (s.crane k).undelivered = .parkPush →
    (s.crane k).active = some new → s.task? new = some t → (s.crane k).stack = old :: rest → new ≠ old → old ∉ rest →
    (s.crane k).queue = [] → (∀ e ∈ s.tasks.entries, e.2.state ≠ .blocked) → s.task? old = some o → o.crane = k →
    o.kind = .stow → o.step = .set → o.redirect = none → o.bin = some b → o.dest = some (.lane i) → s.fork k = some b →
    s.bin? b = some r → r.chain = [] → (s.channel k).setDown.valid = true →
    (((s.channel k).setDown.pos - s.params.bayMm (s.params.laneAisle i) (s.params.laneBay i)).natAbs : Int)
      ≤ s.params.tPick →
    ∃ s', exec (.setDown k) s = .next s'
      ∧ s'.bin? b = some { r with place := .stored i } ∧ (∀ x, x ≠ b → s'.bin? x = s.bin? x)
      ∧ (s'.lane i).contents = b :: (s.lane i).contents ∧ (s'.lane i).incoming = (s.lane i).incoming - 1
      ∧ (∀ j, j ≠ i → s'.lane j = s.lane j)
      ∧ s'.task? old = none ∧ (∀ j, j ≠ old → s'.task? j = s.task? j)
      ∧ (s'.crane k).active = some new ∧ (s'.crane k).stack = rest ∧ (s'.crane k).lastCompleted = some (old, .stow)
      ∧ s'.claims = s.claims ∧ s'.rails = s.rails ∧ s'.fires = s.fires ∧ s'.stations = s.stations)

/-- A crane report with no task to judge it against (R71, R77, R107), because the crane has no active task, or its active
task was removed before its master was told, or PUSH or PARK_PUSH stands over an empty stack, or a PICKED that would reverse
a preemption outside NORMAL: PICKED and SET_DOWN are answered with MISMATCH, the capture is consumed, and a READY crane
becomes STOPPED with cause MISMATCH, its grants cleared and CRANE_FAULT latched; no bin, lane, station, task or claim record
changes. That a SET DOWN so answered leaves the room refusal flag is the model's choice (log 56). -/
def Obligations.AReportWithoutATaskStopsTheCrane : Prop :=
  ∀ (s : State) (k : Crane) (q : Request), s.hasRequest (.k k) q → s.settled → (s.rail k).state = .ready →
    let pushed : Prop := (s.crane k).undelivered = .push ∨ (s.crane k).undelivered = .parkPush
    ((s.crane k).active = none ∧ ¬ pushed ∨ (s.crane k).undelivered = .removed ∨ (s.crane k).stack = [] ∧ pushed
      ∨ (s.crane k).undelivered = .push ∧ q.kind = .picked ∧ (s.fire (aisleOf k)).state ≠ .normal) →
    let stopped (t : State) : Prop :=
      t.rail k = { s.rail k with
        state := .stopped, silentFrom := none, stopCause := .mismatch, granted := none, pending := none }
      ∧ (∀ j, j ≠ k → t.rail j = s.rail j) ∧ (∀ j, j ≠ k → t.channel j = s.channel j)
      ∧ t.portC.latch = s.portC.latch ||| 2 ∧ t.sources.craneFault.getLsbD k.val = true
      ∧ ((s.rail k).fireHold = false → (t.port (.k k)).latch.getLsbD NoticeK.stop.position = true)
      ∧ (t.port (.k k)).slot = .holding ⟨.mismatch, BitVec.ofNat 8 q.kind.code, q.tag, []⟩
      ∧ t = { s with rails := t.rails, channels := t.channels, portC := t.portC, portK := t.portK, sources := t.sources }
    (q.kind = .picked → ∃ t, exec (.picked k) s = .next t ∧ stopped t
      ∧ t.channel k = { s.channel k with pick := { (s.channel k).pick with valid := false } })
    ∧ (q.kind = .setDown → ∃ t, exec (.setDown k) s = .next t ∧ stopped t
      ∧ t.channel k = { s.channel k with setDown := { (s.channel k).setDown with valid := false } })

/-! ### The rail units (Chapter 6) -/

/-- GRANT refused (R110): the checks are made in the manual's order, the first that fails gives the status, and nothing but
the response slot changes. ARRIVED refused (R115): NOT_READY for an OFFLINE, STOPPED or LOST crane, MOVING when the last
window's speed is not 0. RESTART refused (R120): BUSY for a crane READY, UNHOMED or PARKED, MOVING when the last window's
speed is not 0, NO_ROOM when both channels are CALIBRATED, the other crane's reservation is CALIBRATED or FROZEN, and the
stationary envelope does not keep the gap from it. -/
def Obligations.RailRequestsRefused : Prop :=
  (∀ (s : State) (k : Crane) (q : Request), s.hasRequest (.k k) q → q.kind = .grant →
    let v := wordAt q.body 4
    let target := min (max (signedAt q.body 0) s.params.tmin[k]) s.params.tmax[k]
    let halted : Prop :=
      (s.rail k).state = .offline ∨ (s.rail k).state = .lost ∨ (s.rail k).state = .stopped
    let closed : Prop := (s.rail k).state = .parked ∨ (s.rail k).fireHold = true
      ∨ (s.fire (aisleOf k)).state = .sealed ∨ (s.fire (aisleOf k)).state = .reopening
      ∨ (((s.fire (aisleOf k)).state = .parking ∨ (s.fire (aisleOf k)).state = .closing)
          ∧ ∀ id t, (s.crane k).active = some id → s.task? id = some t → t.kind ≠ .park)
    let refused (st : Status) : Prop := exec (.grant k) s = .next (s.answered (.k k) q st [])
    ((v = 0 ∨ 8191 < v) → refused .outOfRange)
    ∧ (1 ≤ v → v ≤ 8191 → halted → refused .notReady)
    ∧ (1 ≤ v → v ≤ 8191 → ¬ halted → closed → refused .aisleClosed)
    ∧ (1 ≤ v → v ≤ 8191 → ¬ halted → ¬ closed → s.calibrated k = false →
        target ≠ (if isWest k then s.params.tmin[k] else s.params.tmax[k]) → refused .notCalibrated))
  ∧
  (∀ (s : State) (k : Crane) (q : Request), s.hasRequest (.k k) q → q.kind = .arrived →
    let halted : Prop := (s.rail k).state = .offline ∨ (s.rail k).state = .stopped ∨ (s.rail k).state = .lost
    (halted → exec (.arrived k) s = .next (s.answered (.k k) q .notReady []))
    ∧ (¬ halted → (s.channel k).speed ≠ 0 → exec (.arrived k) s = .next (s.answered (.k k) q .moving [])))
  ∧
  (∀ (s : State) (k : Crane) (q : Request), s.hasRequest (.k k) q → q.kind = .restart →
    let inService : Prop := (s.rail k).state = .ready ∨ (s.rail k).state = .unhomed ∨ (s.rail k).state = .parked
    (inService → exec (.restart k) s = .next (s.answered (.k k) q .busy []))
    ∧ (¬ inService → (s.channel k).speed ≠ 0 → exec (.restart k) s = .next (s.answered (.k k) q .moving []))
    ∧ (¬ inService → (s.channel k).speed = 0 → s.calibrated k = true → s.calibrated (otherCrane k) = true →
        (∀ x, (s.rail (otherCrane k)).reservation ≠ .homeSide x) →
        (if isWest k then (s.edges (otherCrane k)).west < s.posMm k + s.params.halfLength + s.params.gap
          else s.posMm k - s.params.halfLength < (s.edges (otherCrane k)).east + s.params.gap) →
        exec (.restart k) s = .next (s.answered (.k k) q .noRoom [])))

/-- GRANT of an uncalibrated crane (R110, R111, R118): in an aisle in NORMAL it is granted travel to its home travel limit at
no more than V_creep; the pending grant is cleared, an unarmed link timer is armed at H, and the reservation stays. Fields of
the response that R157 gives no type are laid out as log 13 says. -/
def Obligations.GrantOfAnUncalibratedCrane : Prop :=
  ∀ (s : State) (k : Crane) (q : Request), s.hasRequest (.k k) q → q.kind = .grant →
    let v := wordAt q.body 4
    let home := if isWest k then s.params.tmin[k] else s.params.tmax[k]
    1 ≤ v → v ≤ 8191 → (s.rail k).state = .unhomed → (s.rail k).fireHold = false →
    (s.fire (aisleOf k)).state = .normal → s.calibrated k = false →
    min (max (signedAt q.body 0) s.params.tmin[k]) s.params.tmax[k] = home →
    let given : Travel := ⟨home, min (min v (min s.params.vMax[k] (s.classCap k))) s.params.vCreep⟩
    let st : Status := if given = ⟨signedAt q.body 0, v⟩ then .ok else .clamped
    exec (.grant k) s = .next ((s.modRail k (fun r => { r with
        granted := some given, pending := none, linkArmed := true,
        linkLeft := if r.linkArmed = true then r.linkLeft else s.params.linkTime })).answered (.k k) q st
      (put8 st.code ++ putPos given.target ++ put16 given.speed ++ s.putReservation k ++ putTravel? none
        ++ putSpan (s.edges (otherCrane k))))

/-- GRANT of a calibrated crane that fits whole (R104, R112, R118): the reservation becomes the smallest stretch with the
present envelope and the travel stretch, the travel is recorded, the pending grant is cleared, and the link timer is armed if
the target is not where the crane stands; nothing else changes. The window envelope lies in the new reservation, and the
inner edge does not move back. GRANT clamped to the furthest point that fits (R113): when the request does not fit whole and
t' lies ahead in the direction of the target and fits, the travel to t' is given with its own required reservation, the
request is pending since now, and CLAMPED is answered. The window envelope lies in the new reservation, and the other crane
has no pending grant. GRANT that is held (R113): a request that does not fit whole, with a target at the crane or on its home
side, or a t' that is not ahead of the crane or does not fit, gives no travel; the reservation is the present envelope with
its inner edge no closer to the other crane than before, and the whole clamped request is pending since now. The window
envelope lies in the new reservation, and the other crane has no pending grant. The right of way (R82, R115, R116): a GRANT
held against the other crane's reservation while that crane's own pending grant stays blocked. The crane whose active task
has the lower class wins, none counting as 6, then the earlier pending since, then the west crane; the loser's pending grant
is cleared and it is given a yield target that clears the winner's required reservation by G and B, within its travel limit,
in its active task or as its standing yield, with TASK_READY latched. Fields of the response that R157 gives no type are laid
out as log 13 says. That a pending grant is clamped again in its speed alone and that blocked means blocked in this
evaluation are the model's readings (log 36, log 37), and that no envelope gives no overrun its choice (log 8). -/
def Obligations.GrantOfACalibratedCrane : Prop :=
  (∀ (s : State) (k : Crane) (q : Request), s.hasRequest (.k k) q → q.kind = .grant → s.settled →
    let v := wordAt q.body 4
    1 ≤ v → v ≤ 8191 → (s.rail k).state = .ready → (s.rail k).fireHold = false →
    (s.fire (aisleOf k)).state = .normal → s.calibrated k = true →
    let asked : Travel := ⟨signedAt q.body 0, v⟩
    let t : Travel := ⟨min (max asked.target s.params.tmin[k]) s.params.tmax[k],
      min v (min s.params.vMax[k] (s.classCap k))⟩
    let p := s.posMm k
    let e := s.presentEnvelope k
    let stretch : Span :=
      ⟨min p t.target - s.params.halfLength - (if t.target < p then (s.params.stopping t.speed : Int) else 0),
       max p t.target + s.params.halfLength + (if p < t.target then (s.params.stopping t.speed : Int) else 0)⟩
    let required : Span := ⟨min e.west stretch.west, max e.east stretch.east⟩
    let other := s.edges (otherCrane k)
    (if isWest k then required.east + s.params.gap ≤ other.west else other.east + s.params.gap ≤ required.west) →
    (∀ w, (s.channel k).envelope = some w → required.west ≤ w.west ∧ w.east ≤ required.east) →
    (if isWest k then (s.edges k).east ≤ required.east else required.west ≤ (s.edges k).west) →
    let st : Status := if t = asked then .ok else .clamped
    exec (.grant k) s = .next ((s.modRail k (fun r => { r with
        reservation := .calibrated required, granted := some t, pending := none,
        linkArmed := r.linkArmed || decide (t.target ≠ p),
        linkLeft := if r.linkArmed = false ∧ t.target ≠ p then s.params.linkTime else r.linkLeft })).answered (.k k) q st
      (put8 st.code ++ putPos t.target ++ put16 t.speed ++ putSpan required ++ [0] ++ putTravel? none ++ putSpan other)))
  ∧
  (∀ (s : State) (k : Crane) (q : Request), s.hasRequest (.k k) q → q.kind = .grant → s.settled →
    let v := wordAt q.body 4
    1 ≤ v → v ≤ 8191 → (s.rail k).state = .ready → (s.rail k).fireHold = false →
    (s.fire (aisleOf k)).state = .normal → s.calibrated k = true → (s.rail (otherCrane k)).pending = none →
    let t : Travel := ⟨min (max (signedAt q.body 0) s.params.tmin[k]) s.params.tmax[k],
      min v (min s.params.vMax[k] (s.classCap k))⟩
    let other := s.edges (otherCrane k)
    let reach : Int := s.params.gap + s.params.halfLength + (s.params.stopping t.speed : Int)
    let x : Int := if isWest k then other.west - reach else other.east + reach
    let given : Travel := ⟨x, t.speed⟩
    let span := s.required k given
    s.fits k (s.required k t) = false → s.fits k span = true →
    (if isWest k then s.posMm k < t.target ∧ s.posMm k < x else t.target < s.posMm k ∧ x < s.posMm k) →
    (∀ w, (s.channel k).envelope = some w → span.west ≤ w.west ∧ w.east ≤ span.east) →
    exec (.grant k) s = .next ((s.modRail k (fun r => { r with
        reservation := .calibrated span, granted := some given, pending := some t, pendingSince := s.wingTime,
        linkArmed := true, linkLeft := if r.linkArmed = true then r.linkLeft else s.params.linkTime })).answered
      (.k k) q .clamped
      (put8 Status.clamped.code ++ putPos x ++ put16 t.speed ++ putSpan span ++ [0] ++ putPos t.target ++ put16 t.speed
        ++ putSpan other)))
  ∧
  (∀ (s : State) (k : Crane) (q : Request), s.hasRequest (.k k) q → q.kind = .grant → s.settled →
    let v := wordAt q.body 4
    1 ≤ v → v ≤ 8191 → (s.rail k).state = .ready → (s.rail k).fireHold = false →
    (s.fire (aisleOf k)).state = .normal → s.calibrated k = true → (s.rail (otherCrane k)).pending = none →
    let t : Travel := ⟨min (max (signedAt q.body 0) s.params.tmin[k]) s.params.tmax[k],
      min v (min s.params.vMax[k] (s.classCap k))⟩
    let e := s.presentEnvelope k
    let span : Span := if isWest k then ⟨e.west, min e.east (s.edges k).east⟩ else ⟨max e.west (s.edges k).west, e.east⟩
    let other := s.edges (otherCrane k)
    let reach : Int := s.params.gap + s.params.halfLength + (s.params.stopping t.speed : Int)
    let x : Int := if isWest k then other.west - reach else other.east + reach
    s.fits k (s.required k t) = false →
    ((if isWest k then t.target ≤ s.posMm k ∨ x ≤ s.posMm k else s.posMm k ≤ t.target ∨ s.posMm k ≤ x)
      ∨ s.fits k (s.required k ⟨x, t.speed⟩) = false) →
    (∀ w, (s.channel k).envelope = some w → span.west ≤ w.west ∧ w.east ≤ span.east) →
    exec (.grant k) s = .next ((s.modRail k (fun r => { r with
        reservation := .calibrated span, granted := none, pending := some t, pendingSince := s.wingTime })).answered
      (.k k) q .held
      (put8 Status.held.code ++ putTravel? none ++ putSpan span ++ [0] ++ putPos t.target ++ put16 t.speed
        ++ putSpan other)))
  ∧
  (∀ (s : State) (k : Crane) (q : Request) (u : Travel), s.hasRequest (.k k) q → q.kind = .grant → s.settled →
    let v := wordAt q.body 4
    let o := otherCrane k
    1 ≤ v → v ≤ 8191 → (s.rail k).state = .ready → (s.rail k).fireHold = false →
    (s.fire (aisleOf k)).state = .normal → s.calibrated k = true →
    (s.rail o).state = .ready → (s.rail o).fireHold = false → s.calibrated o = true →
    (s.rail o).pending = some u → 1 ≤ u.speed → u.speed ≤ 8191 →
    let t : Travel := ⟨min (max (signedAt q.body 0) s.params.tmin[k]) s.params.tmax[k],
      min v (min s.params.vMax[k] (s.classCap k))⟩
    let ut : Travel := { u with speed := min u.speed (s.classCap o) }
    let e := s.presentEnvelope k
    let span : Span := if isWest k then ⟨e.west, min e.east (s.edges k).east⟩ else ⟨max e.west (s.edges k).west, e.east⟩
    let reach (w : Nat) : Int := s.params.gap + s.params.halfLength + (s.params.stopping w : Int)
    let x : Int := if isWest k then (s.edges o).west - reach t.speed else (s.edges o).east + reach t.speed
    let y : Int := if isWest k then span.east + reach ut.speed else span.west - reach ut.speed
    s.fits k (s.required k t) = false →
    ((if isWest k then t.target ≤ s.posMm k ∨ x ≤ s.posMm k else s.posMm k ≤ t.target ∨ s.posMm k ≤ x)
      ∨ s.fits k (s.required k ⟨x, t.speed⟩) = false) →
    1 ≤ t.speed →
    (∀ w, (s.channel k).envelope = some w → span.west ≤ w.west ∧ w.east ≤ span.east) →
    let keeps (sp : Span) : Prop := if isWest k then span.east + s.params.gap ≤ sp.west else sp.east + s.params.gap ≤ span.west
    ¬ keeps (s.required o ut) →
    (¬ keeps (s.required o ⟨y, ut.speed⟩)
      ∨ (if isWest k then s.posMm o ≤ ut.target ∨ s.posMm o ≤ y else ut.target ≤ s.posMm o ∨ y ≤ s.posMm o)
      ∨ ∃ g, (s.rail o).granted = some g ∧ (if isWest k then g.target ≤ y else y ≤ g.target)) →
    let cls (j : Crane) : Nat := match (s.crane j).active.bind s.task? with
      | some a => a.cls
      | none => 6
    let wins : Prop := cls k < cls o ∨ (cls k = cls o ∧ (s.wingTime < (s.rail o).pendingSince
      ∨ (s.wingTime = (s.rail o).pendingSince ∧ isWest k = true)))
    let loses (l : Crane) (won : Span) (t' : State) : Prop :=
      let back : Int := s.params.gap + s.params.halfLength
      let target : Int := if isWest l then max (won.west - back) s.params.tmin[l] else min (won.east + back) s.params.tmax[l]
      ((s.crane l).active = none → t'.crane l = { s.crane l with standingYield := some target } ∧ t'.tasks = s.tasks)
      ∧ (∀ id a, (s.crane l).active = some id → s.task? id = some a →
          t'.task? id = some { a with yield := some target } ∧ (∀ j, j ≠ id → t'.task? j = s.task? j)
            ∧ t'.cranes = s.cranes)
      ∧ (∀ j, j ≠ l → t'.crane j = s.crane j)
      ∧ (t'.port (.k l)).latch.getLsbD NoticeK.taskReady.position = true
    let held : Rail := { s.rail k with
      reservation := .calibrated span, granted := none, pending := some t, pendingSince := s.wingTime }
    ∃ t', exec (.grant k) s = .next t'
      ∧ (∀ j, j ≠ k → j ≠ o → t'.rail j = s.rail j)
      ∧ (wins → t'.rail k = held ∧ t'.rail o = { s.rail o with pending := none } ∧ loses o (s.required k t) t')
      ∧ (¬ wins → t'.rail k = { held with pending := none } ∧ t'.rail o = s.rail o ∧ loses k (s.required o ut) t')
      ∧ t' = { s with rails := t'.rails, tasks := t'.tasks, cranes := t'.cranes, portK := t'.portK })

/-- The separation that grants keep (R112, R113, R115): in an aisle whose reservations keep the gap G, a GRANT, however it is
judged and whatever the arbiter then extends, leaves them keeping the gap, and it moves no reservation of the other aisle. -/
def Obligations.GrantKeepsTheGap : Prop :=
  ∀ (s t : State) (k : Crane) (q : Request), s.hasRequest (.k k) q → q.kind = .grant →
    let a := aisleOf k
    (s.edges (westCrane a)).east + s.params.gap ≤ (s.edges (eastCrane a)).west →
    exec (.grant k) s = .next t →
    (t.edges (westCrane a)).east + t.params.gap ≤ (t.edges (eastCrane a)).west
      ∧ ∀ j, aisleOf j ≠ a → t.edges j = s.edges j

/-- ARRIVED of a standing crane (R81, R82, R112, R115, R129): a CALIBRATED reservation is trimmed to the stationary envelope,
its inner edge no closer to the other crane than it was (log 43), and the travel is cleared. An active HOME of a calibrated
crane completes and the crane becomes READY; an active PARK within T_park of its position in an aisle out of NORMAL makes it
PARKED. The pending grants of the aisle are none, no yield stands, and the last window envelope of a calibrated crane lies in
the trimmed reservation. ARRIVED that lets the other crane go on (R114, R115): the trim moves the inner edge back, and the
other crane's pending grant is evaluated against it, its speed clamped to the class cap of this moment. It is given whole
when it fits, and is then no longer pending; else travel to t' is given when t' is ahead, fits and lies beyond the granted
target, and it stays pending; else nothing changes for that crane. An extension latches GRANT_EXTENDED at its port. The
arriving crane has no task, no yield and no pending grant, and no crane overruns. Fields of the response that R157 gives no
type are laid out as log 13 says. That the trim is cut at the old inner edge (log 43), and that a pending grant is clamped
again in its speed alone (log 36), are the model's readings; so are that a PARK makes a crane with its fire hold set PARKED,
R129 against R140 (log 50), and is judged by the present park position (log 30), and that a crane without a window envelope
makes no overrun (log 8). -/
def Obligations.ArrivedTrimsTheReservation : Prop :=
  (∀ (s : State) (k : Crane) (q : Request), s.hasRequest (.k k) q → q.kind = .arrived → s.settled → s.formLaw →
    ((s.rail k).state = .ready ∨ (s.rail k).state = .unhomed) → (s.channel k).speed = 0 →
    (s.rail k).pending = none → (s.rail (otherCrane k)).pending = none → (s.crane k).standingYield = none →
    let west : Int := s.posMm k - s.params.halfLength
    let east : Int := s.posMm k + s.params.halfLength
    let still : Span :=
      if isWest k then ⟨west, min east (s.edges k).east⟩ else ⟨max west (s.edges k).west, east⟩
    (s.calibrated k = true → ∀ w, (s.channel k).envelope = some w → still.west ≤ w.west ∧ w.east ≤ still.east) →
    let trimmed (r : Rail) : Rail := { r with
      granted := none, reservation := if s.calibrated k then .calibrated still else r.reservation }
    let body (home : Byte) : List Byte := putPos (s.posMm k)
      ++ (if s.calibrated k then putSpan still ++ [0] else s.putReservation k) ++ [home, 0]
    ((s.crane k).active = none →
      exec (.arrived k) s = .next ((s.modRail k trimmed).answered (.k k) q .ok (body 0)))
    ∧ (∀ id t, (s.crane k).active = some id → s.task? id = some t → t.crane = k → t.kind = .home → t.yield = none →
        s.calibrated k = true → (s.rail k).state = .unhomed → (s.crane k).queue = [] → (s.crane k).stack = [] →
        ∃ s', exec (.arrived k) s = .next s' ∧ s'.rail k = { trimmed (s.rail k) with state := .ready }
          ∧ (∀ j, j ≠ k → s'.rail j = s.rail j) ∧ s'.task? id = none ∧ (∀ j, j ≠ id → s'.task? j = s.task? j)
          ∧ (s'.crane k).active = none ∧ (s'.crane k).lastCompleted = some (id, .home)
          ∧ s' = State.answered { s with rails := s'.rails, tasks := s'.tasks, cranes := s'.cranes } (.k k) q .ok (body 1))
    ∧ (∀ id t, (s.crane k).active = some id → s.task? id = some t → t.kind = .park → t.yield = none →
        (s.fire (aisleOf k)).state ≠ .normal → s.calibrated k = true →
        ((s.posMm k - s.params.parkPos[k]).natAbs : Int) ≤ s.params.tPark →
        ∃ s', exec (.arrived k) s = .next s' ∧ s'.rail k = { trimmed (s.rail k) with state := .parked }
          ∧ (∀ j, j ≠ k → s'.rail j = s.rail j)
          ∧ s' = State.answered { s with rails := s'.rails } (.k k) q .ok (body 0)))
  ∧
  (∀ (s : State) (k : Crane) (q : Request) (u : Travel) (sp : Span), s.hasRequest (.k k) q → q.kind = .arrived → s.settled →
    let o := otherCrane k
    (s.rail k).state = .ready → (s.channel k).speed = 0 → s.calibrated k = true →
    (s.rail k).reservation = .calibrated sp → (s.rail k).pending = none →
    (s.crane k).active = none → (s.crane k).standingYield = none →
    (s.rail o).state = .ready → (s.rail o).fireHold = false → (s.fire (aisleOf k)).state = .normal →
    s.calibrated o = true → (s.rail o).pending = some u → 1 ≤ u.speed → u.speed ≤ 8191 →
    let still : Span := ⟨s.posMm k - s.params.halfLength, s.posMm k + s.params.halfLength⟩
    (∀ w, (s.channel k).envelope = some w → w = still) →
    (if isWest k then still.east < sp.east else sp.west < still.west) →
    let t : Travel := { u with speed := min u.speed (s.classCap o) }
    let reach : Int := s.params.gap + s.params.halfLength + (s.params.stopping t.speed : Int)
    let x : Int := if isWest k then still.east + reach else still.west - reach
    let keeps (r : Span) : Prop := if isWest k then still.east + s.params.gap ≤ r.west else r.east + s.params.gap ≤ still.west
    let held (r : Span) : Prop := ∀ w, (s.channel o).envelope = some w → r.west ≤ w.west ∧ w.east ≤ r.east
    let partly : Prop := keeps (s.required o ⟨x, t.speed⟩)
      ∧ (if isWest k then t.target < s.posMm o ∧ x < s.posMm o else s.posMm o < t.target ∧ s.posMm o < x)
      ∧ ∀ g, (s.rail o).granted = some g → if isWest k then x < g.target else g.target < x
    let trimmed : State := s.modRail k (fun r => { r with granted := none, reservation := .calibrated still })
    let extended (g : Travel) (left : Option Travel) : State :=
      ((trimmed.modRail o (fun r => { r with
        reservation := .calibrated (s.required o g), granted := some g, pending := left,
        linkArmed := r.linkArmed || decide (g.target ≠ s.posMm o),
        linkLeft := if r.linkArmed = false ∧ g.target ≠ s.posMm o then s.params.linkTime else r.linkLeft })).modPort (.k o)
        (fun b => { b with latch := b.latch ||| 8 }))
    let answered (t' : State) : Prop := exec (.arrived k) s = .next (t'.answered (.k k) q .ok
      (putPos (s.posMm k) ++ putSpan still ++ [0, 0, 0]))
    (keeps (s.required o t) → held (s.required o t) → answered (extended t none))
    ∧ (¬ keeps (s.required o t) → partly → held (s.required o ⟨x, t.speed⟩) → answered (extended ⟨x, t.speed⟩ (some u)))
    ∧ (¬ keeps (s.required o t) → ¬ partly → answered trimmed))

/-- DRIVE_FAULT (R107, R121): the code is recorded in every crane state; a crane in service becomes STOPPED with cause DRIVE,
its grants cleared, CRANE_FAULT latched and STOP latched if its line was released; a crane OFFLINE, LOST or STOPPED keeps its
state and cause, and nothing else changes. Fields of the response that R157 gives no type are laid out as log 13 says. That a
SILENT crane which is STOPPED has no silent from is the model's reading (log 22). -/
def Obligations.DriveFaultStopsTheCrane : Prop :=
  ∀ (s : State) (k : Crane) (q : Request), s.hasRequest (.k k) q → q.kind = .driveFault → s.settled →
    let code := q.body.getD 0 0
    (((s.rail k).state = .ready ∨ (s.rail k).state = .unhomed ∨ (s.rail k).state = .parked
        ∨ (s.rail k).state = .silent) →
      ∃ t, exec (.driveFault k) s = .next t
        ∧ t.rail k = { s.rail k with
            driveFault := code, state := .stopped, silentFrom := none, stopCause := .drive, granted := none,
            pending := none }
        ∧ (∀ j, j ≠ k → t.rail j = s.rail j) ∧ t.stopLine k = true
        ∧ t.portC = { s.portC with latch := s.portC.latch ||| 2 } ∧ t.sources.craneFault.getLsbD k.val = true
        ∧ ((s.rail k).fireHold = false → (t.port (.k k)).latch.getLsbD NoticeK.stop.position = true)
        ∧ (t.port (.k k)).slot = .holding ⟨.ok, BitVec.ofNat 8 q.kind.code, q.tag, put8 CraneState.stopped.code⟩
        ∧ t = { s with rails := t.rails, portC := t.portC, portK := t.portK, sources := t.sources })
    ∧ (((s.rail k).state = .offline ∨ (s.rail k).state = .lost ∨ (s.rail k).state = .stopped) →
      exec (.driveFault k) s = .next ((s.modRail k (fun r => { r with driveFault := code })).answered (.k k) q .ok
        (put8 (s.rail k).state.code)))

/-- RESTART (R101, R108, R120): a standing crane out of service with a CALIBRATED channel becomes READY with its stationary
envelope; one without becomes UNHOMED, keeps its HOME_SIDE reservation, and is given a HOME of class 1 if it holds none.
Cause, grants and link timer are cleared, both captures become invalid, and the fire hold is set in an aisle PARKING, CLOSING
or SEALED. The crane has no task and nothing is pending in the aisle. Fields of the response that R157 gives no type are laid
out as log 13 says. That an unarmed link timer has 0 left is the model's choice (log 5), that the crane has no silent from
its reading (log 22), and that a crane without a window envelope makes no overrun its choice (log 8). -/
def Obligations.RestartReturnsTheCrane : Prop :=
  ∀ (s : State) (k : Crane) (q : Request), s.hasRequest (.k k) q → q.kind = .restart → s.settled →
    ((s.rail k).state = .offline ∨ (s.rail k).state = .silent ∨ (s.rail k).state = .lost
      ∨ (s.rail k).state = .stopped) → (s.channel k).speed = 0 → (s.rail (otherCrane k)).pending = none →
    (s.crane k).active = none → (s.crane k).queue = [] →
    let still : Span := ⟨s.posMm k - s.params.halfLength, s.posMm k + s.params.halfLength⟩
    let hold := match (s.fire (aisleOf k)).state with
      | .parking => true
      | .closing => true
      | .sealed => true
      | .normal => (s.rail k).fireHold
      | .reopening => (s.rail k).fireHold
    let restarted (state : CraneState) (res : Reservation) : Rail := { s.rail k with
      state := state, silentFrom := none, stopCause := .none, reservation := res, granted := none, pending := none,
      linkArmed := false, linkLeft := 0, fireHold := hold }
    let freed (c : Channel) : Channel := { c with
      pick := { c.pick with valid := false }, setDown := { c.setDown with valid := false } }
    (s.calibrated k = true →
      (s.otherCounts k = true → if isWest k then still.east + s.params.gap ≤ (s.edges (otherCrane k)).west
        else (s.edges (otherCrane k)).east + s.params.gap ≤ still.west) →
      (∀ w, (s.channel k).envelope = some w → w = still) →
      ∃ t, exec (.restart k) s = .next t ∧ t.rail k = restarted .ready (.calibrated still)
        ∧ t.channel k = freed (s.channel k) ∧ (∀ j, j ≠ k → t.rail j = s.rail j ∧ t.channel j = s.channel j)
        ∧ (t.port (.k k)).slot = .holding ⟨.ok, BitVec.ofNat 8 q.kind.code, q.tag,
            [2, 1] ++ putSpan still ++ [0]⟩
        ∧ t = { s with rails := t.rails, channels := t.channels, cranes := t.cranes, portK := t.portK })
    ∧ (∀ x tid, s.calibrated k = false → (s.rail k).reservation = .homeSide x → s.holdsKind k .home = false →
      s.tasks.lowestFree 64 = some tid →
      ∃ t, exec (.restart k) s = .next t ∧ t.rail k = restarted .unhomed (.homeSide x)
        ∧ t.channel k = { freed (s.channel k) with
            state := .uncalibrated,
            fault := if (s.channel k).state = .faulted then .none else (s.channel k).fault }
        ∧ (∀ j, j ≠ k → t.rail j = s.rail j ∧ t.channel j = s.channel j)
        ∧ t.task? tid = some ⟨k, .home, 1, s.wingTime, none, none,
            some (.rail (if isWest k then s.params.tmin[k] else s.params.tmax[k])), none, [], 0, 0, none, .queued, none,
            .travel, none⟩
        ∧ (∀ j, j ≠ tid → t.task? j = s.task? j) ∧ (t.crane k).queue = [tid]
        ∧ t = { s with
            rails := t.rails, channels := t.channels, tasks := t.tasks, cranes := t.cranes, portK := t.portK })

/-- LINK_EXPIRY (R119): a READY or UNHOMED crane that stands with a stationary reservation becomes SILENT with its pending
grant cleared; any other READY or UNHOMED crane becomes LOST with cause LINK, its edges FROZEN and its grants cleared; in any
other state the timer restarts at H. No other crane's rail record changes. The command given in another state is log 10's. -/
def Obligations.LinkExpirySilencesOrLosesTheCrane : Prop :=
  ∀ (s : State) (k : Crane), s.inReset = false → s.settled → (s.rail k).linkArmed = true → (s.rail k).linkLeft = 0 →
    let still : Prop := (s.rail k).granted = none ∧ (s.channel k).speed = 0
      ∧ ∀ sp, (s.rail k).reservation = .calibrated sp → sp =
          ⟨s.posMm k - s.params.halfLength, s.posMm k + s.params.halfLength⟩
    let inService : Prop := (s.rail k).state = .ready ∨ (s.rail k).state = .unhomed
    (inService → still → ∃ t, exec (.linkExpiry k) s = .next t
      ∧ t.rail k = { s.rail k with
          state := .silent, silentFrom := if (s.rail k).state = .ready then some .ready else some .unhomed,
          pending := none }
      ∧ t = { s with rails := t.rails } ∧ ∀ j, j ≠ k → t.rail j = s.rail j)
    ∧ (inService → ¬ still → ∃ t, exec (.linkExpiry k) s = .next t
      ∧ t.rail k = { s.rail k with
          state := .lost, stopCause := .link, reservation := .frozen (s.edges k), granted := none, pending := none }
      ∧ (∀ j, j ≠ k → t.rail j = s.rail j) ∧ t.stopLine k = true
      ∧ t.portC = { s.portC with latch := s.portC.latch ||| 2 } ∧ t.sources.craneFault.getLsbD k.val = true
      ∧ ((s.rail k).fireHold = false → (t.port (.k k)).latch.getLsbD NoticeK.stop.position = true)
      ∧ t = { s with rails := t.rails, portC := t.portC, portK := t.portK, sources := t.sources })
    ∧ (¬ inService → exec (.linkExpiry k) s =
        .next (s.modRail k (fun r => { r with linkLeft := s.params.linkTime })))

/-! ### Position channels (Chapter 5) -/

/-- ENCODER_TRANSITION of one level (R87, R88): the new pair becomes the phase, and a transition that counts in the edge mode
adds 1 forward and takes 1 off in reverse, the other way round with inverted polarity; nothing else changes. The channel is
not CALIBRATED, or the new position stays within 1,000 mm of the rail. A channel that becomes FAULTED (R89, R92, R107, R108),
here by a quadrature error of a READY crane with a CALIBRATED reservation: the cause is QUADRATURE, the count is kept, both
captures are invalid, the crane is STOPPED with cause CHANNEL, its reservation is HOME_SIDE with the old inner edge moved out
by the slip allowance, and CRANE_FAULT is latched. -/
def Obligations.EncoderTransitionCounts : Prop :=
  (∀ (s : State) (k : Crane) (a b : Bool), s.inReset = false → s.settled →
    let c := s.channel k
    let mode := s.params.edgeMode[k]
    let forward : Prop := (c.phaseA = false ∧ c.phaseB = false ∧ a = true ∧ b = false)
      ∨ (c.phaseA = true ∧ c.phaseB = false ∧ a = true ∧ b = true)
      ∨ (c.phaseA = true ∧ c.phaseB = true ∧ a = false ∧ b = true)
      ∨ (c.phaseA = false ∧ c.phaseB = true ∧ a = false ∧ b = false)
    let reverse : Prop := (c.phaseA = true ∧ c.phaseB = false ∧ a = false ∧ b = false)
      ∨ (c.phaseA = true ∧ c.phaseB = true ∧ a = true ∧ b = false)
      ∨ (c.phaseA = false ∧ c.phaseB = true ∧ a = true ∧ b = true)
      ∨ (c.phaseA = false ∧ c.phaseB = false ∧ a = false ∧ b = true)
    let counts : Prop := mode = 4 ∨ (mode = 2 ∧ c.phaseA ≠ a) ∨ (mode = 1 ∧ c.phaseA = false ∧ a = true)
    let moved (count : BitVec 32) : Prop :=
      exec (.encoderTransition k a b) s = .next (s.modChannel k (fun c =>
        { c with phaseA := a, phaseB := b, counter := count }))
    let plausible (count : BitVec 32) : Prop := c.state = .calibrated →
      -1000 ≤ (count.toInt * (s.params.pitch[k] : Int)).fdiv 1000
        ∧ (count.toInt * (s.params.pitch[k] : Int)).fdiv 1000 ≤ s.params.railLength[aisleOf k] + 1000
    (mode = 1 ∨ mode = 2 ∨ mode = 4) →
    (forward → counts → s.params.inverted[k] = false → plausible (c.counter + 1) → moved (c.counter + 1))
    ∧ (forward → counts → s.params.inverted[k] = true → plausible (c.counter - 1) → moved (c.counter - 1))
    ∧ (reverse → counts → s.params.inverted[k] = false → plausible (c.counter - 1) → moved (c.counter - 1))
    ∧ (reverse → counts → s.params.inverted[k] = true → plausible (c.counter + 1) → moved (c.counter + 1))
    ∧ (forward ∨ reverse → ¬ counts → moved c.counter))
  ∧
  (∀ (s : State) (k : Crane) (a b : Bool) (sp : Span), s.inReset = false → s.settled →
    (s.channel k).phaseA ≠ a → (s.channel k).phaseB ≠ b → (s.channel k).state ≠ .faulted → (s.rail k).state = .ready →
    (s.rail k).reservation = .calibrated sp →
    ∃ t, exec (.encoderTransition k a b) s = .next t
      ∧ t.channel k = { s.channel k with
          phaseA := a, phaseB := b, state := .faulted, fault := .quadrature,
          pick := { (s.channel k).pick with valid := false }, setDown := { (s.channel k).setDown with valid := false } }
      ∧ t.rail k = { s.rail k with
          state := .stopped, silentFrom := none, stopCause := .channel, granted := none, pending := none,
          reservation := .homeSide (if isWest k then min (s.params.railLength[aisleOf k]) (sp.east + s.params.slip)
            else max 0 (sp.west - s.params.slip)) }
      ∧ (∀ j, j ≠ k → t.rail j = s.rail j ∧ t.channel j = s.channel j) ∧ t.stopLine k = true
      ∧ t.portC = { s.portC with latch := s.portC.latch ||| 2 } ∧ t.sources.craneFault.getLsbD k.val = true
      ∧ t = { s with
          channels := t.channels, rails := t.rails, portC := t.portC, portK := t.portK, sources := t.sources })

/-- REFERENCE_EDGE that is not taken (R93): a falling edge, an edge away from home, and an edge of a FAULTED channel change
the level of REF alone. REFERENCE_EDGE of an uncalibrated channel moving home (R94, R109): the count becomes ref_count, the
previous window count shifts with it, the channel is CALIBRATED with no last deviation, and RECAL is latched; an OFFLINE or
LOST crane keeps its rail record, and any other takes a CALIBRATED reservation, its present envelope with the travel it holds
toward home, cut to keep the gap from a calibrated neighbour. The mark lies on the rail, no window has ended since the
channel was last calibrated, and no grant is pending. REFERENCE_EDGE of a CALIBRATED channel moving home (R95): the deviation
is recorded; within T_ref the count is reloaded and the previous window count shifts with it; above it the channel is FAULTED
with cause SLIP and its count kept. The model's readings are that a REF level which does not change is no edge (log 14), that
travel held toward home counts as the travel stretch from the new position (log 26), and that a last deviation kept by R101
is absent after the calibration (log 38); that no overrun is judged before a window envelope stands is its choice (log 8). -/
def Obligations.ReferenceEdgeCalibratesOrChecks : Prop :=
  (∀ (s : State) (k : Crane) (level : Bool), s.inReset = false → s.settled →
    (level = false ∨ (s.channel k).refLevel = true ∨ (s.channel k).state = .faulted
      ∨ (s.channel k).direction ≠ (if isWest k then Direction.west else Direction.east)) →
    exec (.referenceEdge k level) s = .next (s.modChannel k (fun c => { c with refLevel := level })))
  ∧
  (∀ (s : State) (k : Crane), s.inReset = false → s.settled → (s.channel k).refLevel = false →
    (s.channel k).state = .uncalibrated →
    (s.channel k).direction = (if isWest k then Direction.west else Direction.east) → (s.channel k).envelope = none →
    (s.rail k).pending = none → (s.rail (otherCrane k)).pending = none →
    let ref := s.params.refCount[k]
    let mm := (ref.toInt * (s.params.pitch[k] : Int)).fdiv 1000
    mm ≥ -1000 → mm ≤ s.params.railLength[aisleOf k] + 1000 →
    ∃ t, exec (.referenceEdge k true) s = .next t
      ∧ t.channel k = { s.channel k with
          refLevel := true, state := .calibrated, fault := .none, counter := ref,
          prev := (s.channel k).prev + (ref - (s.channel k).counter), deviation := none }
      ∧ t.posMm k = mm ∧ (∀ j, j ≠ k → t.channel j = s.channel j ∧ t.rail j = s.rail j)
      ∧ (t.port (.k k)).latch.getLsbD NoticeK.recal.position = true
      ∧ ((s.rail k).state = .offline ∨ (s.rail k).state = .lost → t.rail k = s.rail k)
      ∧ ((s.rail k).state ≠ .offline → (s.rail k).state ≠ .lost →
          let base : Span := match (s.rail k).granted with
            | some g => if (if isWest k then g.target < mm else mm < g.target) then t.required k g else t.presentEnvelope k
            | none => t.presentEnvelope k
          let other := s.edges (otherCrane k)
          let east := min base.east (other.west - s.params.gap)
          let west := max base.west (other.east + s.params.gap)
          t.rail k = { s.rail k with reservation := .calibrated (if s.otherCounts k = false then base
            else if isWest k then ⟨min base.west east, east⟩ else ⟨west, max base.east west⟩) })
      ∧ t = { s with channels := t.channels, rails := t.rails, portK := t.portK })
  ∧
  (∀ (s : State) (k : Crane), s.inReset = false → s.settled → (s.channel k).refLevel = false →
    (s.channel k).state = .calibrated →
    (s.channel k).direction = (if isWest k then Direction.west else Direction.east) →
    let ref := s.params.refCount[k]
    let mm := (ref.toInt * (s.params.pitch[k] : Int)).fdiv 1000
    let d := ((s.channel k).counter.toInt - ref.toInt).natAbs * s.params.pitch[k]
    ((d : Int) ≤ s.params.tRef * 1000 → -1000 ≤ mm → mm ≤ s.params.railLength[aisleOf k] + 1000 →
      exec (.referenceEdge k true) s = .next (s.modChannel k (fun c => { c with
        refLevel := true, deviation := some d, counter := ref, prev := c.prev + (ref - c.counter) })))
    ∧ (s.params.tRef * 1000 < (d : Int) → ∃ t, exec (.referenceEdge k true) s = .next t
      ∧ t.channel k = { s.channel k with
          refLevel := true, deviation := some d, state := .faulted, fault := .slip,
          pick := { (s.channel k).pick with valid := false }, setDown := { (s.channel k).setDown with valid := false } }
      ∧ (∀ j, j ≠ k → t.channel j = s.channel j ∧ t.rail j = s.rail j)
      ∧ ((s.rail k).state = .ready → (t.rail k).state = .stopped ∧ (t.rail k).stopCause = .channel)))

/-- FORK_EDGE (R96): a rising edge writes the pick capture and a falling edge the set-down capture with the position of that
moment, valid if the channel is CALIBRATED; the other capture and every other record stay; with no change of level there is
no edge. That a level which does not change is no edge is the model's reading (log 14). -/
def Obligations.ForkEdgeWritesTheCapture : Prop :=
  ∀ (s : State) (k : Crane), s.inReset = false →
    let capture : Capture := ⟨((s.channel k).counter.toInt * (s.params.pitch[k] : Int)).fdiv 1000,
      decide ((s.channel k).state = .calibrated)⟩
    ((s.channel k).forkLevel = false → exec (.forkEdge k true) s =
      .next (s.modChannel k (fun c => { c with forkLevel := true, pick := capture })))
    ∧ ((s.channel k).forkLevel = true → exec (.forkEdge k false) s =
      .next (s.modChannel k (fun c => { c with forkLevel := false, setDown := capture })))
    ∧ exec (.forkEdge k (s.channel k).forkLevel) s = .next s

/-- WINDOW_END (R98, R103, R104, R117, R130): the window's speed, saturated at 8,191, and direction are taken from the count
difference, the next window starts at W, and a calibrated channel forms its envelope; the plane-clear flags of the aisle are
evaluated; a crane READY, UNHOMED, SILENT or PARKED whose envelope lies outside its reservation is STOPPED with cause
OVERRUN. A window end in PARKING (R130, R131, R134): the hold-open line of a station whose plane has become clear is
released, and no line is asserted; while a line stays asserted the aisle stays in PARKING, and when both are released it
enters CLOSING with the confirm timer at T_sc, or SEALED if both shutters are closed. That a window end without calibration
leaves no window envelope is the model's choice (log 8), and that a SILENT crane which is STOPPED has no silent from is its
reading (log 22). -/
def Obligations.WindowEndMeasures : Prop :=
  (∀ (s : State) (k : Crane), s.inReset = false → (s.channel k).windowLeft = 0 → s.settled →
    let c := s.channel k
    let d := (c.counter - c.prev).toInt
    let speed := min 8191 (d.natAbs * s.params.pitch[k] / c.windowLen)
    let stop : Int := min 262143 ((speed * speed + 2 * s.params.brake - 1) / (2 * s.params.brake)
      + (speed * s.params.reaction + 1000 - 1) / 1000 : Nat)
    let p := s.posMm k
    let east := p + s.params.halfLength + if 0 < d then stop else 0
    let west := p - s.params.halfLength - if d < 0 then stop else 0
    let overrun : Prop := c.state = .calibrated ∧ (west < (s.edges k).west ∨ (s.edges k).east < east)
    let inService : Prop := (s.rail k).state = .ready ∨ (s.rail k).state = .unhomed ∨ (s.rail k).state = .silent
      ∨ (s.rail k).state = .parked
    ∃ t, exec (.windowEnd k) s = .next t
      ∧ t.channel k = { c with
          speed := speed, direction := if 0 < d then .east else if d < 0 then .west else .none, prev := c.counter,
          windowLen := s.params.window, windowLeft := s.params.window,
          envelope := if c.state = .calibrated then some ⟨west, east⟩ else none }
      ∧ (∀ j, j ≠ k → t.channel j = s.channel j)
      ∧ (∀ j, aisleOf j = aisleOf k → (t.shutter j).planeClear = t.planeIsClear j)
      ∧ (∀ j, aisleOf j ≠ aisleOf k → t.shutter j = s.shutter j)
      ∧ ((s.fire (aisleOf k)).state ≠ .parking → t.fires = s.fires
          ∧ (∀ j, t.shutter j = { s.shutter j with planeClear := (t.shutter j).planeClear })
          ∧ (¬ (overrun ∧ inService) → t = { s with channels := t.channels, shutters := t.shutters })
          ∧ (overrun → inService → t.rail k = { s.rail k with
                state := .stopped, silentFrom := none, stopCause := .overrun, granted := none, pending := none }
              ∧ (∀ j, j ≠ k → t.rail j = s.rail j)
              ∧ t.portC = { s.portC with latch := s.portC.latch ||| 2 }
              ∧ t = { s with
                  channels := t.channels, shutters := t.shutters, rails := t.rails, portC := t.portC,
                  portK := t.portK, sources := t.sources })))
  ∧
  (∀ (s : State) (k : Crane), s.inReset = false → (s.channel k).windowLeft = 0 → s.settled →
    let a := aisleOf k
    (s.fire a).state = .parking →
    ∃ t, exec (.windowEnd k) s = .next t
      ∧ (∀ j ∈ cranesOf a, (t.shutter j).planeClear = t.planeIsClear j
          ∧ (t.shutter j).holdOpen = ((s.shutter j).holdOpen && !t.planeIsClear j))
      ∧ ((∃ j ∈ cranesOf a, (t.shutter j).holdOpen = true) → t.fires = s.fires)
      ∧ ((∀ j ∈ cranesOf a, (t.shutter j).holdOpen = false) →
          (t.fire a).hold.running = false
          ∧ ((∀ j ∈ cranesOf a, (s.shutter j).isClosed = true) → (t.fire a).state = .sealed
              ∧ (t.fire a).confirm.running = false ∧ ∀ j ∈ cranesOf a, (t.rail j).fireHold = true)
          ∧ (¬ (∀ j ∈ cranesOf a, (s.shutter j).isClosed = true) → (t.fire a).state = .closing
              ∧ (t.fire a).confirm = ⟨true, s.params.shutterConfirm * 1000⟩)))

/-! ### Fire sequencers (Chapter 7) -/

/-- FIRE_LINE_SETTLED that makes no alarm edge (R124, R127): an alarm end, or a line of an aisle already in alarm or already
out of service, changes the line's level alone. FIRE_LINE_SETTLED with an alarm edge of an aisle in NORMAL or REOPENING (R24,
R124, R126, R127, R131): the aisle goes into PARKING with its hold timer at T_sh and its confirm timer stopped, its stations
are SHUTTERED with their staff settings kept, a line whose plane is clear is released, and FIRE and FIRE_PARK are latched.
With no task active, its PRESENTED claims are HELD, its QUEUED FETCH tasks BLOCKED, and each of its cranes holds a PARK. A
line stays asserted, so that PARKING lasts. FIRE_LINE_SETTLED with an alarm edge over an active task (R74, R75, R82, R128):
on a READY or UNHOMED crane that holds no PARK and has fewer than 4 tasks on its stack, the PARK preempts at once, in the
middle of any step: the old task is SUSPENDED on top of the stack without its yield target, the PARK is ACTIVE for the park
position, the standing yield is cleared, the marker is PARK_PUSH, and TASK_READY and FIRE_PARK are latched. The state meets
the stack law, the task table has room for four more, and where the PARK ends a marker PUSH over a FETCH the backlog is
empty, so that the slot signal of R62 admits no claim. FIRE_LINE_SETTLED with an alarm edge over an active task and a full
stack (R74, R76): on a READY or UNHOMED crane that holds no PARK and has 4 suspended tasks, which a HOME has filled, the PARK
waits at the head of the queue and the active task and the stack stay. The room refusal flag is set; if it was clear,
STACK_FULL is latched at both ports with the crane in its set, and otherwise not again. A PARK carries its park position from
its admission (log 30). -/
def Obligations.FireLinesRaiseTheAlarm : Prop :=
  (∀ (s : State) (line : FireLine) (active : Bool), s.inReset = false → s.settled →
    let lines : FireLines := match line with
      | .fire0 => { s.fireLines with fire0 := active }
      | .fire1 => { s.fireLines with fire1 := active }
      | .fireW => { s.fireLines with fireW := active }
    (∀ a : Aisle, active = false ∨ (line = .fire0 ∧ a = 1) ∨ (line = .fire1 ∧ a = 0) ∨ s.alarm a = true
      ∨ (s.fire a).state = .parking ∨ (s.fire a).state = .closing ∨ (s.fire a).state = .sealed) →
    exec (.fireLineSettled line active) s = .next { s with fireLines := lines })
  ∧
  (∀ (s : State) (line : FireLine) (a : Aisle), s.inReset = false → s.settled → s.alarm a = false →
    (line = .fireW ∨ (line = .fire0 ∧ a = 0) ∨ (line = .fire1 ∧ a = 1)) →
    ((s.fire a).state = .normal ∨ (s.fire a).state = .reopening) →
    (∃ k ∈ cranesOf a, (s.shutter k).holdOpen = true ∧ (s.shutter k).planeClear = false) →
    ∃ t, exec (.fireLineSettled line true) s = .next t
      ∧ t.alarm a = true ∧ (t.fire a).state = .parking ∧ (t.fire a).hold = ⟨true, s.params.shutterHold * 1000⟩
      ∧ (t.fire a).confirm.running = false
      ∧ (∀ k ∈ cranesOf a, (t.station k).state = .shuttered ∧ (t.station k).staff = (s.station k).staff
          ∧ (t.station k).bins = (s.station k).bins
          ∧ t.shutter k = { s.shutter k with holdOpen := (s.shutter k).holdOpen && !(s.shutter k).planeClear }
          ∧ (t.port (.k k)).latch.getLsbD NoticeK.firePark.position = true)
      ∧ t.portC.latch.getLsbD NoticeC.fire.position = true ∧ t.sources.fire.getLsbD a.val = true
      ∧ t.bins = s.bins ∧ t.channels = s.channels ∧ (∀ k ∈ cranesOf a, t.rail k = s.rail k) ∧ t.search = s.search
      ∧ t.sweep = s.sweep ∧ t.wing = s.wing ∧ t.params = s.params ∧ t.wingTime = s.wingTime ∧ t.pending = s.pending
      ∧ ((∀ k, (s.crane k).active = none) → s.tablesWf → s.tasks.entries.length ≤ 60 →
          (∀ id c, s.claim? id = some c → c.state = .presented → c.station ∈ cranesOf a →
            t.claim? id = some { c with state := .held, unseen := true })
          ∧ (∀ id u, s.task? id = some u → u.kind = .fetch → u.state = .queued → u.crane ∈ cranesOf a →
            ∃ v, t.task? id = some v ∧ v.state = .blocked ∧ v.block = some .aisleClosed)
          ∧ (∀ k ∈ cranesOf a, ∃ id v, t.task? id = some v ∧ v.kind = .park ∧ v.crane = k
              ∧ (s.holdsKind k .park = false → v.dest = some (.rail s.params.parkPos[k])))))
  ∧
  (∀ (s : State) (line : FireLine) (k : Crane) (old : Nat) (o : Task), s.inReset = false → s.settled → s.stackLaw →
    s.tasks.entries.length ≤ 60 → s.alarm (aisleOf k) = false →
    (line = .fireW ∨ (line = .fire0 ∧ aisleOf k = 0) ∨ (line = .fire1 ∧ aisleOf k = 1)) →
    ((s.fire (aisleOf k)).state = .normal ∨ (s.fire (aisleOf k)).state = .reopening) →
    ((s.rail k).state = .ready ∨ (s.rail k).state = .unhomed) → (s.crane k).stack.length < 4 →
    (s.crane k).active = some old → s.task? old = some o →
    (∀ e ∈ s.tasks.entries, e.2.crane = k → e.2.kind ≠ .park) →
    ((s.crane k).undelivered = .push → o.kind = .fetch → s.backlog = []) →
    ∃ t, exec (.fireLineSettled line true) s = .next t ∧ ∃ id park, t.task? id = some park ∧ park.kind = .park
      ∧ park.cls = 0 ∧ park.crane = k ∧ park.state = .active
      ∧ park.step = .travel ∧ park.dest = some (.rail s.params.parkPos[k]) ∧ park.admitted = s.wingTime
      ∧ t.task? old = some { o with state := .suspended, yield := none }
      ∧ t.crane k = { s.crane k with
          active := some id, stack := old :: (s.crane k).stack, standingYield := none, undelivered := .parkPush,
          roomRefusal := false }
      ∧ (t.port (.k k)).latch.getLsbD NoticeK.taskReady.position = true
      ∧ (t.port (.k k)).latch.getLsbD NoticeK.firePark.position = true)
  ∧
  (∀ (s : State) (line : FireLine) (k : Crane) (old : Nat) (o : Task), s.inReset = false → s.settled → s.stackLaw →
    s.tasks.entries.length ≤ 60 → s.alarm (aisleOf k) = false →
    (line = .fireW ∨ (line = .fire0 ∧ aisleOf k = 0) ∨ (line = .fire1 ∧ aisleOf k = 1)) →
    ((s.fire (aisleOf k)).state = .normal ∨ (s.fire (aisleOf k)).state = .reopening) →
    ((s.rail k).state = .ready ∨ (s.rail k).state = .unhomed) → (s.crane k).stack.length = 4 →
    (s.crane k).active = some old → s.task? old = some o →
    (∀ e ∈ s.tasks.entries, e.2.crane = k → e.2.kind ≠ .park) →
    ∃ t, exec (.fireLineSettled line true) s = .next t ∧ ∃ id park, t.task? id = some park ∧ park.kind = .park ∧ park.cls = 0
      ∧ park.crane = k ∧ park.state = .queued ∧ park.dest = some (.rail s.params.parkPos[k]) ∧ park.admitted = s.wingTime
      ∧ t.task? old = some o
      ∧ t.crane k = { s.crane k with queue := id :: (s.crane k).queue, roomRefusal := true }
      ∧ ((s.crane k).roomRefusal = false → (t.port (.k k)).latch.getLsbD NoticeK.stackFull.position = true
          ∧ t.portC.latch.getLsbD NoticeC.stackFull.position = true ∧ t.sources.stackFull.getLsbD k.val = true)
      ∧ ((s.crane k).roomRefusal = true →
          (t.port (.k k)).latch.getLsbD NoticeK.stackFull.position
              = (s.port (.k k)).latch.getLsbD NoticeK.stackFull.position
            ∧ t.sources.stackFull.getLsbD k.val = s.sources.stackFull.getLsbD k.val))

/-- SHUTTER_INPUT_SETTLED outside the return to NORMAL (R125, R134, R136): the input's level is taken; in CLOSING, both
shutters closed lead to SEALED with the confirm timer stopped and both fire holds set, and a shutter that was closed is
waited for again; in SEALED, a shutter that leaves the closed condition sets its fault flag and latches SHUTTER_FAULT; in
REOPENING, the aisle stays while a shutter is not open; otherwise nothing else changes. -/
def Obligations.ShutterInputIsTaken : Prop :=
  ∀ (s : State) (k : Crane) (input : ShutterInput) (level : Bool), s.inReset = false → s.settled →
    let a := aisleOf k
    let sh : Shutter := match input with
      | .openInput => { s.shutter k with openIn := level }
      | .closedInput => { s.shutter k with closedIn := level }
    let s1 := s.modShutter k (fun _ => sh)
    let cmd := exec (.shutterInputSettled k input level) s
    ((s.fire a).state = .normal ∨ (s.fire a).state = .parking → cmd = .next s1)
    ∧ ((s.fire a).state = .closing → (s.shutter k).isClosed = true → cmd = .next s1)
    ∧ ((s.fire a).state = .closing → (s.shutter k).isClosed = false →
      ((∀ j ∈ cranesOf a, (s1.shutter j).isClosed = true) → ∃ t, cmd = .next t
        ∧ (t.fire a).state = .sealed ∧ (t.fire a).confirm.running = false
        ∧ (∀ j ∈ cranesOf a, t.rail j = { s.rail j with fireHold := true } ∧ t.stopLine j = true)
        ∧ (∀ j, aisleOf j ≠ a → t.rail j = s.rail j)
        ∧ t = { s1 with fires := t.fires, rails := t.rails, portK := t.portK })
      ∧ (¬ (∀ j ∈ cranesOf a, (s1.shutter j).isClosed = true) → cmd = .next s1))
    ∧ ((s.fire a).state = .sealed →
      ((s.shutter k).isClosed = true → sh.isClosed = false → ∃ t, cmd = .next t
        ∧ t.shutter k = { sh with fault := true } ∧ (∀ j, j ≠ k → t.shutter j = s.shutter j)
        ∧ t.portC = { s.portC with latch := s.portC.latch ||| 4 } ∧ t.sources.shutterFault.getLsbD a.val = true
        ∧ t = { s with shutters := t.shutters, portC := t.portC, sources := t.sources })
      ∧ ((s.shutter k).isClosed = false ∨ sh.isClosed = true → cmd = .next s1))
    ∧ ((s.fire a).state = .reopening →
      ((s.shutter k).isOpen = true ∨ ¬ (∀ j ∈ cranesOf a, (s1.shutter j).isOpen = true)) → cmd = .next s1)

/-- The return of an aisle to NORMAL (R24, R43, R132, R138), by the shutter input that leaves both shutters open in
REOPENING: the shutter faults and the fire holds are cleared, the hold-open lines asserted, the stations take their staff
settings; a PARKED crane becomes READY, an UNHOMED or SILENT crane with no calibration is STOPPED with cause FIRE, and any
other crane keeps its state. Every HELD claim of the aisle that the backlog does not list is PRESENTED again with its dwell.
The tasks at that return (R64, R67, R73, R80, R138), from a state that meets State.workLaws: every PARK of the aisle's cranes
is completed, whether active, suspended or queued, and recorded as the last completed task of a crane that held one; no task
of the aisle stays BLOCKED with AISLE_CLOSED. On a crane whose PARK was active the top of the stack is popped and becomes
ACTIVE at its saved step with TASK_READY latched, where no task of the queue is of a more urgent class; with an empty stack
the crane has no active task. -/
def Obligations.AnAisleReturnsToNormal : Prop :=
  (∀ (s : State) (k : Crane) (input : ShutterInput) (level : Bool), s.inReset = false → s.settled →
    let a := aisleOf k
    let sh : Shutter := match input with
      | .openInput => { s.shutter k with openIn := level }
      | .closedInput => { s.shutter k with closedIn := level }
    (s.fire a).state = .reopening → (s.shutter k).isOpen = false →
    (∀ j ∈ cranesOf a, ((s.modShutter k (fun _ => sh)).shutter j).isOpen = true) →
    ∃ t, exec (.shutterInputSettled k input level) s = .next t
      ∧ (t.fire a).state = .normal ∧ (t.fire a).confirm.running = false
      ∧ (∀ j ∈ cranesOf a, (t.shutter j).fault = false ∧ (t.shutter j).holdOpen = true
          ∧ (t.station j).staff = (s.station j).staff
          ∧ (t.station j).state = (if (s.station j).staff = .opened then .opened else .closed)
          ∧ (t.rail j).fireHold = false
          ∧ ((s.rail j).state = .parked → (t.rail j).state = .ready)
          ∧ (((s.rail j).state = .unhomed ∨ (s.rail j).state = .silent) → s.calibrated j = false →
              (t.rail j).state = .stopped ∧ (t.rail j).stopCause = .fire)
          ∧ (((s.rail j).state = .unhomed ∨ (s.rail j).state = .silent) → s.calibrated j = true →
              t.rail j = { s.rail j with fireHold := false })
          ∧ (((s.rail j).state = .ready ∨ (s.rail j).state = .offline ∨ (s.rail j).state = .stopped
              ∨ (s.rail j).state = .lost) → t.rail j = { s.rail j with fireHold := false }))
      ∧ (∀ j, aisleOf j ≠ a → t.rail j = s.rail j ∧ t.shutter j = s.shutter j)
      ∧ t.bins = s.bins ∧ t.channels = s.channels ∧ t.search = s.search ∧ t.sweep = s.sweep
      ∧ t.params = s.params ∧ t.wing = s.wing ∧ t.wingTime = s.wingTime ∧ t.pending = s.pending
      ∧ (∀ id c, s.claim? id = some c → c.state = .held → c.station ∈ cranesOf a → id ∉ s.backlog →
          t.claim? id = some { c with state := .presented, unseen := true }))
  ∧
  (∀ (s : State) (k : Crane) (input : ShutterInput) (level : Bool), s.inReset = false → s.settled → s.workLaws →
    let a := aisleOf k
    let sh : Shutter := match input with
      | .openInput => { s.shutter k with openIn := level }
      | .closedInput => { s.shutter k with closedIn := level }
    (s.fire a).state = .reopening → (s.shutter k).isOpen = false →
    (∀ j ∈ cranesOf a, ((s.modShutter k (fun _ => sh)).shutter j).isOpen = true) →
    ∃ t, exec (.shutterInputSettled k input level) s = .next t
      ∧ (∀ e ∈ t.tasks.entries, aisleOf e.2.crane = a → e.2.kind ≠ .park ∧ (e.2.state = .blocked → e.2.block ≠ some .aisleClosed))
      ∧ (∀ id u, s.task? id = some u → u.kind = .park → aisleOf u.crane = a →
          (∀ i v, s.task? i = some v → v.kind = .park → v.crane = u.crane → i = id) →
          t.task? id = none ∧ (t.crane u.crane).lastCompleted = some (id, .park))
      ∧ (∀ (j : Crane) (id : Nat) (u : Task), aisleOf j = a → (s.crane j).active = some id → s.task? id = some u →
          u.kind = .park →
          ((s.crane j).stack = [] → (t.crane j).active = none ∧ (t.crane j).stack = [])
          ∧ ∀ (old : Nat) (rest : List Nat) (o : Task), (s.crane j).stack = old :: rest → s.task? old = some o →
            (∀ i ∈ (s.crane j).queue, ∀ v, s.task? i = some v → o.cls ≤ v.cls) →
            (t.crane j).active = some old ∧ (t.crane j).stack = rest ∧ t.task? old = some { o with state := .active }
              ∧ (t.port (.k j)).latch.getLsbD NoticeK.taskReady.position = true))

/-- SHUTTER_HOLD_EXPIRY in PARKING (R133, R134): every hold-open line of the aisle is released, every crane of it that is not
PARKED has its fire hold set, and the aisle enters CLOSING with the hold timer stopped and the confirm timer at T_sc, or
SEALED if both shutters are closed, which sets both fire holds. SHUTTER_CONFIRM_EXPIRY (R135, R136, R139): in CLOSING each
shutter that is not closed has its fault flag set, SHUTTER_FAULT is latched and the aisle enters SEALED with both fire holds
set; in REOPENING each shutter that is not open has its fault flag set, SHUTTER_FAULT is latched, the timer stops and the
aisle stays. -/
def Obligations.ShutterTimersExpire : Prop :=
  (∀ (s : State) (a : Aisle), s.inReset = false → (s.fire a).state = .parking → (s.fire a).hold = ⟨true, 0⟩ →
    let closed : Prop := ∀ k ∈ cranesOf a, (s.shutter k).isClosed = true
    ∃ t, exec (.shutterHoldExpiry a) s = .next t
      ∧ (∀ k ∈ cranesOf a, t.shutter k = { s.shutter k with holdOpen := false }
          ∧ ((s.rail k).state ≠ .parked → t.rail k = { s.rail k with fireHold := true } ∧ t.stopLine k = true))
      ∧ (t.fire a).hold.running = false
      ∧ (closed → (t.fire a).state = .sealed ∧ (t.fire a).confirm.running = false
          ∧ ∀ k ∈ cranesOf a, (t.rail k).fireHold = true)
      ∧ (¬ closed → (t.fire a).state = .closing ∧ (t.fire a).confirm = ⟨true, s.params.shutterConfirm * 1000⟩
          ∧ ∀ k ∈ cranesOf a, (s.rail k).state = .parked → t.rail k = s.rail k)
      ∧ (∀ k, aisleOf k ≠ a → t.rail k = s.rail k ∧ t.shutter k = s.shutter k)
      ∧ t = { s with fires := t.fires, shutters := t.shutters, rails := t.rails, portK := t.portK })
  ∧
  (∀ (s : State) (a : Aisle), s.inReset = false → (s.fire a).confirm = ⟨true, 0⟩ →
    let faulted (t : State) (ok : Shutter → Bool) : Prop :=
      (∀ k ∈ cranesOf a, t.shutter k = { s.shutter k with fault := (s.shutter k).fault || !ok (s.shutter k) })
      ∧ (∀ k, aisleOf k ≠ a → t.shutter k = s.shutter k)
      ∧ t.portC = { s.portC with latch := s.portC.latch ||| 4 } ∧ t.sources.shutterFault.getLsbD a.val = true
      ∧ (t.fire a).confirm.running = false
    ((s.fire a).state = .closing → ∃ t, exec (.shutterConfirmExpiry a) s = .next t ∧ faulted t Shutter.isClosed
      ∧ (t.fire a).state = .sealed ∧ (∀ k ∈ cranesOf a, t.rail k = { s.rail k with fireHold := true })
      ∧ t = { s with
          fires := t.fires, shutters := t.shutters, rails := t.rails, portC := t.portC, portK := t.portK,
          sources := t.sources })
    ∧ ((s.fire a).state = .reopening → ∃ t, exec (.shutterConfirmExpiry a) s = .next t ∧ faulted t Shutter.isOpen
      ∧ (t.fire a).state = .reopening
      ∧ t = { s with fires := t.fires, shutters := t.shutters, portC := t.portC, sources := t.sources }))

/-- RESUME_AISLE (R137): refused for an aisle above 1, in alarm, or in NORMAL, PARKING or CLOSING; accepted in SEALED or
REOPENING it clears the shutter faults, asserts the hold-open lines and starts the confirm timer at T_sc in REOPENING, with
every fire hold kept; with both shutters open the aisle goes on to NORMAL in the same step. Fields of the response that R157
gives no type are laid out as log 13 says. That an aisle with both shutters open goes from SEALED on to NORMAL in the same
step is the model's reading (log 40). -/
def Obligations.ResumeAisleReopens : Prop :=
  ∀ (s : State) (q : Request), s.hasRequest .c q → q.kind = .resumeAisle → s.settled →
    (1 < byteAt q.body 0 → exec .resumeAisle s = .next (s.answered .c q .outOfRange []))
    ∧ ∀ a : Aisle, byteAt q.body 0 = a.val →
      (s.alarm a = true → exec .resumeAisle s = .next (s.answered .c q .fireActive []))
      ∧ (s.alarm a = false →
        ((s.fire a).state = .normal ∨ (s.fire a).state = .parking ∨ (s.fire a).state = .closing →
          exec .resumeAisle s = .next (s.answered .c q .wingState []))
        ∧ ((s.fire a).state = .sealed ∨ (s.fire a).state = .reopening →
          (¬ (∀ k ∈ cranesOf a, (s.shutter k).isOpen = true) → ∃ t, exec .resumeAisle s = .next t
            ∧ t.fire a = { s.fire a with state := .reopening, confirm := ⟨true, s.params.shutterConfirm * 1000⟩ }
            ∧ (∀ b, b ≠ a → t.fire b = s.fire b)
            ∧ (∀ k ∈ cranesOf a, t.shutter k = { s.shutter k with fault := false, holdOpen := true })
            ∧ (∀ k, aisleOf k ≠ a → t.shutter k = s.shutter k) ∧ t.wingSealed = false
            ∧ t = State.answered { s with fires := t.fires, shutters := t.shutters } .c q .ok (t.firePart a))
          ∧ ((∀ k ∈ cranesOf a, (s.shutter k).isOpen = true) → ∃ t, exec .resumeAisle s = .next t
            ∧ (t.fire a).state = .normal
            ∧ ∀ k ∈ cranesOf a, (t.shutter k).fault = false ∧ (t.shutter k).holdOpen = true
              ∧ (t.rail k).fireHold = false ∧ (t.station k).staff = (s.station k).staff)))

/-! ### The whole wing (Chapters 9 and 11) and the laws that every step keeps -/

/-- CONFIGURE of one value that takes no part in the consistency pass (R169, R170): the parameter takes the value clamped
into its range, CLAMPED is answered when that changed it, and nothing else changes. The park positions are clear of the
planes. CONFIGURE refused whole (R169, R170): an entry that names no parameter instance gives OUT_OF_RANGE, and a geometry
parameter while the wing is OPEN gives WING_STATE; nothing but the response slot changes. CONFIGURE of one value that takes
part in the consistency pass (R170, R171): a written T_park, or B, is lowered no further than needed for every park position
to lie more than B + T_park from each plane of its aisle; a raised G is no more than the smallest gap between two CALIBRATED
reservations of an aisle; in LOADING, positions and limits are clamped into [0, L], Tmin_k and Tmax_k do not cross, and a
plane or a park position goes to the nearest clear point, the lower of two; with no such point the frame is refused. Nothing
else changes. CONFIGURE in LOADING of a rail length (R108, R171), which is raised to the largest station position, plane,
park position and Tmax_k of its aisle and takes the HOME_SIDE limits along, a limit at the old rail end to the new one and
any other into [0, L], at its present value too; and of R, F_a and Pb_a (R170), which change nothing else. CONFIGURE of a
channel's parameter (R92, R100, R107, R170): ref_count, and P, edge mode or polarity of a channel that is not CALIBRATED or
to its present value, is taken and changes nothing else; another P, edge mode or polarity of a CALIBRATED channel makes it
FAULTED with cause RECONFIGURED, its captures invalid, and its READY crane STOPPED with cause CHANNEL and the HOME_SIDE form
of R108. Fields of the response that R157 gives no type are laid out as log 13 says. The nearest point in whole millimetres
and the literal minimum of G are the model's readings (log 33, log 34). -/
def Obligations.ConfigureSetsParameters : Prop :=
  (∀ (s : State) (q : Request), s.hasRequest .c q → q.kind = .configure → s.settled → q.body.length = 7 →
    s.params.parkReach < s.params.parkClearance →
    let v := signedAt q.body 3
    let P := s.params
    let taken (lo hi : Int) (new : Int → Params) : Prop :=
      let w := max lo (min v hi)
      exec .configure s = .next (State.answered { s with params := new w } .c q (if w = v then .ok else .clamped)
        ([1] ++ put16 (wordAt q.body 0) ++ put8 (byteAt q.body 2) ++ putInt w))
    let rows : List (Nat × Int × Int × (Int → Params)) :=
      [(20, 1, 200, fun w => { P with tRef := w }),
       (21, 5, 200, fun w => { P with tPick := w }),
       (23, 4, 32, fun w => { P with window := w.toNat }),
       (24, 200, 4000, fun w => { P with brake := w.toNat }),
       (25, 0, 500, fun w => { P with reaction := w.toNat }),
       (28, 0, 20000, fun w => { P with slip := w }),
       (30, 100, 6000, fun w => { P with vFire := w.toNat }),
       (31, 50, 1000, fun w => { P with vCreep := w.toNat }),
       (32, 50, 2000, fun w => { P with linkTime := w.toNat }),
       (33, 5, 120, fun w => { P with shutterHold := w.toNat }),
       (34, 5, 60, fun w => { P with shutterConfirm := w.toNat }),
       (35, 60, 3600, fun w => { P with dwell := w.toNat }),
       (36, 0, 255, fun w => { P with weights := { P.weights with travel := w.toNat } }),
       (37, 0, 255, fun w => { P with weights := { P.weights with level := w.toNat } }),
       (38, 0, 255, fun w => { P with weights := { P.weights with depth := w.toNat } })]
    (∀ row ∈ rows, wordAt q.body 0 = row.1 → byteAt q.body 2 = 0 → taken row.2.1 row.2.2.1 row.2.2.2)
    ∧ ∀ k : Crane, wordAt q.body 0 = 29 → byteAt q.body 2 = k.val →
      taken 100 6000 (fun w => { P with vMax := P.vMax.set k w.toNat }))
  ∧
  (∀ (s : State) (q : Request), s.hasRequest .c q → q.kind = .configure → q.body.length = 7 →
    let id := wordAt q.body 0
    let inst := byteAt q.body 2
    let none' : Prop := id = 0 ∨ id = 14 ∨ id = 15 ∨ 38 < id
      ∨ inst ≥ (if id ≤ 5 then 1 else if id ≤ 8 then 2 else if id ≤ 19 ∨ id = 29 then 4 else 1)
    (none' → exec .configure s = .next (s.answered .c q .outOfRange []))
    ∧ (¬ none' → s.wing = .opened → id ≤ 13 → exec .configure s = .next (s.answered .c q .wingState [])))
  ∧
  (∀ (s : State) (q : Request) (w : Int), s.hasRequest .c q → q.kind = .configure → s.settled → q.body.length = 7 →
    s.params.parkReach < s.params.parkClearance →
    let v := signedAt q.body 3
    let P := s.params
    let at' (id inst : Nat) : Prop := wordAt q.body 0 = id ∧ byteAt q.body 2 = inst
    let taken (new : Params) : Prop :=
      exec .configure s = .next (State.answered { s with params := new } .c q (if w = v then .ok else .clamped)
        ([1] ++ put16 (wordAt q.body 0) ++ put8 (byteAt q.body 2) ++ putInt w))
    let far (reach : Int) : Prop := ∀ k, ∀ j ∈ cranesOf (aisleOf k), reach < ((P.parkPos[k] - P.planePos[j]).natAbs : Int)
    let lowered (least c other : Int) : Prop := least ≤ w ∧ w ≤ c ∧ far (w + other) ∧ ∀ x, w < x → x ≤ c → ¬ far (x + other)
    let present (g : Int) : Prop := ∃ (a : Aisle) (west east : Span), (s.rail (westCrane a)).reservation = .calibrated west
      ∧ (s.rail (eastCrane a)).reservation = .calibrated east ∧ g = east.west - west.east
    let inRail (c : Int) (k : Crane) : Int := max 0 (min c P.railLength[aisleOf k])
    let place := max 0 (min v 200000)
    let clear (k : Crane) (centre : Crane → Int) (x : Int) : Prop := 0 ≤ x ∧ x ≤ P.railLength[aisleOf k]
      ∧ ∀ j ∈ cranesOf (aisleOf k), P.halfLength + P.tPark < ((x - centre j).natAbs : Int)
    let away (k : Crane) (x : Int) : Nat := (x - inRail place k).natAbs
    let nearest (k : Crane) (centre : Crane → Int) : Prop := clear k centre w
      ∧ ∀ x, clear k centre x → away k w < away k x ∨ (away k w = away k x ∧ w ≤ x)
    (at' 22 0 → lowered 10 (max 10 (min v 500)) P.halfLength → taken { P with tPark := w })
    ∧ (at' 26 0 → lowered 200 (max 200 (min v 5000)) P.tPark → taken { P with halfLength := w })
    ∧ (∀ c, c = max 100 (min v 5000) → at' 27 0 →
        (c ≤ P.gap ∧ w = c ∨ P.gap < c ∧ w ≤ c ∧ (∀ g, present g → w ≤ g) ∧ (w = c ∨ present w)) → taken { P with gap := w })
    ∧ (s.wing = .loading → ∀ k : Crane, 0 ≤ P.railLength[aisleOf k] →
        (at' 9 k.val → w = inRail place k → taken { P with stationPos := P.stationPos.set k w })
        ∧ (at' 12 k.val → w = min (inRail place k) P.tmax[k] → taken { P with tmin := P.tmin.set k w })
        ∧ (at' 13 k.val → w = max (inRail place k) P.tmin[k] → taken { P with tmax := P.tmax.set k w })
        ∧ (at' 10 k.val → nearest k (fun j => P.parkPos[j]) → taken { P with planePos := P.planePos.set k w })
        ∧ (at' 11 k.val → nearest k (fun j => P.planePos[j]) → taken { P with parkPos := P.parkPos.set k w })
        ∧ (at' 10 k.val → (∀ x, ¬ clear k (fun j => P.parkPos[j]) x) →
            exec .configure s = .next (s.answered .c q .outOfRange []))
        ∧ (at' 11 k.val → (∀ x, ¬ clear k (fun j => P.planePos[j]) x) →
            exec .configure s = .next (s.answered .c q .outOfRange []))))
  ∧
  (∀ (s : State) (q : Request) (w : Int) (a : Aisle), s.hasRequest .c q → q.kind = .configure → s.settled →
    q.body.length = 7 → s.params.parkReach < s.params.parkClearance → s.wing = .loading →
    let v := signedAt q.body 3
    let P := s.params
    let at' (id inst : Nat) : Prop := wordAt q.body 0 = id ∧ byteAt q.body 2 = inst
    let takes (t : State) (new : Params) (rails : Vector Rail 4) : Prop :=
      t = State.answered { s with params := new, rails := rails } .c q (if w = v then .ok else .clamped)
        ([1] ++ put16 (wordAt q.body 0) ++ put8 (byteAt q.body 2) ++ putInt w)
    let place (x : Int) : Prop := ∃ k ∈ cranesOf a,
      x = P.stationPos[k] ∨ x = P.planePos[k] ∨ x = P.parkPos[k] ∨ x = P.tmax[k]
    let length := max 1000 (min v 200000)
    (at' 8 a.val → length ≤ w → (∀ x, place x → x ≤ w) → (w = length ∨ place w) →
      ∃ t, exec .configure s = .next t ∧ takes t { P with railLength := P.railLength.set a w } t.rails
        ∧ ∀ k, t.rail k = { s.rail k with reservation := (match (s.rail k).reservation with
            | .homeSide x => .homeSide (if aisleOf k ≠ a then x else if x = P.railLength[a] then w else max 0 (min x w))
            | r => r) })
    ∧ (at' 5 0 → w = max 4 (min v 64) →
      ∃ t, exec .configure s = .next t ∧ takes t { P with reserve := w.toNat } s.rails)
    ∧ (at' 6 a.val → w = max 0 (min v 200000) →
      ∃ t, exec .configure s = .next t ∧ takes t { P with firstBay := P.firstBay.set a w } s.rails)
    ∧ (at' 7 a.val → w = max 300 (min v 3000) →
      ∃ t, exec .configure s = .next t ∧ takes t { P with bayPitch := P.bayPitch.set a w } s.rails))
  ∧
  (∀ (s : State) (q : Request) (k : Crane) (w : Int), s.hasRequest .c q → q.kind = .configure → s.settled →
    q.body.length = 7 → s.params.parkReach < s.params.parkClearance → byteAt q.body 2 = k.val →
    let v := signedAt q.body 3
    let P := s.params
    let answer (t : State) : State := t.answered .c q (if w = v then .ok else .clamped)
      ([1] ++ put16 (wordAt q.body 0) ++ put8 k.val ++ putInt w)
    let taken (new : Params) (same : Prop) : Prop :=
      ((same ∨ (s.channel k).state ≠ .calibrated) → exec .configure s = .next (answer { s with params := new }))
      ∧ (∀ sp, (s.rail k).reservation = .calibrated sp → ¬ same → (s.channel k).state = .calibrated →
          (s.rail k).state = .ready →
        ∃ t, exec .configure s = .next t
          ∧ t.channel k = { s.channel k with
              state := .faulted, fault := .reconfigured, pick := { (s.channel k).pick with valid := false },
              setDown := { (s.channel k).setDown with valid := false } }
          ∧ t.rail k = { s.rail k with
              state := .stopped, silentFrom := none, stopCause := .channel, granted := none, pending := none,
              reservation := .homeSide (if isWest k then min P.railLength[aisleOf k] (sp.east + P.slip)
                else max 0 (sp.west - P.slip)) }
          ∧ (∀ j, j ≠ k → t.rail j = s.rail j ∧ t.channel j = s.channel j) ∧ t.stopLine k = true
          ∧ t.sources.craneFault.getLsbD k.val = true
          ∧ t = answer { s with
              params := new, channels := t.channels, rails := t.rails, portK := t.portK, sources := t.sources,
              portC := { s.portC with latch := s.portC.latch ||| 2 } })
    (wordAt q.body 0 = 16 → w = max 1 (min v 4000) → taken { P with pitch := P.pitch.set k w.toNat } (w = P.pitch[k]))
    ∧ (wordAt q.body 0 = 17 → w = (if v ≤ 1 then 1 else if v ≤ 3 then 2 else 4) →
        taken { P with edgeMode := P.edgeMode.set k w.toNat } (w = P.edgeMode[k]))
    ∧ (wordAt q.body 0 = 18 → w = (if v ≤ 0 then 0 else 1) →
        taken { P with inverted := P.inverted.set k (decide (w = 1)) } (w = 1 ↔ P.inverted[k] = true))
    ∧ (wordAt q.body 0 = 19 → w = v → taken { P with refCount := P.refCount.set k (BitVec.ofInt 32 v) } True))

/-- CONFIGURE of the wing's geometry in LOADING (R6, R169): a new number of bays, of levels or default lane depth returns
every lane to its reset record and makes every STORED bin ABSENT, the other bins as they stood; a lower C takes every fill to
at most C; nothing else changes. CONFIGURE of 1 to 8 values that take no part in the consistency pass, global ones (R158,
R169, R170): every parameter takes the value of its last entry, clamped into its range, and the response carries each entry
with the value its parameter holds after the step. The status is CLAMPED if a last entry's value was changed (log 32).
Nothing else changes. CONFIGURE of two values that the consistency pass sets against each other (R169, R171): with both
travel limits of a crane written and crossed, Tmax_k takes Tmin_k; a place written with L is clamped into the new L, which it
does not bound; of T_park and B both written, T_park is lowered first and then B, each no further than needed; a plane and a
park position both written go each to the nearest clear point, the plane from the unwritten park position of its aisle, the
park position from both planes. The entries stand in either order. Fields of the response that R157 gives no type are laid
out as log 13 says. The nearest point in whole millimetres, each position moved in turn, is the model's reading (log 33). -/
def Obligations.ConfigureRebuildsTheLanes : Prop :=
  (∀ (s : State) (q : Request), s.hasRequest .c q → q.kind = .configure → s.settled → q.body.length = 7 →
    s.params.parkReach < s.params.parkClearance → s.wing = .loading → s.bins.wf = true → byteAt q.body 2 = 0 →
    let v := signedAt q.body 3
    let P := s.params
    let answer (w : Int) (t : State) : State := t.answered .c q (if w = v then .ok else .clamped)
      ([1] ++ put16 (wordAt q.body 0) ++ [0] ++ putInt w)
    let rebuilt (w : Int) (new : Params) : Prop := ∃ t, exec .configure s = .next t
      ∧ (∀ i, t.lane i = ⟨0, new.laneDepth, [], 0⟩)
      ∧ (∀ b, t.bin? b = (s.bin? b).filter (fun r => match r.place with
          | .stored _ => false
          | _ => true))
      ∧ t = answer w { s with params := new, lanes := ⟨[]⟩, bins := t.bins }
    (∀ w, wordAt q.body 0 = 1 → w = max 1 (min v 64) → w.toNat ≠ P.bays → rebuilt w { P with bays := w.toNat })
    ∧ (∀ w, wordAt q.body 0 = 2 → w = max 1 (min v 8) → w.toNat ≠ P.levels → rebuilt w { P with levels := w.toNat })
    ∧ (∀ w, wordAt q.body 0 = 3 → w = max 1 (min v 4) → w.toNat ≠ P.laneDepth →
        rebuilt w { P with laneDepth := w.toNat })
    ∧ (∀ w, wordAt q.body 0 = 4 → w = max 20 (min v 250) → w.toNat < P.capacity → ∃ t, exec .configure s = .next t
        ∧ (∀ b, t.bin? b = (s.bin? b).map (fun r => { r with fill := min r.fill w.toNat }))
        ∧ t = answer w { s with params := { P with capacity := w.toNat }, bins := t.bins }))
  ∧
  (∀ (s : State) (q : Request) (n : Nat), s.hasRequest .c q → q.kind = .configure → s.settled →
    1 ≤ n → n ≤ 8 → q.body.length = 7 * n → s.params.parkReach < s.params.parkClearance →
    let rows : List (Nat × Int × Int × (Params → Int) × (Params → Int → Params)) :=
      [(20, 1, 200, fun p => p.tRef, fun p w => { p with tRef := w }),
       (21, 5, 200, fun p => p.tPick, fun p w => { p with tPick := w }),
       (23, 4, 32, fun p => p.window, fun p w => { p with window := w.toNat }),
       (24, 200, 4000, fun p => p.brake, fun p w => { p with brake := w.toNat }),
       (25, 0, 500, fun p => p.reaction, fun p w => { p with reaction := w.toNat }),
       (28, 0, 20000, fun p => p.slip, fun p w => { p with slip := w }),
       (30, 100, 6000, fun p => p.vFire, fun p w => { p with vFire := w.toNat }),
       (31, 50, 1000, fun p => p.vCreep, fun p w => { p with vCreep := w.toNat }),
       (32, 50, 2000, fun p => p.linkTime, fun p w => { p with linkTime := w.toNat }),
       (33, 5, 120, fun p => p.shutterHold, fun p w => { p with shutterHold := w.toNat }),
       (34, 5, 60, fun p => p.shutterConfirm, fun p w => { p with shutterConfirm := w.toNat }),
       (35, 60, 3600, fun p => p.dwell, fun p w => { p with dwell := w.toNat }),
       (36, 0, 255, fun p => p.weights.travel, fun p w => { p with weights := { p.weights with travel := w.toNat } }),
       (37, 0, 255, fun p => p.weights.level, fun p w => { p with weights := { p.weights with level := w.toNat } }),
       (38, 0, 255, fun p => p.weights.depth, fun p w => { p with weights := { p.weights with depth := w.toNat } })]
    let id (j : Nat) : Nat := wordAt q.body (7 * j)
    let value (j : Nat) : Int := signedAt q.body (7 * j + 3)
    let last (j : Nat) : Prop := ∀ i, j < i → i < n → id i ≠ id j
    (∀ j < n, (∃ row ∈ rows, row.1 = id j) ∧ byteAt q.body (7 * j + 2) = 0) →
    ∃ new st, exec .configure s = .next (State.answered { s with params := new } .c q st
        (put8 n ++ (List.range n).flatMap (fun j =>
          put16 (id j) ++ [0] ++ putInt (((rows.find? (fun row => row.1 == id j)).map (fun row => row.2.2.2.1 new)).getD 0))))
      ∧ (∀ row ∈ rows, (∀ j < n, last j → id j = row.1 → row.2.2.2.1 new = max row.2.1 (min (value j) row.2.2.1))
          ∧ ((∀ j < n, id j ≠ row.1) → row.2.2.2.1 new = row.2.2.2.1 s.params))
      ∧ new = rows.foldl (fun p row => row.2.2.2.2 p (row.2.2.2.1 new)) s.params
      ∧ (st = .ok ∨ st = .clamped)
      ∧ (st = .ok ↔ ∀ row ∈ rows, ∀ j < n, last j → id j = row.1 → row.2.1 ≤ value j ∧ value j ≤ row.2.2.1))
  ∧
  (∀ (s : State) (q : Request) (first : Bool) (w x : Int), s.hasRequest .c q → q.kind = .configure → s.settled →
    q.body.length = 14 → s.params.parkReach < s.params.parkClearance →
    let P := s.params
    let i := if first then 0 else 7
    let j := if first then 7 else 0
    let v := signedAt q.body (i + 3)
    let u := signedAt q.body (j + 3)
    let pair (id inst id' inst' : Nat) : Prop :=
      wordAt q.body i = id ∧ byteAt q.body (i + 2) = inst ∧ wordAt q.body j = id' ∧ byteAt q.body (j + 2) = inst'
    let entry (at' : Nat) (y : Int) : List Byte := put16 (wordAt q.body at') ++ put8 (byteAt q.body (at' + 2)) ++ putInt y
    let answer (t : State) : State := t.answered .c q (if w = v ∧ x = u then .ok else .clamped)
      ([2] ++ (if first then entry i w ++ entry j x else entry j x ++ entry i w))
    let taken (new : Params) : Prop := exec .configure s = .next (answer { s with params := new })
    let inside (len y : Int) : Int := max 0 (min (max 0 (min y 200000)) len)
    let far (reach : Int) : Prop := ∀ k, ∀ c ∈ cranesOf (aisleOf k), reach < ((P.parkPos[k] - P.planePos[c]).natAbs : Int)
    let clear (len z : Int) (centres : List Int) : Prop :=
      0 ≤ z ∧ z ≤ len ∧ ∀ m ∈ centres, P.halfLength + P.tPark < ((z - m).natAbs : Int)
    let nearest (len c y : Int) (centres : List Int) : Prop := clear len y centres
      ∧ ∀ z, clear len z centres → (y - c).natAbs < (z - c).natAbs ∨ ((y - c).natAbs = (z - c).natAbs ∧ y ≤ z)
    (∀ t b : Int, t = max 10 (min v 500) → b = max 200 (min u 5000) → pair 22 0 26 0 →
      (w ≤ t ∧ x = b ∧ far (w + b) ∧ 10 ≤ w ∧ (∀ y, w < y → y ≤ t → ¬ far (y + b))
        ∨ w = 10 ∧ ¬ far (10 + b) ∧ 200 ≤ x ∧ x ≤ b ∧ far (10 + x) ∧ ∀ y, x < y → y ≤ b → ¬ far (10 + y)) →
      taken { P with tPark := w, halfLength := x })
    ∧ (s.wing = .loading → ∀ k : Crane,
      let L := P.railLength[aisleOf k]
      0 ≤ L →
      (pair 12 k.val 13 k.val → w = inside L v → x = max (inside L u) w →
        taken { P with tmin := P.tmin.set k w, tmax := P.tmax.set k x })
      ∧ (pair 10 k.val 11 k.val →
        nearest L (inside L v) w
          (((cranesOf (aisleOf k)).filter (· ≠ k)).map (fun c => P.parkPos[c])) →
        nearest L (inside L u) x
          ((cranesOf (aisleOf k)).map (fun c => (P.planePos.set k w)[c])) →
        taken { P with planePos := P.planePos.set k w, parkPos := P.parkPos.set k x })
      ∧ (pair 8 (aisleOf k).val 9 k.val → max 1000 (min v 200000) ≤ w →
        (∀ c ∈ cranesOf (aisleOf k), (c ≠ k → P.stationPos[c] ≤ w) ∧ P.planePos[c] ≤ w ∧ P.parkPos[c] ≤ w ∧ P.tmax[c] ≤ w) →
        (w = max 1000 (min v 200000) ∨ ∃ c ∈ cranesOf (aisleOf k),
          (c ≠ k ∧ w = P.stationPos[c]) ∨ w = P.planePos[c] ∨ w = P.parkPos[c] ∨ w = P.tmax[c]) →
        x = inside w u →
        ∃ t, exec .configure s = .next t
          ∧ t = answer { s with
              params := { P with railLength := P.railLength.set (aisleOf k) w, stationPos := P.stationPos.set k x },
              rails := t.rails }
          ∧ ∀ c, t.rail c = { s.rail c with reservation := (match (s.rail c).reservation with
              | .homeSide y => .homeSide (if aisleOf c ≠ aisleOf k then y else if y = L then w
                  else max 0 (min y w))
              | r => r) })))

/-- WING_RESTART (R20, R45, R85, R160, R161, R163): refused in LOADING, while a task is ACTIVE or SUSPENDED, and while a bin
is on a fork; accepted, it empties the claim table and the backlog, the search and the sweep, every chain, reserved count and
incoming count, every latch, and every crane's stack, standing yield, undelivered marker, room refusal and last completed,
keeps the wing state, the parameters, the masks and slots, the rail, channel, station and fire records, and admits a HOME for
each UNHOMED crane, a PARK for each crane of an aisle out of NORMAL and, on the station's own crane, a STOW for each bin that
stands at one station position, all QUEUED. Of the latch flags only TASK_READY stands after it, at the cranes that were given
a task (R67). Fields of the response that R157 gives no type are laid out as log 13 says. PARK and HOME carry their
destination from their admission (log 30). -/
def Obligations.WingRestartClearsTheWork : Prop :=
  ∀ (s : State) (q : Request), s.hasRequest .c q → q.kind = .wingRestart →
    (s.wing = .loading → exec .wingRestart s = .next (s.answered .c q .wingState []))
    ∧ ((∃ e ∈ s.tasks.entries, e.2.state = .active ∨ e.2.state = .suspended) → s.wing = .opened →
      exec .wingRestart s = .next (s.answered .c q .busy []))
    ∧ ((∃ e ∈ s.bins.entries, ∃ k, e.2.place = .onCrane k) → s.wing = .opened →
      exec .wingRestart s = .next (s.answered .c q .busy []))
    ∧ (s.wing = .opened → s.settled → s.tablesWf → (∀ k, (s.crane k).active = none ∧ (s.crane k).stack = []) →
      (∀ e ∈ s.tasks.entries, e.2.state ≠ .active ∧ e.2.state ≠ .suspended) →
      (∀ e ∈ s.bins.entries, ∀ k, e.2.place ≠ .onCrane k) →
      ∃ t, exec .wingRestart s = .next t
        ∧ (∀ id, t.claim? id = none) ∧ t.backlog = []
        ∧ t.search.state = .idle ∧ t.search.request = none ∧ t.search.result = none
        ∧ t.sweep.state = .none ∧ t.sweep.buffer = []
        ∧ (∀ b, t.bin? b = (s.bin? b).map (fun r => { r with reserved := 0, chain := [] }))
        ∧ (∀ i, t.lane i = { s.lane i with incoming := 0 })
        ∧ (∀ k, t.port (.k k) = { s.port (.k k) with latch := (t.port (.k k)).latch }
            ∧ ∀ i, (t.port (.k k)).latch.getLsbD i = true ↔
              i = NoticeK.taskReady.position ∧ ∃ id u, t.task? id = some u ∧ u.crane = k)
        ∧ t.sources = ⟨0, 0, 0, 0⟩
        ∧ (∀ k, t.crane k = ⟨(t.crane k).queue, [], none, none, .none, false, none⟩
            ∧ ∀ id, id ∈ (t.crane k).queue ↔ ∃ u, t.task? id = some u ∧ u.crane = k)
        ∧ (∀ id u, t.task? id = some u → u.state = .queued ∧ u.admitted = s.wingTime
            ∧ (u.kind = .home ∨ u.kind = .park ∨ u.kind = .stow))
        ∧ (∀ k, (s.rail k).state = .unhomed → ∃ id u, t.task? id = some u ∧ u.kind = .home ∧ u.crane = k
            ∧ u.dest = some (.rail (if isWest k then s.params.tmin[k] else s.params.tmax[k])))
        ∧ (∀ k, (s.fire (aisleOf k)).state ≠ .normal → ∃ id u, t.task? id = some u ∧ u.kind = .park ∧ u.crane = k
            ∧ u.dest = some (.rail s.params.parkPos[k]))
        ∧ (∀ (k : Crane) (p : Pos) b, (s.station k).bins[p] = some b →
            (∀ (j : Crane) (y : Pos), (s.station j).bins[y] = some b → j = k ∧ y = p) →
            ∃ id u, t.task? id = some u ∧ u.kind = .stow ∧ u.bin = some b ∧ u.crane = k ∧ u.cls = 4
              ∧ u.source = some (.station p))
        ∧ t.portC = { s.portC with
            latch := 0,
            slot := .holding ⟨.ok, BitVec.ofNat 8 q.kind.code, q.tag, put8 s.claims.entries.length
              ++ put8 s.tasks.entries.length ++ put8 t.stowCount ++ put16 s.presentCount⟩ }
        ∧ t.wing = .opened ∧ t.params = s.params ∧ t.rails = s.rails ∧ t.channels = s.channels ∧ t.fires = s.fires
        ∧ t.shutters = s.shutters ∧ t.stations = s.stations ∧ t.wingTime = s.wingTime ∧ t.pending = s.pending)

/-- Every step keeps the tables in their one canonical form: numbers strictly rising, and no lane listed that equals the
reset lane (log 4). -/
def Obligations.TablesStayCanonical : Prop :=
  ∀ s t : State, s.tablesWf → step s = .next t → t.tablesWf

/-- The hold-open law of R131, kept by every step: a station's hold-open line is asserted in NORMAL and REOPENING and
released in CLOSING and SEALED. Over every step, from any state, an asserted line is released only once its plane is clear,
in PARKING as on the way out of it, or by the shutter hold timer's expiry in PARKING (T_sh, R133), which leaves PARKING; and
a released line stays released, in PARKING and for the rest of the sequence, until NORMAL, REOPENING or the end of a reset
(R126). -/
def Obligations.HoldOpenLawIsKept : Prop :=
  ∀ s t : State, step s = .next t → (s.holdOpenLaw → t.holdOpenLaw) ∧ s.keepsHoldOpenLaw t

/-- The overrun law of R117 with the forms of R108, kept by every step: a calibrated crane whose last window envelope lies
outside its reservation is OFFLINE, STOPPED or LOST, so that its STOP line is asserted; a CALIBRATED reservation belongs to a
calibrated crane that is neither OFFLINE nor LOST, a FROZEN one to a LOST crane, and a HOME_SIDE one to a crane that is
OFFLINE or not calibrated. The separation law of R112, kept by every step: the two CALIBRATED reservations of an aisle keep
the gap G. The trim of ARRIVED takes no rail toward the other crane (log 43). -/
def Obligations.OverrunAndFormLawsAreKept : Prop :=
  (∀ s t : State, s.formLaw → s.overrunLaw → step s = .next t → t.formLaw ∧ t.overrunLaw)
  ∧
  (∀ s t : State, s.formLaw → s.separationLaw → step s = .next t → t.separationLaw)

/-- The stack law of R75 and the lane-capacity law of R5, kept by every step, and the aisle law of R64, kept over every step,
from a state that meets the laws of the directory, the claim unit and the task unit (State.workLaws). A crane suspends at
most 4 tasks, and the classes rise strictly from its active task's down the stack; every task of the table is in the
collection of R61 that its state names. In every lane occupants + incoming ≤ depth, and incoming is the number of slots that
the tasks at work hold there: the unfinished dig entries and the source hold of a FETCH (R72), the destination of a STOW or
RELOCATE, less the slot that a redirection gave up (R78). No task other than a PARK becomes ACTIVE while its aisle is not
NORMAL. -/
def Obligations.TaskLawsAreKept : Prop :=
  ∀ s t : State, s.workLaws → step s = .next t → t.stackLaw ∧ t.laneLaw ∧ s.keepsAisleLaw t

/-- The capacity law and the reserved-units law of R37, kept by every step from a state that meets State.workLaws: for every
bin fill + reserved ≤ C, and reserved is the sum of the units of the PENDING items of the live RETURN claims in its chain,
which lists exactly the live claims on the bin, each once (R29, R34). The single-place law of R8 for stored bins, kept by
every step: a lane lists exactly the bins that are STORED in it, each once, and a bin that a station position lists is
AT_STATION there, so that no bin is listed in two places. -/
def Obligations.BinLawsAreKept : Prop :=
  (∀ s t : State, s.workLaws → step s = .next t → t.unitsLaw)
  ∧
  (∀ s t : State, s.tablesWf → s.placeLaw → step s = .next t → t.placeLaw)

/-- The station law of R32, kept by every step from a state that meets State.workLaws: a PRESENTED or HELD claim is the head
of its bin's chain, and the bin stands at the claim's station. With it go the laws that keep it: a FETCH and a redirected
step serve a claim that waits at the head of the chain of their bin (R30, R78), a claim in the backlog has no task and its
bin is STORED (R39), a fork holds at most the one bin that a set step of its crane carries (R8, R63), and a STOW at its pick
finds its bin at its position with no claim presented (R79). -/
def Obligations.StationLawIsKept : Prop :=
  ∀ s t : State, s.workLaws → step s = .next t → t.serviceLaw ∧ t.carryLaw ∧ t.stationLaw

/-- The bounds of the sweep's result buffer (R142, R145), kept by every step: at most 32 entries, and fewer while the sweep
is RUNNING; and between steps no preemption test is owed (log 3). -/
def Obligations.SweepBufferAndTestsStayBounded : Prop :=
  ∀ s t : State, s.sweepLaw → s.settled → step s = .next t → t.sweepLaw ∧ t.settled

/-- The reset state meets the laws that every step keeps. -/
def Obligations.ResetMeetsTheLaws : Prop :=
  State.reset.tablesWf ∧ State.reset.holdOpenLaw ∧ State.reset.formLaw ∧ State.reset.overrunLaw
    ∧ State.reset.sweepLaw ∧ State.reset.settled ∧ State.reset.workLaws ∧ State.reset.standsInside
    ∧ State.reset.separationLaw
end

