-- ==== Sys2Proof/Laws/State.lean ====
section
/-!
SUPPORT. One lemma per field per update of the state, and reading a record after writing it.
-/
namespace Sys2Proof.Machine

section Fields

variable (s : State)

@[simp] theorem State.modCrane_pending (k : Crane) (f : CraneTasks → CraneTasks) : (s.modCrane k f).pending = s.pending := rfl
@[simp] theorem State.modCrane_inReset (k : Crane) (f : CraneTasks → CraneTasks) : (s.modCrane k f).inReset = s.inReset := rfl
@[simp] theorem State.modCrane_wingTime (k : Crane) (f : CraneTasks → CraneTasks) : (s.modCrane k f).wingTime = s.wingTime := rfl
@[simp] theorem State.modCrane_wing (k : Crane) (f : CraneTasks → CraneTasks) : (s.modCrane k f).wing = s.wing := rfl
@[simp] theorem State.modCrane_due (k : Crane) (f : CraneTasks → CraneTasks) : (s.modCrane k f).due = s.due := rfl
@[simp] theorem State.modCrane_params (k : Crane) (f : CraneTasks → CraneTasks) : (s.modCrane k f).params = s.params := rfl
@[simp] theorem State.modCrane_lanes (k : Crane) (f : CraneTasks → CraneTasks) : (s.modCrane k f).lanes = s.lanes := rfl
@[simp] theorem State.modCrane_bins (k : Crane) (f : CraneTasks → CraneTasks) : (s.modCrane k f).bins = s.bins := rfl
@[simp] theorem State.modCrane_stations (k : Crane) (f : CraneTasks → CraneTasks) : (s.modCrane k f).stations = s.stations := rfl
@[simp] theorem State.modCrane_claims (k : Crane) (f : CraneTasks → CraneTasks) : (s.modCrane k f).claims = s.claims := rfl
@[simp] theorem State.modCrane_backlog (k : Crane) (f : CraneTasks → CraneTasks) : (s.modCrane k f).backlog = s.backlog := rfl
@[simp] theorem State.modCrane_search (k : Crane) (f : CraneTasks → CraneTasks) : (s.modCrane k f).search = s.search := rfl
@[simp] theorem State.modCrane_tasks (k : Crane) (f : CraneTasks → CraneTasks) : (s.modCrane k f).tasks = s.tasks := rfl
@[simp] theorem State.modCrane_channels (k : Crane) (f : CraneTasks → CraneTasks) : (s.modCrane k f).channels = s.channels := rfl
@[simp] theorem State.modCrane_rails (k : Crane) (f : CraneTasks → CraneTasks) : (s.modCrane k f).rails = s.rails := rfl
@[simp] theorem State.modCrane_fires (k : Crane) (f : CraneTasks → CraneTasks) : (s.modCrane k f).fires = s.fires := rfl
@[simp] theorem State.modCrane_shutters (k : Crane) (f : CraneTasks → CraneTasks) : (s.modCrane k f).shutters = s.shutters := rfl
@[simp] theorem State.modCrane_fireLines (k : Crane) (f : CraneTasks → CraneTasks) : (s.modCrane k f).fireLines = s.fireLines := rfl
@[simp] theorem State.modCrane_sweep (k : Crane) (f : CraneTasks → CraneTasks) : (s.modCrane k f).sweep = s.sweep := rfl
@[simp] theorem State.modCrane_portC (k : Crane) (f : CraneTasks → CraneTasks) : (s.modCrane k f).portC = s.portC := rfl
@[simp] theorem State.modCrane_portK (k : Crane) (f : CraneTasks → CraneTasks) : (s.modCrane k f).portK = s.portK := rfl
@[simp] theorem State.modCrane_sources (k : Crane) (f : CraneTasks → CraneTasks) : (s.modCrane k f).sources = s.sources := rfl

@[simp] theorem State.modRail_pending (k : Crane) (f : Rail → Rail) : (s.modRail k f).pending = s.pending := rfl
@[simp] theorem State.modRail_inReset (k : Crane) (f : Rail → Rail) : (s.modRail k f).inReset = s.inReset := rfl
@[simp] theorem State.modRail_wingTime (k : Crane) (f : Rail → Rail) : (s.modRail k f).wingTime = s.wingTime := rfl
@[simp] theorem State.modRail_wing (k : Crane) (f : Rail → Rail) : (s.modRail k f).wing = s.wing := rfl
@[simp] theorem State.modRail_due (k : Crane) (f : Rail → Rail) : (s.modRail k f).due = s.due := rfl
@[simp] theorem State.modRail_params (k : Crane) (f : Rail → Rail) : (s.modRail k f).params = s.params := rfl
@[simp] theorem State.modRail_lanes (k : Crane) (f : Rail → Rail) : (s.modRail k f).lanes = s.lanes := rfl
@[simp] theorem State.modRail_bins (k : Crane) (f : Rail → Rail) : (s.modRail k f).bins = s.bins := rfl
@[simp] theorem State.modRail_stations (k : Crane) (f : Rail → Rail) : (s.modRail k f).stations = s.stations := rfl
@[simp] theorem State.modRail_claims (k : Crane) (f : Rail → Rail) : (s.modRail k f).claims = s.claims := rfl
@[simp] theorem State.modRail_backlog (k : Crane) (f : Rail → Rail) : (s.modRail k f).backlog = s.backlog := rfl
@[simp] theorem State.modRail_search (k : Crane) (f : Rail → Rail) : (s.modRail k f).search = s.search := rfl
@[simp] theorem State.modRail_tasks (k : Crane) (f : Rail → Rail) : (s.modRail k f).tasks = s.tasks := rfl
@[simp] theorem State.modRail_cranes (k : Crane) (f : Rail → Rail) : (s.modRail k f).cranes = s.cranes := rfl
@[simp] theorem State.modRail_channels (k : Crane) (f : Rail → Rail) : (s.modRail k f).channels = s.channels := rfl
@[simp] theorem State.modRail_fires (k : Crane) (f : Rail → Rail) : (s.modRail k f).fires = s.fires := rfl
@[simp] theorem State.modRail_shutters (k : Crane) (f : Rail → Rail) : (s.modRail k f).shutters = s.shutters := rfl
@[simp] theorem State.modRail_fireLines (k : Crane) (f : Rail → Rail) : (s.modRail k f).fireLines = s.fireLines := rfl
@[simp] theorem State.modRail_sweep (k : Crane) (f : Rail → Rail) : (s.modRail k f).sweep = s.sweep := rfl
@[simp] theorem State.modRail_portC (k : Crane) (f : Rail → Rail) : (s.modRail k f).portC = s.portC := rfl
@[simp] theorem State.modRail_portK (k : Crane) (f : Rail → Rail) : (s.modRail k f).portK = s.portK := rfl
@[simp] theorem State.modRail_sources (k : Crane) (f : Rail → Rail) : (s.modRail k f).sources = s.sources := rfl

@[simp] theorem State.modChannel_pending (k : Crane) (f : Channel → Channel) : (s.modChannel k f).pending = s.pending := rfl
@[simp] theorem State.modChannel_inReset (k : Crane) (f : Channel → Channel) : (s.modChannel k f).inReset = s.inReset := rfl
@[simp] theorem State.modChannel_wingTime (k : Crane) (f : Channel → Channel) : (s.modChannel k f).wingTime = s.wingTime := rfl
@[simp] theorem State.modChannel_wing (k : Crane) (f : Channel → Channel) : (s.modChannel k f).wing = s.wing := rfl
@[simp] theorem State.modChannel_due (k : Crane) (f : Channel → Channel) : (s.modChannel k f).due = s.due := rfl
@[simp] theorem State.modChannel_params (k : Crane) (f : Channel → Channel) : (s.modChannel k f).params = s.params := rfl
@[simp] theorem State.modChannel_lanes (k : Crane) (f : Channel → Channel) : (s.modChannel k f).lanes = s.lanes := rfl
@[simp] theorem State.modChannel_bins (k : Crane) (f : Channel → Channel) : (s.modChannel k f).bins = s.bins := rfl
@[simp] theorem State.modChannel_stations (k : Crane) (f : Channel → Channel) : (s.modChannel k f).stations = s.stations := rfl
@[simp] theorem State.modChannel_claims (k : Crane) (f : Channel → Channel) : (s.modChannel k f).claims = s.claims := rfl
@[simp] theorem State.modChannel_backlog (k : Crane) (f : Channel → Channel) : (s.modChannel k f).backlog = s.backlog := rfl
@[simp] theorem State.modChannel_search (k : Crane) (f : Channel → Channel) : (s.modChannel k f).search = s.search := rfl
@[simp] theorem State.modChannel_tasks (k : Crane) (f : Channel → Channel) : (s.modChannel k f).tasks = s.tasks := rfl
@[simp] theorem State.modChannel_cranes (k : Crane) (f : Channel → Channel) : (s.modChannel k f).cranes = s.cranes := rfl
@[simp] theorem State.modChannel_rails (k : Crane) (f : Channel → Channel) : (s.modChannel k f).rails = s.rails := rfl
@[simp] theorem State.modChannel_fires (k : Crane) (f : Channel → Channel) : (s.modChannel k f).fires = s.fires := rfl
@[simp] theorem State.modChannel_shutters (k : Crane) (f : Channel → Channel) : (s.modChannel k f).shutters = s.shutters := rfl
@[simp] theorem State.modChannel_fireLines (k : Crane) (f : Channel → Channel) : (s.modChannel k f).fireLines = s.fireLines := rfl
@[simp] theorem State.modChannel_sweep (k : Crane) (f : Channel → Channel) : (s.modChannel k f).sweep = s.sweep := rfl
@[simp] theorem State.modChannel_portC (k : Crane) (f : Channel → Channel) : (s.modChannel k f).portC = s.portC := rfl
@[simp] theorem State.modChannel_portK (k : Crane) (f : Channel → Channel) : (s.modChannel k f).portK = s.portK := rfl
@[simp] theorem State.modChannel_sources (k : Crane) (f : Channel → Channel) : (s.modChannel k f).sources = s.sources := rfl

@[simp] theorem State.modStation_pending (k : Crane) (f : Station → Station) : (s.modStation k f).pending = s.pending := rfl
@[simp] theorem State.modStation_inReset (k : Crane) (f : Station → Station) : (s.modStation k f).inReset = s.inReset := rfl
@[simp] theorem State.modStation_wingTime (k : Crane) (f : Station → Station) : (s.modStation k f).wingTime = s.wingTime := rfl
@[simp] theorem State.modStation_wing (k : Crane) (f : Station → Station) : (s.modStation k f).wing = s.wing := rfl
@[simp] theorem State.modStation_due (k : Crane) (f : Station → Station) : (s.modStation k f).due = s.due := rfl
@[simp] theorem State.modStation_params (k : Crane) (f : Station → Station) : (s.modStation k f).params = s.params := rfl
@[simp] theorem State.modStation_lanes (k : Crane) (f : Station → Station) : (s.modStation k f).lanes = s.lanes := rfl
@[simp] theorem State.modStation_bins (k : Crane) (f : Station → Station) : (s.modStation k f).bins = s.bins := rfl
@[simp] theorem State.modStation_claims (k : Crane) (f : Station → Station) : (s.modStation k f).claims = s.claims := rfl
@[simp] theorem State.modStation_backlog (k : Crane) (f : Station → Station) : (s.modStation k f).backlog = s.backlog := rfl
@[simp] theorem State.modStation_search (k : Crane) (f : Station → Station) : (s.modStation k f).search = s.search := rfl
@[simp] theorem State.modStation_tasks (k : Crane) (f : Station → Station) : (s.modStation k f).tasks = s.tasks := rfl
@[simp] theorem State.modStation_cranes (k : Crane) (f : Station → Station) : (s.modStation k f).cranes = s.cranes := rfl
@[simp] theorem State.modStation_channels (k : Crane) (f : Station → Station) : (s.modStation k f).channels = s.channels := rfl
@[simp] theorem State.modStation_rails (k : Crane) (f : Station → Station) : (s.modStation k f).rails = s.rails := rfl
@[simp] theorem State.modStation_fires (k : Crane) (f : Station → Station) : (s.modStation k f).fires = s.fires := rfl
@[simp] theorem State.modStation_shutters (k : Crane) (f : Station → Station) : (s.modStation k f).shutters = s.shutters := rfl
@[simp] theorem State.modStation_fireLines (k : Crane) (f : Station → Station) : (s.modStation k f).fireLines = s.fireLines := rfl
@[simp] theorem State.modStation_sweep (k : Crane) (f : Station → Station) : (s.modStation k f).sweep = s.sweep := rfl
@[simp] theorem State.modStation_portC (k : Crane) (f : Station → Station) : (s.modStation k f).portC = s.portC := rfl
@[simp] theorem State.modStation_portK (k : Crane) (f : Station → Station) : (s.modStation k f).portK = s.portK := rfl
@[simp] theorem State.modStation_sources (k : Crane) (f : Station → Station) : (s.modStation k f).sources = s.sources := rfl

@[simp] theorem State.modShutter_pending (k : Crane) (f : Shutter → Shutter) : (s.modShutter k f).pending = s.pending := rfl
@[simp] theorem State.modShutter_inReset (k : Crane) (f : Shutter → Shutter) : (s.modShutter k f).inReset = s.inReset := rfl
@[simp] theorem State.modShutter_wingTime (k : Crane) (f : Shutter → Shutter) : (s.modShutter k f).wingTime = s.wingTime := rfl
@[simp] theorem State.modShutter_wing (k : Crane) (f : Shutter → Shutter) : (s.modShutter k f).wing = s.wing := rfl
@[simp] theorem State.modShutter_due (k : Crane) (f : Shutter → Shutter) : (s.modShutter k f).due = s.due := rfl
@[simp] theorem State.modShutter_params (k : Crane) (f : Shutter → Shutter) : (s.modShutter k f).params = s.params := rfl
@[simp] theorem State.modShutter_lanes (k : Crane) (f : Shutter → Shutter) : (s.modShutter k f).lanes = s.lanes := rfl
@[simp] theorem State.modShutter_bins (k : Crane) (f : Shutter → Shutter) : (s.modShutter k f).bins = s.bins := rfl
@[simp] theorem State.modShutter_stations (k : Crane) (f : Shutter → Shutter) : (s.modShutter k f).stations = s.stations := rfl
@[simp] theorem State.modShutter_claims (k : Crane) (f : Shutter → Shutter) : (s.modShutter k f).claims = s.claims := rfl
@[simp] theorem State.modShutter_backlog (k : Crane) (f : Shutter → Shutter) : (s.modShutter k f).backlog = s.backlog := rfl
@[simp] theorem State.modShutter_search (k : Crane) (f : Shutter → Shutter) : (s.modShutter k f).search = s.search := rfl
@[simp] theorem State.modShutter_tasks (k : Crane) (f : Shutter → Shutter) : (s.modShutter k f).tasks = s.tasks := rfl
@[simp] theorem State.modShutter_cranes (k : Crane) (f : Shutter → Shutter) : (s.modShutter k f).cranes = s.cranes := rfl
@[simp] theorem State.modShutter_channels (k : Crane) (f : Shutter → Shutter) : (s.modShutter k f).channels = s.channels := rfl
@[simp] theorem State.modShutter_rails (k : Crane) (f : Shutter → Shutter) : (s.modShutter k f).rails = s.rails := rfl
@[simp] theorem State.modShutter_fires (k : Crane) (f : Shutter → Shutter) : (s.modShutter k f).fires = s.fires := rfl
@[simp] theorem State.modShutter_fireLines (k : Crane) (f : Shutter → Shutter) : (s.modShutter k f).fireLines = s.fireLines := rfl
@[simp] theorem State.modShutter_sweep (k : Crane) (f : Shutter → Shutter) : (s.modShutter k f).sweep = s.sweep := rfl
@[simp] theorem State.modShutter_portC (k : Crane) (f : Shutter → Shutter) : (s.modShutter k f).portC = s.portC := rfl
@[simp] theorem State.modShutter_portK (k : Crane) (f : Shutter → Shutter) : (s.modShutter k f).portK = s.portK := rfl
@[simp] theorem State.modShutter_sources (k : Crane) (f : Shutter → Shutter) : (s.modShutter k f).sources = s.sources := rfl

@[simp] theorem State.modFire_pending (a : Aisle) (f : Fire → Fire) : (s.modFire a f).pending = s.pending := rfl
@[simp] theorem State.modFire_inReset (a : Aisle) (f : Fire → Fire) : (s.modFire a f).inReset = s.inReset := rfl
@[simp] theorem State.modFire_wingTime (a : Aisle) (f : Fire → Fire) : (s.modFire a f).wingTime = s.wingTime := rfl
@[simp] theorem State.modFire_wing (a : Aisle) (f : Fire → Fire) : (s.modFire a f).wing = s.wing := rfl
@[simp] theorem State.modFire_due (a : Aisle) (f : Fire → Fire) : (s.modFire a f).due = s.due := rfl
@[simp] theorem State.modFire_params (a : Aisle) (f : Fire → Fire) : (s.modFire a f).params = s.params := rfl
@[simp] theorem State.modFire_lanes (a : Aisle) (f : Fire → Fire) : (s.modFire a f).lanes = s.lanes := rfl
@[simp] theorem State.modFire_bins (a : Aisle) (f : Fire → Fire) : (s.modFire a f).bins = s.bins := rfl
@[simp] theorem State.modFire_stations (a : Aisle) (f : Fire → Fire) : (s.modFire a f).stations = s.stations := rfl
@[simp] theorem State.modFire_claims (a : Aisle) (f : Fire → Fire) : (s.modFire a f).claims = s.claims := rfl
@[simp] theorem State.modFire_backlog (a : Aisle) (f : Fire → Fire) : (s.modFire a f).backlog = s.backlog := rfl
@[simp] theorem State.modFire_search (a : Aisle) (f : Fire → Fire) : (s.modFire a f).search = s.search := rfl
@[simp] theorem State.modFire_tasks (a : Aisle) (f : Fire → Fire) : (s.modFire a f).tasks = s.tasks := rfl
@[simp] theorem State.modFire_cranes (a : Aisle) (f : Fire → Fire) : (s.modFire a f).cranes = s.cranes := rfl
@[simp] theorem State.modFire_channels (a : Aisle) (f : Fire → Fire) : (s.modFire a f).channels = s.channels := rfl
@[simp] theorem State.modFire_rails (a : Aisle) (f : Fire → Fire) : (s.modFire a f).rails = s.rails := rfl
@[simp] theorem State.modFire_shutters (a : Aisle) (f : Fire → Fire) : (s.modFire a f).shutters = s.shutters := rfl
@[simp] theorem State.modFire_fireLines (a : Aisle) (f : Fire → Fire) : (s.modFire a f).fireLines = s.fireLines := rfl
@[simp] theorem State.modFire_sweep (a : Aisle) (f : Fire → Fire) : (s.modFire a f).sweep = s.sweep := rfl
@[simp] theorem State.modFire_portC (a : Aisle) (f : Fire → Fire) : (s.modFire a f).portC = s.portC := rfl
@[simp] theorem State.modFire_portK (a : Aisle) (f : Fire → Fire) : (s.modFire a f).portK = s.portK := rfl
@[simp] theorem State.modFire_sources (a : Aisle) (f : Fire → Fire) : (s.modFire a f).sources = s.sources := rfl

@[simp] theorem State.setBin_pending (b : Nat) (r : Bin) : (s.setBin b r).pending = s.pending := rfl
@[simp] theorem State.setBin_inReset (b : Nat) (r : Bin) : (s.setBin b r).inReset = s.inReset := rfl
@[simp] theorem State.setBin_wingTime (b : Nat) (r : Bin) : (s.setBin b r).wingTime = s.wingTime := rfl
@[simp] theorem State.setBin_wing (b : Nat) (r : Bin) : (s.setBin b r).wing = s.wing := rfl
@[simp] theorem State.setBin_due (b : Nat) (r : Bin) : (s.setBin b r).due = s.due := rfl
@[simp] theorem State.setBin_params (b : Nat) (r : Bin) : (s.setBin b r).params = s.params := rfl
@[simp] theorem State.setBin_lanes (b : Nat) (r : Bin) : (s.setBin b r).lanes = s.lanes := rfl
@[simp] theorem State.setBin_stations (b : Nat) (r : Bin) : (s.setBin b r).stations = s.stations := rfl
@[simp] theorem State.setBin_claims (b : Nat) (r : Bin) : (s.setBin b r).claims = s.claims := rfl
@[simp] theorem State.setBin_backlog (b : Nat) (r : Bin) : (s.setBin b r).backlog = s.backlog := rfl
@[simp] theorem State.setBin_search (b : Nat) (r : Bin) : (s.setBin b r).search = s.search := rfl
@[simp] theorem State.setBin_tasks (b : Nat) (r : Bin) : (s.setBin b r).tasks = s.tasks := rfl
@[simp] theorem State.setBin_cranes (b : Nat) (r : Bin) : (s.setBin b r).cranes = s.cranes := rfl
@[simp] theorem State.setBin_channels (b : Nat) (r : Bin) : (s.setBin b r).channels = s.channels := rfl
@[simp] theorem State.setBin_rails (b : Nat) (r : Bin) : (s.setBin b r).rails = s.rails := rfl
@[simp] theorem State.setBin_fires (b : Nat) (r : Bin) : (s.setBin b r).fires = s.fires := rfl
@[simp] theorem State.setBin_shutters (b : Nat) (r : Bin) : (s.setBin b r).shutters = s.shutters := rfl
@[simp] theorem State.setBin_fireLines (b : Nat) (r : Bin) : (s.setBin b r).fireLines = s.fireLines := rfl
@[simp] theorem State.setBin_sweep (b : Nat) (r : Bin) : (s.setBin b r).sweep = s.sweep := rfl
@[simp] theorem State.setBin_portC (b : Nat) (r : Bin) : (s.setBin b r).portC = s.portC := rfl
@[simp] theorem State.setBin_portK (b : Nat) (r : Bin) : (s.setBin b r).portK = s.portK := rfl
@[simp] theorem State.setBin_sources (b : Nat) (r : Bin) : (s.setBin b r).sources = s.sources := rfl

@[simp] theorem State.dropBin_pending (b : Nat) : (s.dropBin b).pending = s.pending := rfl
@[simp] theorem State.dropBin_inReset (b : Nat) : (s.dropBin b).inReset = s.inReset := rfl
@[simp] theorem State.dropBin_wingTime (b : Nat) : (s.dropBin b).wingTime = s.wingTime := rfl
@[simp] theorem State.dropBin_wing (b : Nat) : (s.dropBin b).wing = s.wing := rfl
@[simp] theorem State.dropBin_due (b : Nat) : (s.dropBin b).due = s.due := rfl
@[simp] theorem State.dropBin_params (b : Nat) : (s.dropBin b).params = s.params := rfl
@[simp] theorem State.dropBin_lanes (b : Nat) : (s.dropBin b).lanes = s.lanes := rfl
@[simp] theorem State.dropBin_stations (b : Nat) : (s.dropBin b).stations = s.stations := rfl
@[simp] theorem State.dropBin_claims (b : Nat) : (s.dropBin b).claims = s.claims := rfl
@[simp] theorem State.dropBin_backlog (b : Nat) : (s.dropBin b).backlog = s.backlog := rfl
@[simp] theorem State.dropBin_search (b : Nat) : (s.dropBin b).search = s.search := rfl
@[simp] theorem State.dropBin_tasks (b : Nat) : (s.dropBin b).tasks = s.tasks := rfl
@[simp] theorem State.dropBin_cranes (b : Nat) : (s.dropBin b).cranes = s.cranes := rfl
@[simp] theorem State.dropBin_channels (b : Nat) : (s.dropBin b).channels = s.channels := rfl
@[simp] theorem State.dropBin_rails (b : Nat) : (s.dropBin b).rails = s.rails := rfl
@[simp] theorem State.dropBin_fires (b : Nat) : (s.dropBin b).fires = s.fires := rfl
@[simp] theorem State.dropBin_shutters (b : Nat) : (s.dropBin b).shutters = s.shutters := rfl
@[simp] theorem State.dropBin_fireLines (b : Nat) : (s.dropBin b).fireLines = s.fireLines := rfl
@[simp] theorem State.dropBin_sweep (b : Nat) : (s.dropBin b).sweep = s.sweep := rfl
@[simp] theorem State.dropBin_portC (b : Nat) : (s.dropBin b).portC = s.portC := rfl
@[simp] theorem State.dropBin_portK (b : Nat) : (s.dropBin b).portK = s.portK := rfl
@[simp] theorem State.dropBin_sources (b : Nat) : (s.dropBin b).sources = s.sources := rfl

@[simp] theorem State.setClaim_pending (id : Nat) (c : Claim) : (s.setClaim id c).pending = s.pending := rfl
@[simp] theorem State.setClaim_inReset (id : Nat) (c : Claim) : (s.setClaim id c).inReset = s.inReset := rfl
@[simp] theorem State.setClaim_wingTime (id : Nat) (c : Claim) : (s.setClaim id c).wingTime = s.wingTime := rfl
@[simp] theorem State.setClaim_wing (id : Nat) (c : Claim) : (s.setClaim id c).wing = s.wing := rfl
@[simp] theorem State.setClaim_due (id : Nat) (c : Claim) : (s.setClaim id c).due = s.due := rfl
@[simp] theorem State.setClaim_params (id : Nat) (c : Claim) : (s.setClaim id c).params = s.params := rfl
@[simp] theorem State.setClaim_lanes (id : Nat) (c : Claim) : (s.setClaim id c).lanes = s.lanes := rfl
@[simp] theorem State.setClaim_bins (id : Nat) (c : Claim) : (s.setClaim id c).bins = s.bins := rfl
@[simp] theorem State.setClaim_stations (id : Nat) (c : Claim) : (s.setClaim id c).stations = s.stations := rfl
@[simp] theorem State.setClaim_backlog (id : Nat) (c : Claim) : (s.setClaim id c).backlog = s.backlog := rfl
@[simp] theorem State.setClaim_search (id : Nat) (c : Claim) : (s.setClaim id c).search = s.search := rfl
@[simp] theorem State.setClaim_tasks (id : Nat) (c : Claim) : (s.setClaim id c).tasks = s.tasks := rfl
@[simp] theorem State.setClaim_cranes (id : Nat) (c : Claim) : (s.setClaim id c).cranes = s.cranes := rfl
@[simp] theorem State.setClaim_channels (id : Nat) (c : Claim) : (s.setClaim id c).channels = s.channels := rfl
@[simp] theorem State.setClaim_rails (id : Nat) (c : Claim) : (s.setClaim id c).rails = s.rails := rfl
@[simp] theorem State.setClaim_fires (id : Nat) (c : Claim) : (s.setClaim id c).fires = s.fires := rfl
@[simp] theorem State.setClaim_shutters (id : Nat) (c : Claim) : (s.setClaim id c).shutters = s.shutters := rfl
@[simp] theorem State.setClaim_fireLines (id : Nat) (c : Claim) : (s.setClaim id c).fireLines = s.fireLines := rfl
@[simp] theorem State.setClaim_sweep (id : Nat) (c : Claim) : (s.setClaim id c).sweep = s.sweep := rfl
@[simp] theorem State.setClaim_portC (id : Nat) (c : Claim) : (s.setClaim id c).portC = s.portC := rfl
@[simp] theorem State.setClaim_portK (id : Nat) (c : Claim) : (s.setClaim id c).portK = s.portK := rfl
@[simp] theorem State.setClaim_sources (id : Nat) (c : Claim) : (s.setClaim id c).sources = s.sources := rfl

@[simp] theorem State.setTask_pending (id : Nat) (t : Task) : (s.setTask id t).pending = s.pending := rfl
@[simp] theorem State.setTask_inReset (id : Nat) (t : Task) : (s.setTask id t).inReset = s.inReset := rfl
@[simp] theorem State.setTask_wingTime (id : Nat) (t : Task) : (s.setTask id t).wingTime = s.wingTime := rfl
@[simp] theorem State.setTask_wing (id : Nat) (t : Task) : (s.setTask id t).wing = s.wing := rfl
@[simp] theorem State.setTask_due (id : Nat) (t : Task) : (s.setTask id t).due = s.due := rfl
@[simp] theorem State.setTask_params (id : Nat) (t : Task) : (s.setTask id t).params = s.params := rfl
@[simp] theorem State.setTask_lanes (id : Nat) (t : Task) : (s.setTask id t).lanes = s.lanes := rfl
@[simp] theorem State.setTask_bins (id : Nat) (t : Task) : (s.setTask id t).bins = s.bins := rfl
@[simp] theorem State.setTask_stations (id : Nat) (t : Task) : (s.setTask id t).stations = s.stations := rfl
@[simp] theorem State.setTask_claims (id : Nat) (t : Task) : (s.setTask id t).claims = s.claims := rfl
@[simp] theorem State.setTask_backlog (id : Nat) (t : Task) : (s.setTask id t).backlog = s.backlog := rfl
@[simp] theorem State.setTask_search (id : Nat) (t : Task) : (s.setTask id t).search = s.search := rfl
@[simp] theorem State.setTask_cranes (id : Nat) (t : Task) : (s.setTask id t).cranes = s.cranes := rfl
@[simp] theorem State.setTask_channels (id : Nat) (t : Task) : (s.setTask id t).channels = s.channels := rfl
@[simp] theorem State.setTask_rails (id : Nat) (t : Task) : (s.setTask id t).rails = s.rails := rfl
@[simp] theorem State.setTask_fires (id : Nat) (t : Task) : (s.setTask id t).fires = s.fires := rfl
@[simp] theorem State.setTask_shutters (id : Nat) (t : Task) : (s.setTask id t).shutters = s.shutters := rfl
@[simp] theorem State.setTask_fireLines (id : Nat) (t : Task) : (s.setTask id t).fireLines = s.fireLines := rfl
@[simp] theorem State.setTask_sweep (id : Nat) (t : Task) : (s.setTask id t).sweep = s.sweep := rfl
@[simp] theorem State.setTask_portC (id : Nat) (t : Task) : (s.setTask id t).portC = s.portC := rfl
@[simp] theorem State.setTask_portK (id : Nat) (t : Task) : (s.setTask id t).portK = s.portK := rfl
@[simp] theorem State.setTask_sources (id : Nat) (t : Task) : (s.setTask id t).sources = s.sources := rfl

@[simp] theorem State.dropTask_pending (id : Nat) : (s.dropTask id).pending = s.pending := rfl
@[simp] theorem State.dropTask_inReset (id : Nat) : (s.dropTask id).inReset = s.inReset := rfl
@[simp] theorem State.dropTask_wingTime (id : Nat) : (s.dropTask id).wingTime = s.wingTime := rfl
@[simp] theorem State.dropTask_wing (id : Nat) : (s.dropTask id).wing = s.wing := rfl
@[simp] theorem State.dropTask_due (id : Nat) : (s.dropTask id).due = s.due := rfl
@[simp] theorem State.dropTask_params (id : Nat) : (s.dropTask id).params = s.params := rfl
@[simp] theorem State.dropTask_lanes (id : Nat) : (s.dropTask id).lanes = s.lanes := rfl
@[simp] theorem State.dropTask_bins (id : Nat) : (s.dropTask id).bins = s.bins := rfl
@[simp] theorem State.dropTask_stations (id : Nat) : (s.dropTask id).stations = s.stations := rfl
@[simp] theorem State.dropTask_claims (id : Nat) : (s.dropTask id).claims = s.claims := rfl
@[simp] theorem State.dropTask_backlog (id : Nat) : (s.dropTask id).backlog = s.backlog := rfl
@[simp] theorem State.dropTask_search (id : Nat) : (s.dropTask id).search = s.search := rfl
@[simp] theorem State.dropTask_cranes (id : Nat) : (s.dropTask id).cranes = s.cranes := rfl
@[simp] theorem State.dropTask_channels (id : Nat) : (s.dropTask id).channels = s.channels := rfl
@[simp] theorem State.dropTask_rails (id : Nat) : (s.dropTask id).rails = s.rails := rfl
@[simp] theorem State.dropTask_fires (id : Nat) : (s.dropTask id).fires = s.fires := rfl
@[simp] theorem State.dropTask_shutters (id : Nat) : (s.dropTask id).shutters = s.shutters := rfl
@[simp] theorem State.dropTask_fireLines (id : Nat) : (s.dropTask id).fireLines = s.fireLines := rfl
@[simp] theorem State.dropTask_sweep (id : Nat) : (s.dropTask id).sweep = s.sweep := rfl
@[simp] theorem State.dropTask_portC (id : Nat) : (s.dropTask id).portC = s.portC := rfl
@[simp] theorem State.dropTask_portK (id : Nat) : (s.dropTask id).portK = s.portK := rfl
@[simp] theorem State.dropTask_sources (id : Nat) : (s.dropTask id).sources = s.sources := rfl

@[simp] theorem State.setLane_pending (i : Nat) (l : Lane) : (s.setLane i l).pending = s.pending := rfl
@[simp] theorem State.setLane_inReset (i : Nat) (l : Lane) : (s.setLane i l).inReset = s.inReset := rfl
@[simp] theorem State.setLane_wingTime (i : Nat) (l : Lane) : (s.setLane i l).wingTime = s.wingTime := rfl
@[simp] theorem State.setLane_wing (i : Nat) (l : Lane) : (s.setLane i l).wing = s.wing := rfl
@[simp] theorem State.setLane_due (i : Nat) (l : Lane) : (s.setLane i l).due = s.due := rfl
@[simp] theorem State.setLane_params (i : Nat) (l : Lane) : (s.setLane i l).params = s.params := rfl
@[simp] theorem State.setLane_bins (i : Nat) (l : Lane) : (s.setLane i l).bins = s.bins := rfl
@[simp] theorem State.setLane_stations (i : Nat) (l : Lane) : (s.setLane i l).stations = s.stations := rfl
@[simp] theorem State.setLane_claims (i : Nat) (l : Lane) : (s.setLane i l).claims = s.claims := rfl
@[simp] theorem State.setLane_backlog (i : Nat) (l : Lane) : (s.setLane i l).backlog = s.backlog := rfl
@[simp] theorem State.setLane_search (i : Nat) (l : Lane) : (s.setLane i l).search = s.search := rfl
@[simp] theorem State.setLane_tasks (i : Nat) (l : Lane) : (s.setLane i l).tasks = s.tasks := rfl
@[simp] theorem State.setLane_cranes (i : Nat) (l : Lane) : (s.setLane i l).cranes = s.cranes := rfl
@[simp] theorem State.setLane_channels (i : Nat) (l : Lane) : (s.setLane i l).channels = s.channels := rfl
@[simp] theorem State.setLane_rails (i : Nat) (l : Lane) : (s.setLane i l).rails = s.rails := rfl
@[simp] theorem State.setLane_fires (i : Nat) (l : Lane) : (s.setLane i l).fires = s.fires := rfl
@[simp] theorem State.setLane_shutters (i : Nat) (l : Lane) : (s.setLane i l).shutters = s.shutters := rfl
@[simp] theorem State.setLane_fireLines (i : Nat) (l : Lane) : (s.setLane i l).fireLines = s.fireLines := rfl
@[simp] theorem State.setLane_sweep (i : Nat) (l : Lane) : (s.setLane i l).sweep = s.sweep := rfl
@[simp] theorem State.setLane_portC (i : Nat) (l : Lane) : (s.setLane i l).portC = s.portC := rfl
@[simp] theorem State.setLane_portK (i : Nat) (l : Lane) : (s.setLane i l).portK = s.portK := rfl
@[simp] theorem State.setLane_sources (i : Nat) (l : Lane) : (s.setLane i l).sources = s.sources := rfl

@[simp] theorem State.modLane_pending (i : Nat) (f : Lane → Lane) : (s.modLane i f).pending = s.pending := rfl
@[simp] theorem State.modLane_inReset (i : Nat) (f : Lane → Lane) : (s.modLane i f).inReset = s.inReset := rfl
@[simp] theorem State.modLane_wingTime (i : Nat) (f : Lane → Lane) : (s.modLane i f).wingTime = s.wingTime := rfl
@[simp] theorem State.modLane_wing (i : Nat) (f : Lane → Lane) : (s.modLane i f).wing = s.wing := rfl
@[simp] theorem State.modLane_due (i : Nat) (f : Lane → Lane) : (s.modLane i f).due = s.due := rfl
@[simp] theorem State.modLane_params (i : Nat) (f : Lane → Lane) : (s.modLane i f).params = s.params := rfl
@[simp] theorem State.modLane_bins (i : Nat) (f : Lane → Lane) : (s.modLane i f).bins = s.bins := rfl
@[simp] theorem State.modLane_stations (i : Nat) (f : Lane → Lane) : (s.modLane i f).stations = s.stations := rfl
@[simp] theorem State.modLane_claims (i : Nat) (f : Lane → Lane) : (s.modLane i f).claims = s.claims := rfl
@[simp] theorem State.modLane_backlog (i : Nat) (f : Lane → Lane) : (s.modLane i f).backlog = s.backlog := rfl
@[simp] theorem State.modLane_search (i : Nat) (f : Lane → Lane) : (s.modLane i f).search = s.search := rfl
@[simp] theorem State.modLane_tasks (i : Nat) (f : Lane → Lane) : (s.modLane i f).tasks = s.tasks := rfl
@[simp] theorem State.modLane_cranes (i : Nat) (f : Lane → Lane) : (s.modLane i f).cranes = s.cranes := rfl
@[simp] theorem State.modLane_channels (i : Nat) (f : Lane → Lane) : (s.modLane i f).channels = s.channels := rfl
@[simp] theorem State.modLane_rails (i : Nat) (f : Lane → Lane) : (s.modLane i f).rails = s.rails := rfl
@[simp] theorem State.modLane_fires (i : Nat) (f : Lane → Lane) : (s.modLane i f).fires = s.fires := rfl
@[simp] theorem State.modLane_shutters (i : Nat) (f : Lane → Lane) : (s.modLane i f).shutters = s.shutters := rfl
@[simp] theorem State.modLane_fireLines (i : Nat) (f : Lane → Lane) : (s.modLane i f).fireLines = s.fireLines := rfl
@[simp] theorem State.modLane_sweep (i : Nat) (f : Lane → Lane) : (s.modLane i f).sweep = s.sweep := rfl
@[simp] theorem State.modLane_portC (i : Nat) (f : Lane → Lane) : (s.modLane i f).portC = s.portC := rfl
@[simp] theorem State.modLane_portK (i : Nat) (f : Lane → Lane) : (s.modLane i f).portK = s.portK := rfl
@[simp] theorem State.modLane_sources (i : Nat) (f : Lane → Lane) : (s.modLane i f).sources = s.sources := rfl

@[simp] theorem State.modBin_pending (b : Nat) (f : Bin → Bin) : (s.modBin b f).pending = s.pending := by unfold State.modBin; split <;> rfl
@[simp] theorem State.modBin_inReset (b : Nat) (f : Bin → Bin) : (s.modBin b f).inReset = s.inReset := by unfold State.modBin; split <;> rfl
@[simp] theorem State.modBin_wingTime (b : Nat) (f : Bin → Bin) : (s.modBin b f).wingTime = s.wingTime := by unfold State.modBin; split <;> rfl
@[simp] theorem State.modBin_wing (b : Nat) (f : Bin → Bin) : (s.modBin b f).wing = s.wing := by unfold State.modBin; split <;> rfl
@[simp] theorem State.modBin_due (b : Nat) (f : Bin → Bin) : (s.modBin b f).due = s.due := by unfold State.modBin; split <;> rfl
@[simp] theorem State.modBin_params (b : Nat) (f : Bin → Bin) : (s.modBin b f).params = s.params := by unfold State.modBin; split <;> rfl
@[simp] theorem State.modBin_lanes (b : Nat) (f : Bin → Bin) : (s.modBin b f).lanes = s.lanes := by unfold State.modBin; split <;> rfl
@[simp] theorem State.modBin_stations (b : Nat) (f : Bin → Bin) : (s.modBin b f).stations = s.stations := by unfold State.modBin; split <;> rfl
@[simp] theorem State.modBin_claims (b : Nat) (f : Bin → Bin) : (s.modBin b f).claims = s.claims := by unfold State.modBin; split <;> rfl
@[simp] theorem State.modBin_backlog (b : Nat) (f : Bin → Bin) : (s.modBin b f).backlog = s.backlog := by unfold State.modBin; split <;> rfl
@[simp] theorem State.modBin_search (b : Nat) (f : Bin → Bin) : (s.modBin b f).search = s.search := by unfold State.modBin; split <;> rfl
@[simp] theorem State.modBin_tasks (b : Nat) (f : Bin → Bin) : (s.modBin b f).tasks = s.tasks := by unfold State.modBin; split <;> rfl
@[simp] theorem State.modBin_cranes (b : Nat) (f : Bin → Bin) : (s.modBin b f).cranes = s.cranes := by unfold State.modBin; split <;> rfl
@[simp] theorem State.modBin_channels (b : Nat) (f : Bin → Bin) : (s.modBin b f).channels = s.channels := by unfold State.modBin; split <;> rfl
@[simp] theorem State.modBin_rails (b : Nat) (f : Bin → Bin) : (s.modBin b f).rails = s.rails := by unfold State.modBin; split <;> rfl
@[simp] theorem State.modBin_fires (b : Nat) (f : Bin → Bin) : (s.modBin b f).fires = s.fires := by unfold State.modBin; split <;> rfl
@[simp] theorem State.modBin_shutters (b : Nat) (f : Bin → Bin) : (s.modBin b f).shutters = s.shutters := by unfold State.modBin; split <;> rfl
@[simp] theorem State.modBin_fireLines (b : Nat) (f : Bin → Bin) : (s.modBin b f).fireLines = s.fireLines := by unfold State.modBin; split <;> rfl
@[simp] theorem State.modBin_sweep (b : Nat) (f : Bin → Bin) : (s.modBin b f).sweep = s.sweep := by unfold State.modBin; split <;> rfl
@[simp] theorem State.modBin_portC (b : Nat) (f : Bin → Bin) : (s.modBin b f).portC = s.portC := by unfold State.modBin; split <;> rfl
@[simp] theorem State.modBin_portK (b : Nat) (f : Bin → Bin) : (s.modBin b f).portK = s.portK := by unfold State.modBin; split <;> rfl
@[simp] theorem State.modBin_sources (b : Nat) (f : Bin → Bin) : (s.modBin b f).sources = s.sources := by unfold State.modBin; split <;> rfl

@[simp] theorem State.modClaim_pending (id : Nat) (f : Claim → Claim) : (s.modClaim id f).pending = s.pending := by unfold State.modClaim; split <;> rfl
@[simp] theorem State.modClaim_inReset (id : Nat) (f : Claim → Claim) : (s.modClaim id f).inReset = s.inReset := by unfold State.modClaim; split <;> rfl
@[simp] theorem State.modClaim_wingTime (id : Nat) (f : Claim → Claim) : (s.modClaim id f).wingTime = s.wingTime := by unfold State.modClaim; split <;> rfl
@[simp] theorem State.modClaim_wing (id : Nat) (f : Claim → Claim) : (s.modClaim id f).wing = s.wing := by unfold State.modClaim; split <;> rfl
@[simp] theorem State.modClaim_due (id : Nat) (f : Claim → Claim) : (s.modClaim id f).due = s.due := by unfold State.modClaim; split <;> rfl
@[simp] theorem State.modClaim_params (id : Nat) (f : Claim → Claim) : (s.modClaim id f).params = s.params := by unfold State.modClaim; split <;> rfl
@[simp] theorem State.modClaim_lanes (id : Nat) (f : Claim → Claim) : (s.modClaim id f).lanes = s.lanes := by unfold State.modClaim; split <;> rfl
@[simp] theorem State.modClaim_bins (id : Nat) (f : Claim → Claim) : (s.modClaim id f).bins = s.bins := by unfold State.modClaim; split <;> rfl
@[simp] theorem State.modClaim_stations (id : Nat) (f : Claim → Claim) : (s.modClaim id f).stations = s.stations := by unfold State.modClaim; split <;> rfl
@[simp] theorem State.modClaim_backlog (id : Nat) (f : Claim → Claim) : (s.modClaim id f).backlog = s.backlog := by unfold State.modClaim; split <;> rfl
@[simp] theorem State.modClaim_search (id : Nat) (f : Claim → Claim) : (s.modClaim id f).search = s.search := by unfold State.modClaim; split <;> rfl
@[simp] theorem State.modClaim_tasks (id : Nat) (f : Claim → Claim) : (s.modClaim id f).tasks = s.tasks := by unfold State.modClaim; split <;> rfl
@[simp] theorem State.modClaim_cranes (id : Nat) (f : Claim → Claim) : (s.modClaim id f).cranes = s.cranes := by unfold State.modClaim; split <;> rfl
@[simp] theorem State.modClaim_channels (id : Nat) (f : Claim → Claim) : (s.modClaim id f).channels = s.channels := by unfold State.modClaim; split <;> rfl
@[simp] theorem State.modClaim_rails (id : Nat) (f : Claim → Claim) : (s.modClaim id f).rails = s.rails := by unfold State.modClaim; split <;> rfl
@[simp] theorem State.modClaim_fires (id : Nat) (f : Claim → Claim) : (s.modClaim id f).fires = s.fires := by unfold State.modClaim; split <;> rfl
@[simp] theorem State.modClaim_shutters (id : Nat) (f : Claim → Claim) : (s.modClaim id f).shutters = s.shutters := by unfold State.modClaim; split <;> rfl
@[simp] theorem State.modClaim_fireLines (id : Nat) (f : Claim → Claim) : (s.modClaim id f).fireLines = s.fireLines := by unfold State.modClaim; split <;> rfl
@[simp] theorem State.modClaim_sweep (id : Nat) (f : Claim → Claim) : (s.modClaim id f).sweep = s.sweep := by unfold State.modClaim; split <;> rfl
@[simp] theorem State.modClaim_portC (id : Nat) (f : Claim → Claim) : (s.modClaim id f).portC = s.portC := by unfold State.modClaim; split <;> rfl
@[simp] theorem State.modClaim_portK (id : Nat) (f : Claim → Claim) : (s.modClaim id f).portK = s.portK := by unfold State.modClaim; split <;> rfl
@[simp] theorem State.modClaim_sources (id : Nat) (f : Claim → Claim) : (s.modClaim id f).sources = s.sources := by unfold State.modClaim; split <;> rfl

@[simp] theorem State.modTask_pending (id : Nat) (f : Task → Task) : (s.modTask id f).pending = s.pending := by unfold State.modTask; split <;> rfl
@[simp] theorem State.modTask_inReset (id : Nat) (f : Task → Task) : (s.modTask id f).inReset = s.inReset := by unfold State.modTask; split <;> rfl
@[simp] theorem State.modTask_wingTime (id : Nat) (f : Task → Task) : (s.modTask id f).wingTime = s.wingTime := by unfold State.modTask; split <;> rfl
@[simp] theorem State.modTask_wing (id : Nat) (f : Task → Task) : (s.modTask id f).wing = s.wing := by unfold State.modTask; split <;> rfl
@[simp] theorem State.modTask_due (id : Nat) (f : Task → Task) : (s.modTask id f).due = s.due := by unfold State.modTask; split <;> rfl
@[simp] theorem State.modTask_params (id : Nat) (f : Task → Task) : (s.modTask id f).params = s.params := by unfold State.modTask; split <;> rfl
@[simp] theorem State.modTask_lanes (id : Nat) (f : Task → Task) : (s.modTask id f).lanes = s.lanes := by unfold State.modTask; split <;> rfl
@[simp] theorem State.modTask_bins (id : Nat) (f : Task → Task) : (s.modTask id f).bins = s.bins := by unfold State.modTask; split <;> rfl
@[simp] theorem State.modTask_stations (id : Nat) (f : Task → Task) : (s.modTask id f).stations = s.stations := by unfold State.modTask; split <;> rfl
@[simp] theorem State.modTask_claims (id : Nat) (f : Task → Task) : (s.modTask id f).claims = s.claims := by unfold State.modTask; split <;> rfl
@[simp] theorem State.modTask_backlog (id : Nat) (f : Task → Task) : (s.modTask id f).backlog = s.backlog := by unfold State.modTask; split <;> rfl
@[simp] theorem State.modTask_search (id : Nat) (f : Task → Task) : (s.modTask id f).search = s.search := by unfold State.modTask; split <;> rfl
@[simp] theorem State.modTask_cranes (id : Nat) (f : Task → Task) : (s.modTask id f).cranes = s.cranes := by unfold State.modTask; split <;> rfl
@[simp] theorem State.modTask_channels (id : Nat) (f : Task → Task) : (s.modTask id f).channels = s.channels := by unfold State.modTask; split <;> rfl
@[simp] theorem State.modTask_rails (id : Nat) (f : Task → Task) : (s.modTask id f).rails = s.rails := by unfold State.modTask; split <;> rfl
@[simp] theorem State.modTask_fires (id : Nat) (f : Task → Task) : (s.modTask id f).fires = s.fires := by unfold State.modTask; split <;> rfl
@[simp] theorem State.modTask_shutters (id : Nat) (f : Task → Task) : (s.modTask id f).shutters = s.shutters := by unfold State.modTask; split <;> rfl
@[simp] theorem State.modTask_fireLines (id : Nat) (f : Task → Task) : (s.modTask id f).fireLines = s.fireLines := by unfold State.modTask; split <;> rfl
@[simp] theorem State.modTask_sweep (id : Nat) (f : Task → Task) : (s.modTask id f).sweep = s.sweep := by unfold State.modTask; split <;> rfl
@[simp] theorem State.modTask_portC (id : Nat) (f : Task → Task) : (s.modTask id f).portC = s.portC := by unfold State.modTask; split <;> rfl
@[simp] theorem State.modTask_portK (id : Nat) (f : Task → Task) : (s.modTask id f).portK = s.portK := by unfold State.modTask; split <;> rfl
@[simp] theorem State.modTask_sources (id : Nat) (f : Task → Task) : (s.modTask id f).sources = s.sources := by unfold State.modTask; split <;> rfl

@[simp] theorem State.modPort_pending (p : Port) (f : PortBlock → PortBlock) : (s.modPort p f).pending = s.pending := by cases p <;> rfl
@[simp] theorem State.modPort_inReset (p : Port) (f : PortBlock → PortBlock) : (s.modPort p f).inReset = s.inReset := by cases p <;> rfl
@[simp] theorem State.modPort_wingTime (p : Port) (f : PortBlock → PortBlock) : (s.modPort p f).wingTime = s.wingTime := by cases p <;> rfl
@[simp] theorem State.modPort_wing (p : Port) (f : PortBlock → PortBlock) : (s.modPort p f).wing = s.wing := by cases p <;> rfl
@[simp] theorem State.modPort_due (p : Port) (f : PortBlock → PortBlock) : (s.modPort p f).due = s.due := by cases p <;> rfl
@[simp] theorem State.modPort_params (p : Port) (f : PortBlock → PortBlock) : (s.modPort p f).params = s.params := by cases p <;> rfl
@[simp] theorem State.modPort_lanes (p : Port) (f : PortBlock → PortBlock) : (s.modPort p f).lanes = s.lanes := by cases p <;> rfl
@[simp] theorem State.modPort_bins (p : Port) (f : PortBlock → PortBlock) : (s.modPort p f).bins = s.bins := by cases p <;> rfl
@[simp] theorem State.modPort_stations (p : Port) (f : PortBlock → PortBlock) : (s.modPort p f).stations = s.stations := by cases p <;> rfl
@[simp] theorem State.modPort_claims (p : Port) (f : PortBlock → PortBlock) : (s.modPort p f).claims = s.claims := by cases p <;> rfl
@[simp] theorem State.modPort_backlog (p : Port) (f : PortBlock → PortBlock) : (s.modPort p f).backlog = s.backlog := by cases p <;> rfl
@[simp] theorem State.modPort_search (p : Port) (f : PortBlock → PortBlock) : (s.modPort p f).search = s.search := by cases p <;> rfl
@[simp] theorem State.modPort_tasks (p : Port) (f : PortBlock → PortBlock) : (s.modPort p f).tasks = s.tasks := by cases p <;> rfl
@[simp] theorem State.modPort_cranes (p : Port) (f : PortBlock → PortBlock) : (s.modPort p f).cranes = s.cranes := by cases p <;> rfl
@[simp] theorem State.modPort_channels (p : Port) (f : PortBlock → PortBlock) : (s.modPort p f).channels = s.channels := by cases p <;> rfl
@[simp] theorem State.modPort_rails (p : Port) (f : PortBlock → PortBlock) : (s.modPort p f).rails = s.rails := by cases p <;> rfl
@[simp] theorem State.modPort_fires (p : Port) (f : PortBlock → PortBlock) : (s.modPort p f).fires = s.fires := by cases p <;> rfl
@[simp] theorem State.modPort_shutters (p : Port) (f : PortBlock → PortBlock) : (s.modPort p f).shutters = s.shutters := by cases p <;> rfl
@[simp] theorem State.modPort_fireLines (p : Port) (f : PortBlock → PortBlock) : (s.modPort p f).fireLines = s.fireLines := by cases p <;> rfl
@[simp] theorem State.modPort_sweep (p : Port) (f : PortBlock → PortBlock) : (s.modPort p f).sweep = s.sweep := by cases p <;> rfl
@[simp] theorem State.modPort_sources (p : Port) (f : PortBlock → PortBlock) : (s.modPort p f).sources = s.sources := by cases p <;> rfl

end Fields

/-! ### Reading a record after writing it -/

section Reads

variable (s : State)

@[simp] theorem State.crane_modCrane_self (k : Crane) (f : CraneTasks → CraneTasks) : (s.modCrane k f).crane k = f (s.crane k) := by
  simp [State.crane, State.modCrane]

theorem State.crane_modCrane (k j : Crane) (f : CraneTasks → CraneTasks) :
    (s.modCrane k f).crane j = if k = j then f (s.crane k) else s.crane j := by
  by_cases h : k = j
  · subst h; simp
  · have : k.val ≠ j.val := fun e => h (Fin.ext e)
    simp [State.crane, State.modCrane, h, this]

theorem State.crane_modCrane_other {k j : Crane} (h : k ≠ j) (f : CraneTasks → CraneTasks) :
    (s.modCrane k f).crane j = s.crane j := by simp [State.crane_modCrane, h]

@[simp] theorem State.rail_modRail_self (k : Crane) (f : Rail → Rail) : (s.modRail k f).rail k = f (s.rail k) := by
  simp [State.rail, State.modRail]

theorem State.rail_modRail (k j : Crane) (f : Rail → Rail) :
    (s.modRail k f).rail j = if k = j then f (s.rail k) else s.rail j := by
  by_cases h : k = j
  · subst h; simp
  · have : k.val ≠ j.val := fun e => h (Fin.ext e)
    simp [State.rail, State.modRail, h, this]

theorem State.rail_modRail_other {k j : Crane} (h : k ≠ j) (f : Rail → Rail) :
    (s.modRail k f).rail j = s.rail j := by simp [State.rail_modRail, h]

@[simp] theorem State.channel_modChannel_self (k : Crane) (f : Channel → Channel) : (s.modChannel k f).channel k = f (s.channel k) := by
  simp [State.channel, State.modChannel]

theorem State.channel_modChannel (k j : Crane) (f : Channel → Channel) :
    (s.modChannel k f).channel j = if k = j then f (s.channel k) else s.channel j := by
  by_cases h : k = j
  · subst h; simp
  · have : k.val ≠ j.val := fun e => h (Fin.ext e)
    simp [State.channel, State.modChannel, h, this]

theorem State.channel_modChannel_other {k j : Crane} (h : k ≠ j) (f : Channel → Channel) :
    (s.modChannel k f).channel j = s.channel j := by simp [State.channel_modChannel, h]

@[simp] theorem State.station_modStation_self (k : Crane) (f : Station → Station) : (s.modStation k f).station k = f (s.station k) := by
  simp [State.station, State.modStation]

theorem State.station_modStation (k j : Crane) (f : Station → Station) :
    (s.modStation k f).station j = if k = j then f (s.station k) else s.station j := by
  by_cases h : k = j
  · subst h; simp
  · have : k.val ≠ j.val := fun e => h (Fin.ext e)
    simp [State.station, State.modStation, h, this]

theorem State.station_modStation_other {k j : Crane} (h : k ≠ j) (f : Station → Station) :
    (s.modStation k f).station j = s.station j := by simp [State.station_modStation, h]

@[simp] theorem State.shutter_modShutter_self (k : Crane) (f : Shutter → Shutter) : (s.modShutter k f).shutter k = f (s.shutter k) := by
  simp [State.shutter, State.modShutter]

theorem State.shutter_modShutter (k j : Crane) (f : Shutter → Shutter) :
    (s.modShutter k f).shutter j = if k = j then f (s.shutter k) else s.shutter j := by
  by_cases h : k = j
  · subst h; simp
  · have : k.val ≠ j.val := fun e => h (Fin.ext e)
    simp [State.shutter, State.modShutter, h, this]

theorem State.shutter_modShutter_other {k j : Crane} (h : k ≠ j) (f : Shutter → Shutter) :
    (s.modShutter k f).shutter j = s.shutter j := by simp [State.shutter_modShutter, h]

@[simp] theorem State.fire_modFire_self (k : Aisle) (f : Fire → Fire) : (s.modFire k f).fire k = f (s.fire k) := by
  simp [State.fire, State.modFire]

theorem State.fire_modFire (k j : Aisle) (f : Fire → Fire) :
    (s.modFire k f).fire j = if k = j then f (s.fire k) else s.fire j := by
  by_cases h : k = j
  · subst h; simp
  · have : k.val ≠ j.val := fun e => h (Fin.ext e)
    simp [State.fire, State.modFire, h, this]

theorem State.fire_modFire_other {k j : Aisle} (h : k ≠ j) (f : Fire → Fire) :
    (s.modFire k f).fire j = s.fire j := by simp [State.fire_modFire, h]

@[simp] theorem State.crane_of_modRail (i : Crane) (f : Rail → Rail) (j : Crane) : (s.modRail i f).crane j = s.crane j := by simp [State.crane]
@[simp] theorem State.crane_of_modChannel (i : Crane) (f : Channel → Channel) (j : Crane) : (s.modChannel i f).crane j = s.crane j := by simp [State.crane]
@[simp] theorem State.crane_of_modStation (i : Crane) (f : Station → Station) (j : Crane) : (s.modStation i f).crane j = s.crane j := by simp [State.crane]
@[simp] theorem State.crane_of_modShutter (i : Crane) (f : Shutter → Shutter) (j : Crane) : (s.modShutter i f).crane j = s.crane j := by simp [State.crane]
@[simp] theorem State.crane_of_modFire (i : Aisle) (f : Fire → Fire) (j : Crane) : (s.modFire i f).crane j = s.crane j := by simp [State.crane]
@[simp] theorem State.crane_of_setBin (b : Nat) (r : Bin) (j : Crane) : (s.setBin b r).crane j = s.crane j := by simp [State.crane]
@[simp] theorem State.crane_of_dropBin (b : Nat) (j : Crane) : (s.dropBin b).crane j = s.crane j := by simp [State.crane]
@[simp] theorem State.crane_of_setClaim (id : Nat) (c : Claim) (j : Crane) : (s.setClaim id c).crane j = s.crane j := by simp [State.crane]
@[simp] theorem State.crane_of_setTask (id : Nat) (t : Task) (j : Crane) : (s.setTask id t).crane j = s.crane j := by simp [State.crane]
@[simp] theorem State.crane_of_dropTask (id : Nat) (j : Crane) : (s.dropTask id).crane j = s.crane j := by simp [State.crane]
@[simp] theorem State.crane_of_setLane (i : Nat) (l : Lane) (j : Crane) : (s.setLane i l).crane j = s.crane j := by simp [State.crane]
@[simp] theorem State.crane_of_modLane (i : Nat) (f : Lane → Lane) (j : Crane) : (s.modLane i f).crane j = s.crane j := by simp [State.crane]
@[simp] theorem State.crane_of_modBin (b : Nat) (f : Bin → Bin) (j : Crane) : (s.modBin b f).crane j = s.crane j := by simp [State.crane]
@[simp] theorem State.crane_of_modClaim (id : Nat) (f : Claim → Claim) (j : Crane) : (s.modClaim id f).crane j = s.crane j := by simp [State.crane]
@[simp] theorem State.crane_of_modTask (id : Nat) (f : Task → Task) (j : Crane) : (s.modTask id f).crane j = s.crane j := by simp [State.crane]
@[simp] theorem State.crane_of_modPort (p : Port) (f : PortBlock → PortBlock) (j : Crane) : (s.modPort p f).crane j = s.crane j := by simp [State.crane]

@[simp] theorem State.rail_of_modCrane (i : Crane) (f : CraneTasks → CraneTasks) (j : Crane) : (s.modCrane i f).rail j = s.rail j := by simp [State.rail]
@[simp] theorem State.rail_of_modChannel (i : Crane) (f : Channel → Channel) (j : Crane) : (s.modChannel i f).rail j = s.rail j := by simp [State.rail]
@[simp] theorem State.rail_of_modStation (i : Crane) (f : Station → Station) (j : Crane) : (s.modStation i f).rail j = s.rail j := by simp [State.rail]
@[simp] theorem State.rail_of_modShutter (i : Crane) (f : Shutter → Shutter) (j : Crane) : (s.modShutter i f).rail j = s.rail j := by simp [State.rail]
@[simp] theorem State.rail_of_modFire (i : Aisle) (f : Fire → Fire) (j : Crane) : (s.modFire i f).rail j = s.rail j := by simp [State.rail]
@[simp] theorem State.rail_of_setBin (b : Nat) (r : Bin) (j : Crane) : (s.setBin b r).rail j = s.rail j := by simp [State.rail]
@[simp] theorem State.rail_of_dropBin (b : Nat) (j : Crane) : (s.dropBin b).rail j = s.rail j := by simp [State.rail]
@[simp] theorem State.rail_of_setClaim (id : Nat) (c : Claim) (j : Crane) : (s.setClaim id c).rail j = s.rail j := by simp [State.rail]
@[simp] theorem State.rail_of_setTask (id : Nat) (t : Task) (j : Crane) : (s.setTask id t).rail j = s.rail j := by simp [State.rail]
@[simp] theorem State.rail_of_dropTask (id : Nat) (j : Crane) : (s.dropTask id).rail j = s.rail j := by simp [State.rail]
@[simp] theorem State.rail_of_setLane (i : Nat) (l : Lane) (j : Crane) : (s.setLane i l).rail j = s.rail j := by simp [State.rail]
@[simp] theorem State.rail_of_modLane (i : Nat) (f : Lane → Lane) (j : Crane) : (s.modLane i f).rail j = s.rail j := by simp [State.rail]
@[simp] theorem State.rail_of_modBin (b : Nat) (f : Bin → Bin) (j : Crane) : (s.modBin b f).rail j = s.rail j := by simp [State.rail]
@[simp] theorem State.rail_of_modClaim (id : Nat) (f : Claim → Claim) (j : Crane) : (s.modClaim id f).rail j = s.rail j := by simp [State.rail]
@[simp] theorem State.rail_of_modTask (id : Nat) (f : Task → Task) (j : Crane) : (s.modTask id f).rail j = s.rail j := by simp [State.rail]
@[simp] theorem State.rail_of_modPort (p : Port) (f : PortBlock → PortBlock) (j : Crane) : (s.modPort p f).rail j = s.rail j := by simp [State.rail]

@[simp] theorem State.channel_of_modCrane (i : Crane) (f : CraneTasks → CraneTasks) (j : Crane) : (s.modCrane i f).channel j = s.channel j := by simp [State.channel]
@[simp] theorem State.channel_of_modRail (i : Crane) (f : Rail → Rail) (j : Crane) : (s.modRail i f).channel j = s.channel j := by simp [State.channel]
@[simp] theorem State.channel_of_modStation (i : Crane) (f : Station → Station) (j : Crane) : (s.modStation i f).channel j = s.channel j := by simp [State.channel]
@[simp] theorem State.channel_of_modShutter (i : Crane) (f : Shutter → Shutter) (j : Crane) : (s.modShutter i f).channel j = s.channel j := by simp [State.channel]
@[simp] theorem State.channel_of_modFire (i : Aisle) (f : Fire → Fire) (j : Crane) : (s.modFire i f).channel j = s.channel j := by simp [State.channel]
@[simp] theorem State.channel_of_setBin (b : Nat) (r : Bin) (j : Crane) : (s.setBin b r).channel j = s.channel j := by simp [State.channel]
@[simp] theorem State.channel_of_dropBin (b : Nat) (j : Crane) : (s.dropBin b).channel j = s.channel j := by simp [State.channel]
@[simp] theorem State.channel_of_setClaim (id : Nat) (c : Claim) (j : Crane) : (s.setClaim id c).channel j = s.channel j := by simp [State.channel]
@[simp] theorem State.channel_of_setTask (id : Nat) (t : Task) (j : Crane) : (s.setTask id t).channel j = s.channel j := by simp [State.channel]
@[simp] theorem State.channel_of_dropTask (id : Nat) (j : Crane) : (s.dropTask id).channel j = s.channel j := by simp [State.channel]
@[simp] theorem State.channel_of_setLane (i : Nat) (l : Lane) (j : Crane) : (s.setLane i l).channel j = s.channel j := by simp [State.channel]
@[simp] theorem State.channel_of_modLane (i : Nat) (f : Lane → Lane) (j : Crane) : (s.modLane i f).channel j = s.channel j := by simp [State.channel]
@[simp] theorem State.channel_of_modBin (b : Nat) (f : Bin → Bin) (j : Crane) : (s.modBin b f).channel j = s.channel j := by simp [State.channel]
@[simp] theorem State.channel_of_modClaim (id : Nat) (f : Claim → Claim) (j : Crane) : (s.modClaim id f).channel j = s.channel j := by simp [State.channel]
@[simp] theorem State.channel_of_modTask (id : Nat) (f : Task → Task) (j : Crane) : (s.modTask id f).channel j = s.channel j := by simp [State.channel]
@[simp] theorem State.channel_of_modPort (p : Port) (f : PortBlock → PortBlock) (j : Crane) : (s.modPort p f).channel j = s.channel j := by simp [State.channel]

@[simp] theorem State.station_of_modCrane (i : Crane) (f : CraneTasks → CraneTasks) (j : Crane) : (s.modCrane i f).station j = s.station j := by simp [State.station]
@[simp] theorem State.station_of_modRail (i : Crane) (f : Rail → Rail) (j : Crane) : (s.modRail i f).station j = s.station j := by simp [State.station]
@[simp] theorem State.station_of_modChannel (i : Crane) (f : Channel → Channel) (j : Crane) : (s.modChannel i f).station j = s.station j := by simp [State.station]
@[simp] theorem State.station_of_modShutter (i : Crane) (f : Shutter → Shutter) (j : Crane) : (s.modShutter i f).station j = s.station j := by simp [State.station]
@[simp] theorem State.station_of_modFire (i : Aisle) (f : Fire → Fire) (j : Crane) : (s.modFire i f).station j = s.station j := by simp [State.station]
@[simp] theorem State.station_of_setBin (b : Nat) (r : Bin) (j : Crane) : (s.setBin b r).station j = s.station j := by simp [State.station]
@[simp] theorem State.station_of_dropBin (b : Nat) (j : Crane) : (s.dropBin b).station j = s.station j := by simp [State.station]
@[simp] theorem State.station_of_setClaim (id : Nat) (c : Claim) (j : Crane) : (s.setClaim id c).station j = s.station j := by simp [State.station]
@[simp] theorem State.station_of_setTask (id : Nat) (t : Task) (j : Crane) : (s.setTask id t).station j = s.station j := by simp [State.station]
@[simp] theorem State.station_of_dropTask (id : Nat) (j : Crane) : (s.dropTask id).station j = s.station j := by simp [State.station]
@[simp] theorem State.station_of_setLane (i : Nat) (l : Lane) (j : Crane) : (s.setLane i l).station j = s.station j := by simp [State.station]
@[simp] theorem State.station_of_modLane (i : Nat) (f : Lane → Lane) (j : Crane) : (s.modLane i f).station j = s.station j := by simp [State.station]
@[simp] theorem State.station_of_modBin (b : Nat) (f : Bin → Bin) (j : Crane) : (s.modBin b f).station j = s.station j := by simp [State.station]
@[simp] theorem State.station_of_modClaim (id : Nat) (f : Claim → Claim) (j : Crane) : (s.modClaim id f).station j = s.station j := by simp [State.station]
@[simp] theorem State.station_of_modTask (id : Nat) (f : Task → Task) (j : Crane) : (s.modTask id f).station j = s.station j := by simp [State.station]
@[simp] theorem State.station_of_modPort (p : Port) (f : PortBlock → PortBlock) (j : Crane) : (s.modPort p f).station j = s.station j := by simp [State.station]

@[simp] theorem State.shutter_of_modCrane (i : Crane) (f : CraneTasks → CraneTasks) (j : Crane) : (s.modCrane i f).shutter j = s.shutter j := by simp [State.shutter]
@[simp] theorem State.shutter_of_modRail (i : Crane) (f : Rail → Rail) (j : Crane) : (s.modRail i f).shutter j = s.shutter j := by simp [State.shutter]
@[simp] theorem State.shutter_of_modChannel (i : Crane) (f : Channel → Channel) (j : Crane) : (s.modChannel i f).shutter j = s.shutter j := by simp [State.shutter]
@[simp] theorem State.shutter_of_modStation (i : Crane) (f : Station → Station) (j : Crane) : (s.modStation i f).shutter j = s.shutter j := by simp [State.shutter]
@[simp] theorem State.shutter_of_modFire (i : Aisle) (f : Fire → Fire) (j : Crane) : (s.modFire i f).shutter j = s.shutter j := by simp [State.shutter]
@[simp] theorem State.shutter_of_setBin (b : Nat) (r : Bin) (j : Crane) : (s.setBin b r).shutter j = s.shutter j := by simp [State.shutter]
@[simp] theorem State.shutter_of_dropBin (b : Nat) (j : Crane) : (s.dropBin b).shutter j = s.shutter j := by simp [State.shutter]
@[simp] theorem State.shutter_of_setClaim (id : Nat) (c : Claim) (j : Crane) : (s.setClaim id c).shutter j = s.shutter j := by simp [State.shutter]
@[simp] theorem State.shutter_of_setTask (id : Nat) (t : Task) (j : Crane) : (s.setTask id t).shutter j = s.shutter j := by simp [State.shutter]
@[simp] theorem State.shutter_of_dropTask (id : Nat) (j : Crane) : (s.dropTask id).shutter j = s.shutter j := by simp [State.shutter]
@[simp] theorem State.shutter_of_setLane (i : Nat) (l : Lane) (j : Crane) : (s.setLane i l).shutter j = s.shutter j := by simp [State.shutter]
@[simp] theorem State.shutter_of_modLane (i : Nat) (f : Lane → Lane) (j : Crane) : (s.modLane i f).shutter j = s.shutter j := by simp [State.shutter]
@[simp] theorem State.shutter_of_modBin (b : Nat) (f : Bin → Bin) (j : Crane) : (s.modBin b f).shutter j = s.shutter j := by simp [State.shutter]
@[simp] theorem State.shutter_of_modClaim (id : Nat) (f : Claim → Claim) (j : Crane) : (s.modClaim id f).shutter j = s.shutter j := by simp [State.shutter]
@[simp] theorem State.shutter_of_modTask (id : Nat) (f : Task → Task) (j : Crane) : (s.modTask id f).shutter j = s.shutter j := by simp [State.shutter]
@[simp] theorem State.shutter_of_modPort (p : Port) (f : PortBlock → PortBlock) (j : Crane) : (s.modPort p f).shutter j = s.shutter j := by simp [State.shutter]

@[simp] theorem State.fire_of_modCrane (i : Crane) (f : CraneTasks → CraneTasks) (j : Aisle) : (s.modCrane i f).fire j = s.fire j := by simp [State.fire]
@[simp] theorem State.fire_of_modRail (i : Crane) (f : Rail → Rail) (j : Aisle) : (s.modRail i f).fire j = s.fire j := by simp [State.fire]
@[simp] theorem State.fire_of_modChannel (i : Crane) (f : Channel → Channel) (j : Aisle) : (s.modChannel i f).fire j = s.fire j := by simp [State.fire]
@[simp] theorem State.fire_of_modStation (i : Crane) (f : Station → Station) (j : Aisle) : (s.modStation i f).fire j = s.fire j := by simp [State.fire]
@[simp] theorem State.fire_of_modShutter (i : Crane) (f : Shutter → Shutter) (j : Aisle) : (s.modShutter i f).fire j = s.fire j := by simp [State.fire]
@[simp] theorem State.fire_of_setBin (b : Nat) (r : Bin) (j : Aisle) : (s.setBin b r).fire j = s.fire j := by simp [State.fire]
@[simp] theorem State.fire_of_dropBin (b : Nat) (j : Aisle) : (s.dropBin b).fire j = s.fire j := by simp [State.fire]
@[simp] theorem State.fire_of_setClaim (id : Nat) (c : Claim) (j : Aisle) : (s.setClaim id c).fire j = s.fire j := by simp [State.fire]
@[simp] theorem State.fire_of_setTask (id : Nat) (t : Task) (j : Aisle) : (s.setTask id t).fire j = s.fire j := by simp [State.fire]
@[simp] theorem State.fire_of_dropTask (id : Nat) (j : Aisle) : (s.dropTask id).fire j = s.fire j := by simp [State.fire]
@[simp] theorem State.fire_of_setLane (i : Nat) (l : Lane) (j : Aisle) : (s.setLane i l).fire j = s.fire j := by simp [State.fire]
@[simp] theorem State.fire_of_modLane (i : Nat) (f : Lane → Lane) (j : Aisle) : (s.modLane i f).fire j = s.fire j := by simp [State.fire]
@[simp] theorem State.fire_of_modBin (b : Nat) (f : Bin → Bin) (j : Aisle) : (s.modBin b f).fire j = s.fire j := by simp [State.fire]
@[simp] theorem State.fire_of_modClaim (id : Nat) (f : Claim → Claim) (j : Aisle) : (s.modClaim id f).fire j = s.fire j := by simp [State.fire]
@[simp] theorem State.fire_of_modTask (id : Nat) (f : Task → Task) (j : Aisle) : (s.modTask id f).fire j = s.fire j := by simp [State.fire]
@[simp] theorem State.fire_of_modPort (p : Port) (f : PortBlock → PortBlock) (j : Aisle) : (s.modPort p f).fire j = s.fire j := by simp [State.fire]

@[simp] theorem State.port_modPort_self (p : Port) (f : PortBlock → PortBlock) :
    (s.modPort p f).port p = f (s.port p) := by
  cases p <;> simp [State.port, State.modPort]

theorem State.port_modPort_other {p q : Port} (h : p ≠ q) (f : PortBlock → PortBlock) :
    (s.modPort p f).port q = s.port q := by
  cases p <;> cases q <;> simp_all [State.port, State.modPort, Fin.ext_iff]

end Reads

end Sys2Proof.Machine
end

