-- ==== Sys2Proof/Laws/Tables.lean ====
section
/-!
SUPPORT. Keyed tables: reading after writing, and that every table operation keeps the canonical form.
-/
namespace Sys2Proof.Machine

variable {α : Type}

/-! ### Reading after writing -/

theorem lookupEntry_insertEntry (n m : Nat) (x : α) (l : List (Nat × α)) :
    lookupEntry m (insertEntry n x l) = if m = n then some x else lookupEntry m l := by
  induction l with
  | nil => rfl
  | cons e t ih =>
    obtain ⟨k, v⟩ := e
    simp only [insertEntry]
    split
    · simp [lookupEntry]
    · split
      · subst k; simp only [lookupEntry]; split <;> rfl
      · simp only [lookupEntry, ih]; split
        · next h => subst h; rw [if_neg (fun e => by simp_all)]
        · rfl

theorem lookupEntry_eraseEntry (n m : Nat) (l : List (Nat × α)) :
    lookupEntry m (eraseEntry n l) = if m = n then none else lookupEntry m l := by
  induction l with
  | nil => simp [eraseEntry, lookupEntry]
  | cons e t ih =>
    obtain ⟨k, v⟩ := e
    simp only [eraseEntry]
    split
    · subst k; rw [ih]; simp only [lookupEntry]; split <;> simp_all
    · simp only [lookupEntry, ih]; split
      · next h => subst h; rw [if_neg (fun e => by simp_all)]
      · rfl

/-- Reading a number after a write gives the record written, and every other number reads as before. -/
theorem Table.find?_insert (t : Table α) (n m : Nat) (x : α) :
    (t.insert n x).find? m = if m = n then some x else t.find? m := lookupEntry_insertEntry n m x _

/-- Reading after an erasure. -/
theorem Table.find?_erase (t : Table α) (n m : Nat) :
    (t.erase n).find? m = if m = n then none else t.find? m := lookupEntry_eraseEntry n m _

@[simp] theorem Table.find?_insert_self (t : Table α) (n : Nat) (x : α) : (t.insert n x).find? n = some x := by
  simp [Table.find?_insert]

@[simp] theorem Table.find?_erase_self (t : Table α) (n : Nat) : (t.erase n).find? n = none := by
  simp [Table.find?_erase]

theorem Table.find?_insert_other (t : Table α) {n m : Nat} (h : m ≠ n) (x : α) :
    (t.insert n x).find? m = t.find? m := by simp [Table.find?_insert, h]

/-! ### The canonical form -/

theorem risingFrom_mono {lo lo' : Nat} (h : lo ≤ lo') (l : List (Nat × α)) :
    risingFrom lo' l = true → risingFrom lo l = true := by
  cases l with
  | nil => simp [risingFrom]
  | cons e t => obtain ⟨k, v⟩ := e; simp only [risingFrom, Bool.and_eq_true, decide_eq_true_eq]; exact fun g => ⟨by omega, g.2⟩

theorem risingFrom_insertEntry (n : Nat) (x : α) (l : List (Nat × α)) :
    ∀ lo, lo ≤ n → risingFrom lo l = true → risingFrom lo (insertEntry n x l) = true := by
  induction l with
  | nil => intro lo h _; simp [insertEntry, risingFrom, h]
  | cons e t ih =>
    obtain ⟨k, v⟩ := e
    intro lo hlo h
    simp only [risingFrom, Bool.and_eq_true, decide_eq_true_eq] at h
    simp only [insertEntry]
    split
    · simp only [risingFrom, Bool.and_eq_true, decide_eq_true_eq]; exact ⟨hlo, by omega, h.2⟩
    · split
      · subst k; simp only [risingFrom, Bool.and_eq_true, decide_eq_true_eq]; exact ⟨hlo, h.2⟩
      · simp only [risingFrom, Bool.and_eq_true, decide_eq_true_eq]; exact ⟨h.1, ih _ (by omega) h.2⟩

theorem risingFrom_eraseEntry (n : Nat) (l : List (Nat × α)) :
    ∀ lo, risingFrom lo l = true → risingFrom lo (eraseEntry n l) = true := by
  induction l with
  | nil => intro lo _; rfl
  | cons e t ih =>
    obtain ⟨k, v⟩ := e
    intro lo h
    simp only [risingFrom, Bool.and_eq_true, decide_eq_true_eq] at h
    simp only [eraseEntry]
    split
    · exact ih lo (risingFrom_mono (by omega) t h.2)
    · simp only [risingFrom, Bool.and_eq_true, decide_eq_true_eq]; exact ⟨h.1, ih _ h.2⟩

/-- A write keeps the canonical form. -/
theorem Table.wf_insert {t : Table α} (h : t.wf = true) (n : Nat) (x : α) : (t.insert n x).wf = true :=
  risingFrom_insertEntry n x _ 0 (Nat.zero_le _) h

/-- An erasure keeps the canonical form. -/
theorem Table.wf_erase {t : Table α} (h : t.wf = true) (n : Nat) : (t.erase n).wf = true :=
  risingFrom_eraseEntry n _ 0 h

theorem risingFrom_map (f : Nat × α → α) (l : List (Nat × α)) :
    ∀ lo, risingFrom lo (l.map (fun e => (e.1, f e))) = risingFrom lo l := by
  induction l with
  | nil => intro; rfl
  | cons e t ih => obtain ⟨k, v⟩ := e; intro lo; simp [risingFrom, ih]

/-- A change of the records that keeps their numbers keeps the canonical form. -/
theorem Table.wf_map (t : Table α) (f : Nat × α → α) :
    (Table.mk (t.entries.map (fun e => (e.1, f e)))).wf = t.wf := risingFrom_map f _ 0

theorem risingFrom_filter (p : Nat × α → Bool) (l : List (Nat × α)) :
    ∀ lo, risingFrom lo l = true → risingFrom lo (l.filter p) = true := by
  induction l with
  | nil => intro lo _; rfl
  | cons e t ih =>
    obtain ⟨k, v⟩ := e
    intro lo h
    simp only [risingFrom, Bool.and_eq_true, decide_eq_true_eq] at h
    simp only [List.filter]
    split
    · simp only [risingFrom, Bool.and_eq_true, decide_eq_true_eq]; exact ⟨h.1, ih _ h.2⟩
    · exact ih lo (risingFrom_mono (by omega) t h.2)

/-- Leaving records out keeps the canonical form. -/
theorem Table.wf_filter {t : Table α} (h : t.wf = true) (p : Nat × α → Bool) :
    (Table.mk (t.entries.filter p)).wf = true := risingFrom_filter p _ 0 h

theorem mem_insertEntry {n : Nat} {x : α} {l : List (Nat × α)} {e : Nat × α} :
    e ∈ insertEntry n x l → e = (n, x) ∨ e ∈ l := by
  induction l with
  | nil => simp [insertEntry]
  | cons d t ih =>
    obtain ⟨k, v⟩ := d
    simp only [insertEntry]
    split
    · simp
    · split
      · simp only [List.mem_cons]; tauto
      · simp only [List.mem_cons]; tauto

theorem mem_eraseEntry {n : Nat} {l : List (Nat × α)} {e : Nat × α} : e ∈ eraseEntry n l → e ∈ l := by
  induction l with
  | nil => simp [eraseEntry]
  | cons d t ih =>
    obtain ⟨k, v⟩ := d
    simp only [eraseEntry]
    split
    · intro h; exact List.mem_cons_of_mem _ (ih h)
    · simp only [List.mem_cons]; tauto

/-! ### The lane table (log 4) -/

/-- Reading a lane after writing it: a configured lane's record is the one written, and every other lane
reads as before. -/
theorem State.lane_setLane (s : State) (i j : Nat) (l : Lane) :
    (s.setLane i l).lane j = if j = i then l else s.lane j := by
  simp only [State.lane, State.setLane]
  split
  · rw [Table.find?_erase]; split <;> simp_all
  · rw [Table.find?_insert]; split <;> simp_all

@[simp] theorem State.lane_modLane_self (s : State) (i : Nat) (f : Lane → Lane) :
    (s.modLane i f).lane i = f (s.lane i) := by simp [State.modLane, State.lane_setLane]

theorem State.lane_modLane_other (s : State) {i j : Nat} (h : j ≠ i) (f : Lane → Lane) :
    (s.modLane i f).lane j = s.lane j := by simp [State.modLane, State.lane_setLane, h]

/-- A lane write keeps the lane table's canonical form. -/
theorem State.setLane_canonical {s : State} (i : Nat) (l : Lane) (hw : s.lanes.wf = true)
    (hd : ∀ e ∈ s.lanes.entries, e.2 ≠ s.params.resetLane) :
    (s.setLane i l).lanes.wf = true ∧ ∀ e ∈ (s.setLane i l).lanes.entries, e.2 ≠ s.params.resetLane := by
  simp only [State.setLane]
  split
  · exact ⟨Table.wf_erase hw i, fun e he => hd e (mem_eraseEntry he)⟩
  · refine ⟨Table.wf_insert hw i l, fun e he => ?_⟩
    rcases mem_insertEntry he with rfl | he
    · assumption
    · exact hd e he

/-! ### Bins, claims and tasks -/

@[simp] theorem State.bin?_setBin_self (s : State) (b : Nat) (r : Bin) : (s.setBin b r).bin? b = some r := by
  simp [State.bin?, State.setBin]

theorem State.bin?_setBin_other (s : State) {b c : Nat} (h : c ≠ b) (r : Bin) :
    (s.setBin b r).bin? c = s.bin? c := by simp [State.bin?, State.setBin, Table.find?_insert, h]

@[simp] theorem State.bin?_dropBin_self (s : State) (b : Nat) : (s.dropBin b).bin? b = none := by
  simp [State.bin?, State.dropBin]

@[simp] theorem State.claim?_setClaim_self (s : State) (id : Nat) (c : Claim) :
    (s.setClaim id c).claim? id = some c := by simp [State.claim?, State.setClaim]

theorem State.claim?_setClaim_other (s : State) {i j : Nat} (h : j ≠ i) (c : Claim) :
    (s.setClaim i c).claim? j = s.claim? j := by simp [State.claim?, State.setClaim, Table.find?_insert, h]

@[simp] theorem State.task?_setTask_self (s : State) (id : Nat) (t : Task) :
    (s.setTask id t).task? id = some t := by simp [State.task?, State.setTask]

theorem State.task?_setTask_other (s : State) {i j : Nat} (h : j ≠ i) (t : Task) :
    (s.setTask i t).task? j = s.task? j := by simp [State.task?, State.setTask, Table.find?_insert, h]

theorem State.bin?_modBin_self {s : State} {b : Nat} {r : Bin} (h : s.bin? b = some r) (f : Bin → Bin) :
    (s.modBin b f).bin? b = some (f r) := by simp [State.modBin, h]

theorem State.claim?_modClaim_self {s : State} {id : Nat} {c : Claim} (h : s.claim? id = some c)
    (f : Claim → Claim) : (s.modClaim id f).claim? id = some (f c) := by simp [State.modClaim, h]

theorem State.task?_modTask_self {s : State} {id : Nat} {t : Task} (h : s.task? id = some t)
    (f : Task → Task) : (s.modTask id f).task? id = some (f t) := by simp [State.modTask, h]

end Sys2Proof.Machine
end

