-- ==== Sys2Proof/Laws/TaskSteps.lean ====
section
/-!
SUPPORT. What the shared operations of the task unit and the claim unit can do, said once: each is a chain of primitive updates.
A relation between states that every primitive update satisfies, and that is reflexive and transitive, holds across each
operation. Take `R s t := F t = F s` for a frame, and `R s t := (P s → P t)` for an invariant.
-/
namespace Sys2Proof.Machine

/-- A relation that the primitive updates of the task unit satisfy. -/
structure TaskSteps (R : State → State → Prop) : Prop where
  refl : ∀ s, R s s
  trans : ∀ {s t u}, R s t → R t u → R s u
  claim : ∀ s id c, R s (s.setClaim id c)
  task : ∀ s id t, R s (s.setTask id t)
  drop : ∀ s id, R s (s.dropTask id)
  crane : ∀ s k f, R s (s.modCrane k f)
  latchC : ∀ n s, R s (latchC n s)
  latchK : ∀ k n s, R s (latchK k n s)
  sources : ∀ s x, R s { s with sources := x }
  due : ∀ s x, R s { s with due := x }
  backlog : ∀ s x, R s { s with backlog := x }
  incoming : ∀ s i (f : Lane → Nat), R s (s.modLane i (fun l => { l with incoming := f l }))
  promises : ∀ s k (f : Station → Vector (Option Nat) 2), R s (s.modStation k (fun st => { st with promises := f st }))

namespace TaskSteps

variable {R : State → State → Prop} (h : TaskSteps R)
include h

omit h in
theorem iff_ite {c : Prop} [Decidable c] {s t u : State} (ht : R s t) (hu : R s u) : R s (if c then t else u) := by
  split <;> assumption

theorem modTask (s id f) : R s (s.modTask id f) := by
  unfold State.modTask; split
  · exact h.task ..
  · exact h.refl _

theorem forIds {f : Nat → State → State} (hf : ∀ i s, R s (f i s)) (l s) : R s (forIds l f s) := by
  unfold Machine.forIds
  induction l generalizing s with
  | nil => exact h.refl _
  | cons a t ih => exact h.trans (hf a s) (ih _)

theorem forCranes {f : Crane → State → State} (hf : ∀ k s, R s (f k s)) (l s) : R s (forCranes l f s) := by
  unfold Machine.forCranes
  induction l generalizing s with
  | nil => exact h.refl _
  | cons a t ih => exact h.trans (hf a s) (ih _)

theorem touchClaim (id f s) : R s (touchClaim id f s) := by
  unfold Machine.touchClaim; split
  · exact h.trans (h.claim ..) (h.latchC ..)
  · exact h.refl _

theorem claimFetching (id s) : R s (claimFetching id s) := by
  unfold Machine.claimFetching; split
  · exact TaskSteps.iff_ite (h.touchClaim ..) (h.refl _)
  · exact h.refl _

theorem claimLosesTask (id s) : R s (claimLosesTask id s) := by
  unfold Machine.claimLosesTask; split
  · exact TaskSteps.iff_ite (h.touchClaim ..) (h.refl _)
  · exact h.refl _

theorem markDue (k s) : R s (markDue k s) := h.due ..

theorem readyIfIdle (k s) : R s (readyIfIdle k s) := TaskSteps.iff_ite (h.latchK ..) (h.refl _)

theorem readyIfNewlyEligible (k old s) : R s (readyIfNewlyEligible k old s) := TaskSteps.iff_ite (h.latchK ..) (h.refl _)

theorem latchStackFull (k s) : R s (latchStackFull k s) :=
  h.trans (h.sources ..) (h.trans (h.latchC ..) (h.latchK ..))

theorem latchCraneFault (k s) : R s (latchCraneFault k s) := h.trans (h.sources ..) (h.latchC ..)

theorem admitAt (id t s) : R s (admitAt id t s) :=
  h.trans (h.task ..) (h.trans (h.crane ..) (h.trans (h.readyIfIdle ..) (h.markDue ..)))

theorem admitTask (t s) : R s (admitTask t s) := by
  unfold Machine.admitTask; split
  · exact h.admitAt ..
  · exact h.refl _

theorem admitFetch (id s) : R s (admitFetch id s) := by
  unfold Machine.admitFetch; split
  · exact h.trans (h.admitAt ..) (h.touchClaim ..)
  · exact h.refl _

theorem slotFreed (k s) : R s (slotFreed k s) := by
  unfold Machine.slotFreed; split
  · exact TaskSteps.iff_ite (h.trans (h.backlog ..) (h.admitFetch ..)) (h.refl _)
  · exact h.refl _

theorem setMarker (k m s) : R s (setMarker k m s) := by
  unfold Machine.setMarker
  exact TaskSteps.iff_ite (h.trans (h.crane ..) (h.slotFreed ..)) (h.crane ..)

theorem requeue (id s) : R s (requeue id s) := by
  unfold Machine.requeue; split
  · exact h.trans (h.task ..) (h.trans (h.readyIfIdle ..) (h.markDue ..))
  · exact h.refl _

theorem reexamine (p s) : R s (reexamine p s) := h.forIds h.requeue _ _

theorem laneSlotFreed (s) : R s (laneSlotFreed s) := h.reexamine ..

theorem laneQuieter (s) : R s (laneQuieter s) := h.reexamine ..

theorem positionFreed (k s) : R s (positionFreed k s) := h.reexamine ..

theorem takeSlots (i n s) : R s (takeSlots i n s) := h.incoming ..

theorem releaseSlots (i n s) : R s (releaseSlots i n s) :=
  TaskSteps.iff_ite (h.refl _) (h.trans (h.incoming ..) (h.laneSlotFreed ..))

theorem promise (k p id s) : R s (promise k p id s) := h.promises ..

theorem releasePromise (k id s) : R s (releasePromise k id s) := by
  unfold Machine.releasePromise
  exact TaskSteps.iff_ite (h.trans (h.promises ..) (h.positionFreed ..)) (h.refl _)

theorem releaseEntries (l s) : R s (releaseEntries l s) := by
  unfold Machine.releaseEntries
  induction l generalizing s with
  | nil => exact h.refl _
  | cons a t ih => exact h.trans (h.releaseSlots ..) (ih _)

theorem releaseHold (t s) : R s (releaseHold t s) := by
  unfold Machine.releaseHold; split
  · exact h.releaseSlots ..
  · exact h.refl _

theorem planDig (src l done s) : R s (planDig src l done s).1 := by
  induction l generalizing done s with
  | nil => exact h.refl _
  | cons a t ih =>
    unfold Machine.planDig; split
    · exact h.trans (h.takeSlots ..) (ih ..)
    · exact h.releaseEntries ..

theorem blockTask (id r s) : R s (blockTask id r s) := h.modTask ..

theorem activateFetch (id t s) : R s (activateFetch id t s).1 := by
  unfold Machine.activateFetch
  split
  · rename_i b src _
    dsimp only
    split
    · exact h.blockTask ..
    · split
      · exact h.blockTask ..
      · rename_i p _
        have hp := h.planDig src ((s.lane src).contents.takeWhile (fun x => x != b)) []
          (Machine.promise t.crane p id s)
        split
        · rename_i s2 e
          rw [e] at hp
          exact h.trans (h.promise ..) (h.trans hp (h.trans (h.releasePromise ..)
            (h.trans (h.blockTask ..) (h.latchC ..))))
        · rename_i s2 plan e
          rw [e] at hp
          dsimp only at hp ⊢
          have hb := h.trans (h.trans (h.promise t.crane p id s) hp)
            (h.takeSlots src ((s.lane src).depth - (s.lane src).contents.length) s2)
          split
          · exact h.trans hb (h.trans (h.modTask ..) (h.claimFetching ..))
          · exact h.trans hb (h.modTask ..)
  · exact h.blockTask ..

theorem activateStow (id t s) : R s (activateStow id t s).1 := by
  unfold Machine.activateStow
  split
  · split
    · exact h.trans (h.takeSlots ..) (h.modTask ..)
    · exact h.trans (h.blockTask ..) (h.latchC ..)
  · exact h.trans (h.blockTask ..) (h.latchC ..)

theorem activateTravel (id s) : R s (activateTravel id s).1 := h.modTask ..

theorem activate (id s) : R s (activate id s).1 := by
  unfold Machine.activate
  split
  · split
    · exact h.activateFetch ..
    · exact h.activateStow ..
    · exact h.activateTravel ..
    · exact h.activateTravel ..
    · exact h.refl _
  · exact h.refl _

theorem makeActive (k id s) : R s (makeActive k id s) := h.trans (h.crane ..) (h.markDue ..)

theorem resumeTask (id s) : R s (resumeTask id s) := by
  unfold Machine.resumeTask
  extract_lets s1
  have h1 : R s s1 := h.modTask ..
  split
  · rename_i t _
    refine TaskSteps.iff_ite ?_ h1
    cases t.claim with
    | none => exact h1
    | some c => exact h.trans h1 (h.claimFetching ..)
  · exact h1

theorem popStack (k n s) : R s (popStack k n s) := by
  unfold Machine.popStack
  split
  · extract_lets s1
    have hb : R s s1 := h.trans (h.crane ..) (h.resumeTask ..)
    exact h.trans (TaskSteps.iff_ite (h.trans hb (h.latchK ..)) hb) (h.markDue ..)
  · exact h.refl _

theorem endTask (id s) : R s (endTask id s) := by
  unfold Machine.endTask
  split
  · rename_i t _
    dsimp only
    have h1 := h.trans (h.drop s id) (h.crane _ t.crane (fun c =>
      { c with queue := c.queue.erase id, stack := c.stack.erase id,
               active := if c.active = some id then none else c.active }))
    generalize (s.dropTask id).modCrane t.crane (fun c =>
      { c with queue := c.queue.erase id, stack := c.stack.erase id,
               active := if c.active = some id then none else c.active }) = s1 at h1 ⊢
    have step {c : Prop} [Decidable c] {f : State → State} {u : State} (hu : R s u) (hf : ∀ v, R v (f v)) :
        R s (if c then f u else u) := TaskSteps.iff_ite (h.trans hu (hf u)) hu
    exact step (step (step h1 (h.slotFreed _)) (h.markDue _)) (h.popStack _ _)
  · exact h.refl _

theorem completeTask (id s) : R s (completeTask id s) := by
  unfold Machine.completeTask
  split
  · exact h.trans (h.crane ..) (h.endTask ..)
  · exact h.refl _

theorem markRemoved (id s) : R s (markRemoved id s) := by
  unfold Machine.markRemoved
  split
  · exact TaskSteps.iff_ite (h.trans (h.setMarker ..) (h.latchK ..)) (h.refl _)
  · exact h.refl _

theorem removeStow (id s) : R s (removeStow id s) := by
  unfold Machine.removeStow
  split
  · rename_i t _
    dsimp only
    refine TaskSteps.iff_ite (h.refl _) ?_
    refine h.trans ?_ (h.endTask ..)
    refine TaskSteps.iff_ite ?_ (h.markRemoved ..)
    cases t.destLane with
    | none => exact h.markRemoved ..
    | some i => exact h.trans (h.markRemoved ..) (h.releaseSlots ..)
  · exact h.refl _

theorem releasePosition (k p s) : R s (releasePosition k p s) := h.trans (h.promises ..) (h.positionFreed ..)

theorem convertFetch (id t s) : R s (convertFetch id t s) := by
  unfold Machine.convertFetch
  split
  · rename_i b i rest _
    extract_lets s1 s2
    have hb : R s s2 := h.trans (h.task ..) (h.trans (h.releaseEntries ..) (h.releaseHold ..))
    split
    · exact h.trans hb (h.releasePosition ..)
    · exact hb
  · exact h.refl _

theorem removeFetch (id s) : R s (removeFetch id s) := by
  unfold Machine.removeFetch
  split
  · refine h.trans (TaskSteps.iff_ite (TaskSteps.iff_ite (h.convertFetch ..) ?_) (h.endTask ..)) (h.laneQuieter _)
    exact h.trans (h.trans (h.markRemoved ..) (h.releasePromise ..))
      (h.trans (h.trans (h.releaseEntries ..) (h.releaseHold ..)) (h.endTask ..))
  · exact h.refl _

theorem pushActive (k old new t s) : R s (pushActive k old new t s) := by
  unfold Machine.pushActive
  dsimp only
  refine (fun (owed : Bool) (y : State) (hy : R s y) =>
    (fun hb => TaskSteps.iff_ite (h.trans hb (h.latchK ..)) hb :
      R s (Machine.latchK k .taskReady (if owed = true then Machine.slotFreed k y else y)) → _)
      (h.trans (h.trans hy (TaskSteps.iff_ite (h.slotFreed k y) (h.refl _))) (h.latchK ..))) _ _ ?_
  exact h.trans (h.modTask ..) (h.trans (h.crane ..) (h.trans (h.makeActive ..) (h.crane ..)))

theorem preemptTest (k tried s) : R s (preemptTest k tried s).1 := by
  unfold Machine.preemptTest
  dsimp only
  split
  · rename_i new t old o _ _
    split
    · split
      · split
        · have ha := h.activate new s
          split
          · rename_i s' e; rw [e] at ha; exact h.trans ha (h.pushActive ..)
          · rename_i s' e; rw [e] at ha; exact h.trans ha (h.markDue ..)
        · split
          · exact h.refl _
          · exact h.trans (h.crane ..) (h.latchStackFull ..)
      · exact h.refl _
    · dsimp only; exact h.crane ..
  · dsimp only; exact h.crane ..

theorem settleTests (n tried s) : R s (settleTests n tried s) := by
  induction n generalizing tried s with
  | zero => exact h.due ..
  | succ n ih =>
    unfold Machine.settleTests; split
    · exact h.refl _
    · exact h.trans (h.due ..) (h.trans (h.preemptTest ..) (ih ..))

/-- Settling the tests owed is a chain of primitive updates of the task unit. -/
theorem settle (s) : R s (settle s) := h.settleTests ..

end TaskSteps

/-- After settling, no preemption test is owed. -/
theorem settle_settled (s : State) : (settle s).settled := by
  have hs : ∀ n tried (s : State), (settleTests n tried s).settled := by
    intro n
    induction n with
    | zero => intro tried s k; simp [settleTests]
    | succ n ih =>
      intro tried s
      unfold settleTests
      split
      · rename_i e
        intro k
        rw [List.find?_eq_none] at e
        have := e k (by revert k; decide)
        simpa using this
      · exact ih _ _
  exact hs _ _ _

/-- With no test owed, settling changes nothing. -/
theorem settle_of_settled {s : State} (h : s.settled) : settle s = s := by
  have e : allCranes.find? (fun k => s.due[k]) = none := by
    rw [List.find?_eq_none]; intro k _; simp [h k]
  unfold settle
  rw [settleTests, e]

end Sys2Proof.Machine
end

