-- ==== Sys2Proof/Laws/ClaimSteps.lean ====
section
/-!
SUPPORT. What the shared operations of the claim unit and the crane reports can do, said once, as in TaskSteps. Placing a claim,
handing a bin on and dispatch move no bin, so they are chains of the task unit's updates; the moves of bins, and the creation
and ending of claims, are chains that also write bins, lanes and stations.
-/
namespace Sys2Proof.Machine

namespace TaskSteps

variable {R : State → State → Prop} (h : TaskSteps R)
include h

theorem presentClaim (id s) : R s (presentClaim id s) := h.touchClaim ..

theorem lowerClass (id cls s) : R s (lowerClass id cls s) := by
  unfold Machine.lowerClass; split
  · exact TaskSteps.iff_ite (h.trans (h.task ..) (h.crane ..)) (h.refl _)
  · exact h.refl _

theorem admitStow (b k p cls s) : R s (admitStow b k p cls s) := by
  unfold Machine.admitStow; split
  · exact h.lowerClass ..
  · exact h.admitTask ..

theorem redirectStep (k id t p c s) : R s (redirectStep k id t p c s) := by
  unfold Machine.redirectStep
  extract_lets s1 s2 kept s3
  have h2 : R s s2 := by
    unfold s2
    cases t.redirect with
    | none => exact h.touchClaim ..
    | some r => exact h.trans (h.touchClaim ..) (h.releasePosition ..)
  exact h.trans (h.trans h2 (h.trans (h.task ..) (h.promise ..))) (h.trans (h.setMarker ..) (h.latchK ..))

theorem placeClaim (id s) : R s (placeClaim id s) := by
  unfold Machine.placeClaim
  split
  · exact h.refl _
  · rename_i c _
    split
    · exact h.refl _
    · extract_lets atPlace redir
      clear_value redir
      refine TaskSteps.iff_ite ?_ ?_
      · cases s.stowOf c.bin with
        | none => exact h.presentClaim ..
        | some i => exact h.trans (h.removeStow ..) (h.presentClaim ..)
      · rcases redir with _ | ⟨a, b, d⟩
        · dsimp only
          cases s.spareFetch c.bin c.station with
          | some a => exact h.trans (h.trans (h.modTask ..) (h.lowerClass ..)) (h.touchClaim ..)
          | none =>
            dsimp only
            split
            · exact TaskSteps.iff_ite (h.admitFetch ..) (h.backlog ..)
            · exact h.refl _
        · exact h.redirectStep ..

theorem handOn (b k p s) : R s (handOn b k p s) := by
  unfold Machine.handOn
  split
  · split
    · exact TaskSteps.iff_ite (h.placeClaim ..) (h.admitStow ..)
    · exact h.refl _
  · exact h.admitStow ..

theorem handOnBin (b s) : R s (handOnBin b s) := by
  unfold Machine.handOnBin
  split
  · split
    · exact h.handOn ..
    · exact h.refl _
  · exact h.refl _

theorem binStored (b s) : R s (binStored b s) := by
  unfold Machine.binStored
  split
  · split
    · exact TaskSteps.iff_ite (h.placeClaim ..) (h.refl _)
    · exact h.refl _
  · exact h.refl _

theorem settleTask (id c s) : R s (settleTask id c s) := by
  unfold Machine.settleTask
  split
  · exact h.refl _
  · split
    · exact h.refl _
    · split
      · exact TaskSteps.iff_ite (h.task ..) (h.removeFetch ..)
      · split
        · exact TaskSteps.iff_ite (h.task ..) (h.refl _)
        · exact h.refl _

theorem releaseKept (k s) : R s (releaseKept k s) := by
  unfold Machine.releaseKept
  refine h.forIds (fun id s => ?_) _ _
  split
  · rename_i t _
    split
    · refine TaskSteps.iff_ite ?_ (h.refl _)
      dsimp only
      cases t.plannedLane with
      | none => exact h.task ..
      | some i => exact h.trans (h.task ..) (h.releaseSlots ..)
    · exact h.refl _
  · exact h.refl _

theorem dispatch (k l s) : R s (dispatch k l s) := by
  induction l generalizing s with
  | nil => exact h.refl _
  | cons id rest ih =>
    unfold Machine.dispatch
    split
    · have ha := h.activate id s
      split
      · rename_i s1 e
        rw [e] at ha
        extract_lets f s2
        have hb : R s s2 := h.trans ha (h.makeActive ..)
        exact TaskSteps.iff_ite (h.trans hb (h.slotFreed ..)) hb
      · rename_i s1 e
        rw [e] at ha
        exact h.trans ha (ih _)
    · exact ih _

theorem takeWork (k s) : R s (takeWork k s) :=
  TaskSteps.iff_ite (h.refl _) (TaskSteps.iff_ite (h.popStack ..) (TaskSteps.iff_ite (h.refl _) (h.dispatch ..)))

theorem deliver (k n s) : R s (deliver k n s) := by
  induction n generalizing s with
  | zero => exact h.refl _
  | succ n ih => exact TaskSteps.iff_ite (h.refl _) (h.trans (h.trans (h.setMarker ..) (h.settle ..)) (ih _))

theorem leaveBacklog (b s) : R s (leaveBacklog b s) := by
  unfold Machine.leaveBacklog; split
  · exact h.backlog ..
  · exact h.refl _

theorem giveBack (id t s) : R s (giveBack id t s) := by
  unfold Machine.giveBack
  split
  · exact h.trans (h.trans (h.releasePromise ..) (h.releaseEntries ..)) (h.releaseHold ..)
  · cases t.destLane with
    | none => exact h.refl _
    | some i => exact h.releaseSlots ..

theorem reversePush (k s) : R s (reversePush k s) := by
  unfold Machine.reversePush
  split
  · split
    · extract_lets s1 s2 s3
      have h3 : R s s3 := h.trans (h.task ..) (h.trans (h.resumeTask ..) (h.crane ..))
      exact h.trans h3 (h.trans (h.giveBack ..) (h.markDue ..))
    · exact h.refl _
  · exact h.refl _

theorem advanceTask (id t s) : R s (advanceTask id t s) := TaskSteps.iff_ite (h.task ..) (h.completeTask ..)

theorem readyIfNewlyQueued (k old s) : R s (readyIfNewlyQueued k old s) := TaskSteps.iff_ite (h.latchK ..) (h.refl _)

end TaskSteps

/-- A relation that the primitive updates of the task unit, the claim unit and the directory satisfy. -/
structure ClaimSteps (R : State → State → Prop) : Prop extends TaskSteps R where
  bin : ∀ s b r, R s (s.setBin b r)
  lane : ∀ s i f, R s (s.modLane i f)
  station : ∀ s k f, R s (s.modStation k f)

namespace ClaimSteps

variable {R : State → State → Prop} (h : ClaimSteps R)
include h

theorem modBin (s b f) : R s (s.modBin b f) := by
  unfold State.modBin; split
  · exact h.bin ..
  · exact h.refl _

theorem pickFromLane (k b i s) : R s (pickFromLane k b i s) := h.trans (h.modBin ..) (h.lane ..)

theorem pickFromStation (k b p s) : R s (pickFromStation k b p s) :=
  h.trans (h.modBin ..) (h.trans (h.station ..) (h.positionFreed ..))

theorem setInLane (b i s) : R s (setInLane b i s) := h.trans (h.modBin ..) (h.lane ..)

theorem setAtStation (k b p s) : R s (setAtStation k b p s) := h.trans (h.modBin ..) (h.station ..)

theorem createClaim (id kind urgent b st items s) : R s (createClaim id kind urgent b st items s) := by
  unfold Machine.createClaim
  extract_lets c first s1 s2
  have hb : R s s2 := h.trans (h.trans (h.claim ..) (h.latchC ..)) (h.modBin ..)
  exact TaskSteps.iff_ite (h.trans hb (h.placeClaim ..)) hb

theorem endClaim (id final s) : R s (endClaim id final s) := by
  unfold Machine.endClaim
  split
  · exact h.trans (h.trans (h.modBin ..) (h.backlog ..)) (h.touchClaim ..)
  · exact h.refl _

theorem endPresented (id final s) : R s (endPresented id final s) := by
  unfold Machine.endPresented
  split
  · exact h.trans (h.endClaim ..) (h.handOnBin ..)
  · exact h.refl _

theorem cancelWaiting (id s) : R s (cancelWaiting id s) := by
  unfold Machine.cancelWaiting
  split
  · extract_lets wasHead s1
    have hb : R s s1 := h.trans (h.endClaim ..) (h.settleTask ..)
    refine TaskSteps.iff_ite ?_ hb
    cases s1.chainHead _ with
    | none => exact hb
    | some i => exact h.trans hb (h.placeClaim ..)
  · exact h.refl _

theorem applyPick (k id t b s) : R s (applyPick k id t b s) := by
  unfold Machine.applyPick
  refine h.trans ?_ (h.leaveBacklog ..)
  split
  · exact TaskSteps.iff_ite
      (h.trans (h.trans (h.pickFromLane ..) (h.takeSlots ..)) (h.task ..))
      (h.trans (h.trans (h.trans (h.pickFromLane ..) (h.lane ..)) (h.task ..)) (h.laneSlotFreed ..))
  · exact h.trans (h.task ..) (h.pickFromStation ..)
  · exact h.refl _

theorem setDownInLane (k id t b i s) : R s (setDownInLane k id t b i s) := by
  unfold Machine.setDownInLane
  extract_lets s1 s2
  refine h.trans (h.trans (h.trans ?_ (h.laneQuieter ..)) (h.binStored ..)) (h.advanceTask ..)
  show R s s2
  have h1 : R s s1 := h.setInLane ..
  unfold s2
  split
  · rename_i r _
    dsimp only
    cases r.claim with
    | none => exact h.trans h1 (h.releasePosition ..)
    | some c => exact h.trans (h.trans h1 (h.releasePosition ..)) (h.touchClaim ..)
  · exact h1

theorem setDownAtStation (k id t b p s) : R s (setDownAtStation k id t b p s) := by
  unfold Machine.setDownAtStation
  extract_lets s1 s2
  have h1 : R s s1 := h.setAtStation ..
  have h2 : R s s2 := by
    unfold s2
    split
    · refine TaskSteps.iff_ite ?_ h1
      cases t.plannedLane with
      | none => exact h1
      | some i => exact h.trans h1 (h.releaseSlots ..)
    · exact h1
  split
  · exact h.trans h2 (h.trans (h.trans (h.presentClaim ..) (h.claimLosesTask ..)) (h.advanceTask ..))
  · exact h.trans h2 (h.trans (h.advanceTask ..) (h.handOnBin ..))

end ClaimSteps

/-! ### The take of a request -/

/-- The take of a request in flight of a kind and form carries it out and answers it (R154). -/
theorem take_of_request {s : State} {p : Port} {q : Request} {form : List Byte → Bool} (h : s.hasRequest p q)
    (hf : form q.body = true) (serve : List Byte → State → Reply) :
    take p q.kind form serve s = answer p q (serve q.body s) := by
  obtain ⟨h1, h2⟩ := h
  have : s.inFlight p q.kind form = some q := by simp [State.inFlight, h1, h2, hf]
  simp [take, this]

/-- An answer writes the slot and nothing else (R154). -/
theorem answer_eq (p : Port) (q : Request) (r : Reply) :
    answer p q r = r.state.answered p q r.status r.body := rfl

end Sys2Proof.Machine
end

