-- ==== Sys2Proof/WellFormed.lean ====
section
/-!
DEFINITION. Well-formed commands. Cranes, stations, aisles and ports are bounded by their types; the one operand with a
bound of its own is the claim ID of a dwell expiry (R25).
-/
namespace Sys2Proof

/-- A command whose operands lie in the ranges the manual gives them. -/
def Instr.wellFormed : Instr → Bool
  | .dwellExpiry id => decide (id < 128)
  | _ => true

end Sys2Proof
end

