-- ==== Sys2Proof/Laws/PerInstr.lean ====
section
/-!
SUPPORT. What well-formedness says of each command: the one operand with a bound of its own is the claim ID of a dwell expiry.
-/
namespace Sys2Proof.Laws.WellFormedness

/-- A command is well-formed unless it is a dwell expiry of a number above 127 (R25). -/
def Statement (i : Instr) : Prop :=
  i.wellFormed = false ↔ ∃ id, i = .dwellExpiry id ∧ 128 ≤ id

theorem resetAssert : Statement .resetAssert := by
  simp [Statement, Instr.wellFormed]

theorem resetRelease (pins : Pins) : Statement (.resetRelease pins) := by
  simp [Statement, Instr.wellFormed]

theorem transactionStart (p : Port) : Statement (.transactionStart p) := by
  simp [Statement, Instr.wellFormed]

theorem transactionEnd (p : Port) (bytes : List Byte) : Statement (.transactionEnd p bytes) := by
  simp [Statement, Instr.wellFormed]

theorem readNotices (p : Port) : Statement (.readNotices p) := by
  simp [Statement, Instr.wellFormed]

theorem setMask (p : Port) : Statement (.setMask p) := by
  simp [Statement, Instr.wellFormed]

theorem configure : Statement .configure := by
  simp [Statement, Instr.wellFormed]

theorem loadLane : Statement .loadLane := by
  simp [Statement, Instr.wellFormed]

theorem loadStation : Statement .loadStation := by
  simp [Statement, Instr.wellFormed]

theorem openWing : Statement .openWing := by
  simp [Statement, Instr.wellFormed]

theorem registerBin : Statement .registerBin := by
  simp [Statement, Instr.wellFormed]

theorem removeBin : Statement .removeBin := by
  simp [Statement, Instr.wellFormed]

theorem queryBin : Statement .queryBin := by
  simp [Statement, Instr.wellFormed]

theorem queryLane : Statement .queryLane := by
  simp [Statement, Instr.wellFormed]

theorem station : Statement .station := by
  simp [Statement, Instr.wellFormed]

theorem claim : Statement .claim := by
  simp [Statement, Instr.wellFormed]

theorem pick : Statement .pick := by
  simp [Statement, Instr.wellFormed]

theorem count : Statement .count := by
  simp [Statement, Instr.wellFormed]

theorem release : Statement .release := by
  simp [Statement, Instr.wellFormed]

theorem cancel : Statement .cancel := by
  simp [Statement, Instr.wellFormed]

theorem queryClaim : Statement .queryClaim := by
  simp [Statement, Instr.wellFormed]

theorem queryClaimItems : Statement .queryClaimItems := by
  simp [Statement, Instr.wellFormed]

theorem changedClaims : Statement .changedClaims := by
  simp [Statement, Instr.wellFormed]

theorem place : Statement .place := by
  simp [Statement, Instr.wellFormed]

theorem searchVisit : Statement .searchVisit := by
  simp [Statement, Instr.wellFormed]

theorem passCompletion : Statement .passCompletion := by
  simp [Statement, Instr.wellFormed]

theorem queryPlace : Statement .queryPlace := by
  simp [Statement, Instr.wellFormed]

theorem sweep : Statement .sweep := by
  simp [Statement, Instr.wellFormed]

theorem sweepVisit : Statement .sweepVisit := by
  simp [Statement, Instr.wellFormed]

theorem querySweep : Statement .querySweep := by
  simp [Statement, Instr.wellFormed]

theorem cancelSweep : Statement .cancelSweep := by
  simp [Statement, Instr.wellFormed]

theorem setLaneKeys : Statement .setLaneKeys := by
  simp [Statement, Instr.wellFormed]

theorem queryCraneTask : Statement .queryCraneTask := by
  simp [Statement, Instr.wellFormed]

theorem queryCraneChannel : Statement .queryCraneChannel := by
  simp [Statement, Instr.wellFormed]

theorem queryCraneRail : Statement .queryCraneRail := by
  simp [Statement, Instr.wellFormed]

theorem queryCraneFire : Statement .queryCraneFire := by
  simp [Statement, Instr.wellFormed]

theorem resumeAisle : Statement .resumeAisle := by
  simp [Statement, Instr.wellFormed]

theorem wingRestart : Statement .wingRestart := by
  simp [Statement, Instr.wellFormed]

theorem nextStep (k : Crane) : Statement (.nextStep k) := by
  simp [Statement, Instr.wellFormed]

theorem picked (k : Crane) : Statement (.picked k) := by
  simp [Statement, Instr.wellFormed]

theorem setDown (k : Crane) : Statement (.setDown k) := by
  simp [Statement, Instr.wellFormed]

theorem grant (k : Crane) : Statement (.grant k) := by
  simp [Statement, Instr.wellFormed]

theorem arrived (k : Crane) : Statement (.arrived k) := by
  simp [Statement, Instr.wellFormed]

theorem driveFault (k : Crane) : Statement (.driveFault k) := by
  simp [Statement, Instr.wellFormed]

theorem restart (k : Crane) : Statement (.restart k) := by
  simp [Statement, Instr.wellFormed]

theorem queryRailChannel (k : Crane) : Statement (.queryRailChannel k) := by
  simp [Statement, Instr.wellFormed]

theorem queryRailRail (k : Crane) : Statement (.queryRailRail k) := by
  simp [Statement, Instr.wellFormed]

theorem encoderTransition (k : Crane) (a b : Bool) : Statement (.encoderTransition k a b) := by
  simp [Statement, Instr.wellFormed]

theorem referenceEdge (k : Crane) (level : Bool) : Statement (.referenceEdge k level) := by
  simp [Statement, Instr.wellFormed]

theorem forkEdge (k : Crane) (level : Bool) : Statement (.forkEdge k level) := by
  simp [Statement, Instr.wellFormed]

theorem windowEnd (k : Crane) : Statement (.windowEnd k) := by
  simp [Statement, Instr.wellFormed]

theorem linkExpiry (k : Crane) : Statement (.linkExpiry k) := by
  simp [Statement, Instr.wellFormed]

theorem dwellExpiry (id : Nat) : Statement (.dwellExpiry id) := by
  simp [Statement, Instr.wellFormed]

theorem fireLineSettled (line : FireLine) (active : Bool) : Statement (.fireLineSettled line active) := by
  simp [Statement, Instr.wellFormed]

theorem shutterInputSettled (k : Crane) (input : ShutterInput) (level : Bool) : Statement (.shutterInputSettled k input level) := by
  simp [Statement, Instr.wellFormed]

theorem shutterHoldExpiry (a : Aisle) : Statement (.shutterHoldExpiry a) := by
  simp [Statement, Instr.wellFormed]

theorem shutterConfirmExpiry (a : Aisle) : Statement (.shutterConfirmExpiry a) := by
  simp [Statement, Instr.wellFormed]

end Sys2Proof.Laws.WellFormedness
end

