-- ==== Sys2Proof/Laws/RailSteps.lean ====
section
/-!
SUPPORT. What the inner edge of a stretch does where it is taken no closer to the other crane than that of another stretch
(R112, R113, R115).
-/
namespace Sys2Proof.Machine

/-- The inner edge is no closer to the other crane than that of the other stretch. -/
theorem Span.noCloserThan_innerEdge (k : Crane) (e old : Span) :
    furtherIn k (innerEdge k (e.noCloserThan k old)) (innerEdge k old) = false := by
  cases h : isWest k <;> simp [furtherIn, innerEdge, Span.noCloserThan, h]

/-- A stretch whose inner edge is no closer stays as it is. -/
theorem Span.noCloserThan_eq (k : Crane) (e old : Span) (h : furtherIn k (innerEdge k e) (innerEdge k old) = false) :
    e.noCloserThan k old = e := by
  cases hk : isWest k <;> simp [furtherIn, innerEdge, Span.noCloserThan, hk] at h ⊢ <;> simp [h]

/-- A reservation that loses rail at its inner edge keeps fitting (R112). -/
theorem fits_noCloserThan (s : State) (k : Crane) (e old : Span) (h : s.fits k old = true) :
    s.fits k (e.noCloserThan k old) = true := by
  cases hk : isWest k <;> simp [State.fits, Span.noCloserThan, hk] at h ⊢ <;> omega

/-- The trim of ARRIVED clears the granted travel and keeps the inner edge from the other crane; it changes no other rail
record (R115). -/
theorem trimReservation_rail (k j : Crane) (s : State) : (trimReservation k s).rail j =
    if j = k then { s.rail k with
      granted := none,
      reservation := match (s.rail k).reservation with
        | .calibrated sp => .calibrated ((s.stationaryEnvelope k).noCloserThan k sp)
        | f => f }
    else s.rail j := by
  unfold trimReservation
  rw [State.rail_modRail]
  by_cases h : j = k
  · subst h; cases h : (s.rail j).reservation <;> simp [h]
  · simp [h, Ne.symm h]

end Sys2Proof.Machine
end

