-- ==== Sys2Proof/Tests/Slice0.lean ====
section
/-!
SUPPORT. Tests: the smoke test of well-formedness, the states that meet the premises of every statement, clause by clause, and
single steps whose expected results are the manual's.
-/
namespace Sys2Proof.Tests
open Sys2Proof.Machine

-- Each theorem here is a kernel evaluation: elaborated one after another, they hold one thread.
set_option Elab.async false

/-! ### Small states -/

/-- A state with a request in flight at a port. -/
def req (p : Port) (k : Kind) (body : List Byte) (s : State) : State :=
  s.modPort p (fun b => { b with slot := .inFlight ⟨k, 7, body⟩ })
/-- The request that `req` puts in flight. -/
def rq (k : Kind) (body : List Byte) : Request := ⟨k, 7, body⟩
/-- The reset state with the wing OPEN. -/
def opn : State := { State.reset with wing := .opened }
/-- A present bin with key 0 and fill 50. -/
def bin (pl : BinPlace) (chain : List Nat := []) : Bin := ⟨pl, 0, 50, 0, true, false, false, chain⟩
/-- A claim of the bin `b` at station `k` with one pending item of 5 units, or none for an AUDIT. -/
def clm (kind : ClaimKind) (st : ClaimState) (b : Nat) (k : Crane) : Claim :=
  ⟨kind, false, (match kind with | .lend => 3 | .ret => 4 | .audit => 5), b, k, st, 0, none, 0,
   (match kind with | .audit => [] | _ => [⟨77, 5, .pending⟩]), false, none⟩
/-- A task with nothing planned. -/
def tk (k : Crane) (kind : TaskKind) (cls : Nat) (b : Option Nat) (st : TaskState := .queued) : Task :=
  ⟨k, kind, cls, 3, b, none, none, none, [], 0, 0, none, st, none,
    (match kind with | .park => .travel | .home => .travel | _ => .pick), none⟩
/-- A 64-byte frame. -/
def frame (l : List Byte) : List Byte := l ++ List.replicate (64 - l.length) 0
/-- The bin `b` standing at a station. -/
def put (s : State) (k : Crane) (p : Pos) (b : Nat) (chain : List Nat := []) : State :=
  (s.modStation k (fun st => { st with bins := st.bins.set p (some b) })).setBin b (bin (.atStation k p) chain)
/-- The bin `b` at the back of a lane. -/
def store (s : State) (i b : Nat) (chain : List Nat := []) : State :=
  (s.modLane i (fun l => { l with contents := l.contents ++ [b] })).setBin b (bin (.stored i) chain)
/-- A queued task. -/
def withQ (s : State) (k : Crane) (id : Nat) (t : Task) : State :=
  { s with tasks := s.tasks.insert id t, cranes := s.cranes.set k { s.crane k with queue := (s.crane k).queue ++ [id] } }
/-- An active task. -/
def withA (s : State) (k : Crane) (id : Nat) (t : Task) : State :=
  { s with tasks := s.tasks.insert id t, cranes := s.cranes.set k { s.crane k with active := some id } }
/-- A crane in a rail state. -/
def rdy (s : State) (k : Crane) (st : CraneState := .ready) : State := s.modRail k (fun r => { r with state := st })
/-- A calibrated crane at `mm` with a stationary reservation. -/
def cal (s : State) (k : Crane) (mm : Int) : State :=
  (s.modChannel k (fun c => { c with state := .calibrated, counter := BitVec.ofInt 32 (mm * 20) })).modRail k (fun r =>
    { r with reservation := .calibrated ⟨mm - 1200, mm + 1200⟩ })
/-- Cranes 0 and 1 READY and calibrated. -/
def two (x y : Int) : State := cal (cal (rdy (rdy opn 0) 1) 0 x) 1 y
/-- A crane with a pending grant. -/
def pend (k : Crane) (t : Travel) (since : Nat) (s : State) : State :=
  s.modRail k (fun r => { r with pending := some t, pendingSince := since })
/-- A crane whose reservation reaches further than it stands. -/
def wide (k : Crane) (west east : Int) (s : State) : State :=
  s.modRail k (fun r => { r with reservation := .calibrated ⟨west, east⟩ })
/-- A rail of 2 m in LOADING with the parks or the planes of its aisle in its middle. -/
def crowded (plane park : Int) : State :=
  { State.reset with params := { State.reset.params with
      railLength := #v[2000, 64000], planePos := #v[plane, plane, 4000, 60000], parkPos := #v[park, park, 6000, 58000] } }
/-- Both captures of a crane valid at `mm`. -/
def cap (s : State) (k : Crane) (mm : Int) : State :=
  s.modChannel k (fun c => { c with pick := ⟨mm, true⟩, setDown := ⟨mm, true⟩ })
/-- Aisle 0 in a fire state with its hold timer running. -/
def fired (f : FireState) (s : State) : State := { s with fires := s.fires.set 0 ⟨f, ⟨true, 500⟩, ⟨false, 0⟩⟩ }
/-- The shutters of aisle 0 with a plane-clear flag and a hold-open line each, both open. -/
def planes (p0 h0 p1 h1 : Bool) (s : State) : State :=
  { s with shutters := (s.shutters.set 0 ⟨p0, h0, false, true, false⟩).set 1 ⟨p1, h1, false, true, false⟩ }
/-- Every shutter closed. -/
def shut (s : State) : State :=
  { s with shutters := s.shutters.map (fun x => { x with openIn := false, closedIn := true }) }
/-- A crane whose window ends after a count difference. -/
def winEnd (dc : Int) (s : State) : State :=
  s.modChannel 1 (fun c => { c with windowLeft := 0, prev := c.counter - BitVec.ofInt 32 dc })
/-- A crane moving home with its channel in a state. -/
def homing (k : Crane) (st : ChannelState) (s : State) : State :=
  s.modChannel k (fun c => { c with state := st, direction := if isWest k then .west else .east, speed := 500 })
/-- A port with a transaction in progress. -/
def inTx (p : Port) (held : Bool := true) (s : State := opn) : State :=
  s.modPort p (fun b => { b with transaction := some ⟨⟨.notReady, 0, 0, []⟩, held⟩ })
/-- The transaction of `inTx`. -/
def tx (held : Bool := true) : Transaction := ⟨⟨.notReady, 0, 0, []⟩, held⟩
/-- A search for 10 units of key 0 at station 1. -/
def searching (cursor : Nat) (best : Option (Nat × Nat)) (s : State) (pass : Nat := 1) : State :=
  { s with search := ⟨.running, some ⟨1, 10, 0, 5⟩, pass, cursor, best, ⟨1, 4, 40⟩, none⟩ }
/-- The request of `searching`. -/
def pr : PlaceRequest := ⟨1, 10, 0, 5⟩
/-- A sweep of the bins 2 to `last`, with `n` entries waiting. -/
def swept (st : SweepState) (last cursor n : Nat) (s : State) : State :=
  { s with sweep := ⟨st, 2, last, cursor, 5, n, (List.range n).map (fun i => ⟨i, true, true, false, 7⟩)⟩ }
/-- A CONFIGURE body of one entry. -/
def cfg (id k : Nat) (v : Int) : List Byte := put16 id ++ put8 k ++ putInt v
/-- A GRANT body. -/
def gb (x : Int) (v : Nat) : List Byte := putInt x ++ put16 v
/-- A CLAIM body with one item of 5 units, or none. -/
def cb (kind urgent b st : Nat) (n : Nat := 1) : List Byte :=
  put8 kind ++ put8 urgent ++ put16 b ++ put8 st ++ put8 n ++ (if n = 0 then [] else put32 77 ++ put8 5)

/-- A wing of one bay and one level, which has the lanes 0 to 3. -/
def tiny (s : State) : State := { s with params := { s.params with bays := 1, levels := 1, reserve := 4 } }
/-- A crane with a stack and an undelivered marker. -/
def stacked (k : Crane) (l : List Nat) (u : Undelivered) (s : State) : State :=
  s.modCrane k (fun c => { c with stack := l, undelivered := u })

/-- The claim that waits for the FETCH of entry 5. -/
def cF (st : ClaimState := .queued) : Claim := { clm .lend st 9 1 with task := some 5 }
/-- A STOW of bin 9 from station 2 to lane 800. -/
def tA (step : TaskStep := .pick) (y : Option Int := none) : Task :=
  { tk 2 .stow 4 (some 9) .active with source := some (.station 1), dest := some (.lane 800), step := step, yield := y }
/-- A STOW of bin 9 that sets it down for crane 1. -/
def tC : Task := { tk 1 .stow 4 (some 9) .active with step := .set, dest := some (.lane 800) }
/-- A STOW of bin 9 whose set step is redirected to claim 4, with its slot kept or given up. -/
def tB (kept : Bool) (cls : Nat := 4) : Task := { tA .set with cls := cls, redirect := some ⟨some 4, 0, kept⟩ }
/-- That claim. -/
def cB : Claim := { clm .lend .fetching 9 2 with task := some 5 }
/-- The suspended STOW of bin 9 at its set. -/
def tO : Task := { tA .set with state := .suspended }
/-- A suspended RELOCATE of bin 9 from lane 20. -/
def oR : Task := { tk 1 .relocate 5 (some 9) .suspended with source := some (.lane 20) }
/-- Adds a task to the table alone. -/
def also (id : Nat) (t : Task) (s : State) : State := { s with tasks := s.tasks.insert id t }

/-- A queued FETCH of bin 9 for claim 4. -/
def tF : Task := { tk 1 .fetch 3 (some 9) with claim := some 4 }
/-- An active FETCH of bin 9 from lane 20 to station 1. -/
def tP (step : TaskStep := .pick) (hold : Nat := 2) (dig : List (Nat × Nat) := []) : Task :=
  { tk 1 .fetch 3 (some 9) .active with
    claim := some 4, source := some (.lane 20), dest := some (.station 0), hold := hold, step := step, dig := dig,
    digLeft := dig.length }
/-- A suspended FETCH of bin 77 that digs out bin 9 from lane 20. -/
def oD : Task := { tk 1 .fetch 5 (some 77) .suspended with
  source := some (.lane 20), dest := some (.station 0), dig := [(9, 21)], digLeft := 1, hold := 1, step := .relocPick }
/-- An active STOW of bin 8. -/
def nS : Task := { tk 1 .stow 4 (some 8) .active with source := some (.station 1), dest := some (.lane 30) }
/-- The suspended STOW of bin 9 at its pick. -/
def oT : Task := { tA with state := .suspended }
/-- An active FETCH of crane 2 for bin 8 from lane 30. -/
def tG : Task := { tk 2 .fetch 3 (some 8) .active with
  claim := some 4, source := some (.lane 30), dest := some (.station 0), hold := 2 }
/-- An active PARK or HOME of a crane. -/
def tR (k : Crane) (kind : TaskKind) (mm : Int) : Task := { tk k kind 1 none .active with dest := some (.rail mm) }
/-- A crane whose queue holds seven FETCH tasks. -/
def fullQ (s : State) : State :=
  { s with
    tasks := ⟨(List.range 7).map (fun i => (i, tk 1 .fetch 3 (some (100 + i))))⟩,
    cranes := s.cranes.set 1 { CraneTasks.reset with queue := List.range 7 } }
/-- The bin 9 presented at station 2 with a claim of a kind. -/
def pres (kind : ClaimKind) (f : Nat) : State :=
  ((put opn 2 1 9 [3]).setBin 9 { bin (.atStation 2 1) [3] with fill := f, reserved := 5 }).setClaim 3
    (clm kind .presented 9 2)
/-- The record of that bin. -/
def pbin (f : Nat) : Bin := { bin (.atStation 2 1) [3] with fill := f, reserved := 5 }
/-- Encoder settings of crane 1 with its two lines at levels. -/
def encSet (mode : Nat) (inv a b : Bool) (s : State) : State :=
  { s with params := { s.params with
      edgeMode := s.params.edgeMode.set 1 mode, inverted := s.params.inverted.set 1 inv } }.modChannel 1 (fun c =>
    { c with phaseA := a, phaseB := b })
/-- An aisle 0 with given timers. -/
def timed (f : FireState) (h c : Timer) (s : State) : State := { s with fires := s.fires.set 0 ⟨f, h, c⟩ }

theorem all_some_of_none {α : Type} {o : Option α} {P : α → Prop} (h : o = none) : ∀ x, o = some x → P x :=
  fun x hx => nomatch h.symm.trans hx
theorem all_some_of_some {α : Type} {o : Option α} {P : α → Prop} {y : α} (h : o = some y) (hp : P y) :
    ∀ x, o = some x → P x :=
  fun _ hx => Option.some.inj (h.symm.trans hx) ▸ hp
theorem one_lane (i : Nat) : ((store opn 3 8).lane i).contents = if i = 3 then [8] else [] := by
  show ((lookupEntry i [(3, (⟨0, 3, [8], 0⟩ : Lane))]).getD ⟨0, 3, [], 0⟩).contents = _
  by_cases h : i = 3 <;> simp [lookupEntry, h]
theorem one_lane_inj (i j b : Nat) (hi : b ∈ ((store opn 3 8).lane i).contents)
    (hj : b ∈ ((store opn 3 8).lane j).contents) : i = j := by
  rw [one_lane] at hi hj
  split at hi <;> split at hj <;> simp_all
theorem one_lane_nodup (i : Nat) : ((store opn 3 8).lane i).contents.Nodup := by
  rw [one_lane]
  split <;> decide
theorem no_redirect {s : State} {id : Nat} {t : Task} {l : List Nat} (hl : l = []) (h : s.task? id = some t)
    (ht : t.redirect = none) : ∀ j ∈ id :: l, ∀ u, s.task? j = some u → u.redirect = none := by
  subst hl
  intro j hj u hu
  rw [List.mem_singleton.mp hj, h] at hu
  exact Option.some.inj hu ▸ ht
theorem far_tPark (x : Int) (h : 99 < x) : ¬ x + 1900 < (((6000 : Int) - 4000).natAbs : Int) := by omega
theorem far_half (x : Int) (h : 1949 < x) : ¬ x + 50 < (((6000 : Int) - 4000).natAbs : Int) := by omega
theorem far_pair_tPark (x : Int) (h : 399 < x) : ¬ x + 1600 < (((6000 : Int) - 4000).natAbs : Int) := by omega
theorem far_pair_half (x : Int) (h : 1989 < x) : ¬ 10 + x < (((6000 : Int) - 4000).natAbs : Int) := by omega
theorem nearest_self (x : Int) : ((6000 : Int) - 6000).natAbs < (x - 6000).natAbs
    ∨ ((6000 : Int) - 6000).natAbs = (x - 6000).natAbs ∧ 6000 ≤ x := by omega
theorem nearest_6000 (x : Int) (h : (1200 : Int) + 50 < ((x - 6000).natAbs : Int)) :
    ((4749 : Int) - 6000).natAbs < (x - 6000).natAbs ∨ ((4749 : Int) - 6000).natAbs = (x - 6000).natAbs ∧ 4749 ≤ x := by omega
theorem nearest_4000 (x : Int) (h : (1200 : Int) + 50 < ((x - 4000).natAbs : Int)) :
    ((2749 : Int) - 4000).natAbs < (x - 4000).natAbs ∨ ((2749 : Int) - 4000).natAbs = (x - 4000).natAbs ∧ 2749 ≤ x := by omega
theorem none_clear (x : Int) (h0 : 0 ≤ x) (h1 : x ≤ 2000) : ¬ (1200 : Int) + 50 < ((x - 1000).natAbs : Int) := by omega
theorem smallest_gap (g : Int) (h : ∃ (a : Aisle) (west east : Span),
    ((two 5000 9000).rail (westCrane a)).reservation = .calibrated west
      ∧ ((two 5000 9000).rail (eastCrane a)).reservation = .calibrated east ∧ g = east.west - west.east) : 1600 ≤ g := by
  obtain ⟨a, x, y, hx, hy, rfl⟩ := h
  fin_cases a
  · obtain rfl := Reservation.calibrated.inj hx
    obtain rfl := Reservation.calibrated.inj hy
    decide +kernel
  · exact nomatch hx
theorem below_four {P Q : Nat → Prop} {n : Nat} (hn : n = 4) (hP : ∀ j, P j → j < n) (h : ∀ j : Fin 4, P j → Q j) :
    ∀ j, P j → Q j :=
  fun j hj => h ⟨j, hn ▸ hP j hj⟩ hj
theorem none_in {α : Type} {P : α → Prop} : ∀ x ∈ ([] : List α), P x := fun _ h => (List.not_mem_nil h).elim
/-- The reset state with the wing OPEN and a command waiting. -/
def waiting : State := { opn with pending := [.resetAssert] }
theorem waiting_workLaws : waiting.workLaws :=
  ⟨by unfold State.tablesWf; decide +kernel, by unfold State.stackLaw State.craneLaw State.holds; decide +kernel,
    ⟨fun _ => ⟨Nat.zero_le 3, rfl⟩, by decide +kernel, by decide +kernel⟩,
    ⟨fun _ => ⟨List.nodup_nil, fun _ => ⟨fun h => (List.not_mem_nil h).elim, fun ⟨_, h, _⟩ => nomatch h⟩⟩, by decide +kernel⟩,
    ⟨none_in, none_in⟩, ⟨none_in, List.nodup_nil, none_in⟩, ⟨none_in, none_in, none_in, none_in, none_in⟩, none_in⟩
/-- Two calibrated cranes and a command waiting. -/
def twoWaiting : State := { two 5000 50000 with pending := [.resetAssert] }
theorem two_separated : twoWaiting.separationLaw := by
  intro a west east hw he
  fin_cases a
  · obtain rfl := Reservation.calibrated.inj hw
    obtain rfl := Reservation.calibrated.inj he
    decide +kernel
  · exact nomatch hw
/-- A crane with a HOME over four suspended tasks, with its room refusal flag at a level. -/
def fourDeep (refused : Bool) : State :=
  { rdy opn 1 .unhomed with
    tasks := ⟨(5, tk 1 .home 1 none .active) :: (List.range 4).map (fun i => (6 + i, tk 1 .fetch (2 + i) (some i) .suspended))⟩,
    cranes := opn.cranes.set 1 { CraneTasks.reset with
      active := some 5, stack := [6, 7, 8, 9], undelivered := .parkPush, roomRefusal := refused } }
/-- The FETCH of bin 9 for the AUDIT claim 4, suspended at its pick. -/
def rO : Task := { tk 1 .fetch 5 (some 9) .suspended with
  claim := some 4, source := some (.lane 20), dest := some (.station 0), hold := 2 }
/-- The FETCH of bin 8 for the LEND claim 7 that has preempted it. -/
def rT : Task := { tk 1 .fetch 3 (some 8) .active with
  claim := some 7, source := some (.lane 30), dest := some (.station 1), hold := 2 }
/-- The state in which crane 1 may still report the pick of `rO`. -/
def reversal : State :=
  cap { opn with
    lanes := ⟨[(20, ⟨0, 3, [9], 2⟩), (30, ⟨0, 3, [8], 2⟩)]⟩,
    bins := ⟨[(8, bin (.stored 30) [7]), (9, bin (.stored 20) [4])]⟩,
    claims := ⟨[(4, { clm .audit .fetching 9 1 with task := some 6 }), (7, { clm .lend .fetching 8 1 with task := some 5 })]⟩,
    tasks := ⟨[(5, rT), (6, rO)]⟩,
    stations := opn.stations.set 1 { opn.station 1 with promises := #v[some 6, some 5] },
    cranes := opn.cranes.set 1 { CraneTasks.reset with active := some 5, stack := [6], undelivered := .push } } 1 5400
theorem reversal_lane (i : Nat) : reversal.lane i =
    if i = 20 then ⟨0, 3, [9], 2⟩ else if i = 30 then ⟨0, 3, [8], 2⟩ else ⟨0, 3, [], 0⟩ := by
  show (lookupEntry i [(20, (⟨0, 3, [9], 2⟩ : Lane)), (30, ⟨0, 3, [8], 2⟩)]).getD ⟨0, 3, [], 0⟩ = _
  by_cases h : i = 20 <;> by_cases h' : i = 30 <;> simp [lookupEntry, h, h']
theorem reversal_bin (b : Nat) : reversal.bin? b =
    if b = 8 then some (bin (.stored 30) [7]) else if b = 9 then some (bin (.stored 20) [4]) else none := by
  show lookupEntry b [(8, bin (.stored 30) [7]), (9, bin (.stored 20) [4])] = _
  by_cases h : b = 8 <;> by_cases h' : b = 9 <;> simp [lookupEntry, h, h']
theorem reversal_laneLaw : reversal.laneLaw := by
  refine ⟨fun i => ?_, by decide +kernel, by decide +kernel⟩
  rw [reversal_lane]
  show _ ∧ _ = ([(5, rT), (6, rO)].map (fun e => e.2.slotsIn i)).sum
  by_cases h : i = 20
  · subst h; decide +kernel
  · by_cases h' : i = 30
    · subst h'; decide +kernel
    · simp [h, h', rT, rO, tk, Task.slotsIn, Task.atWork, Task.slotGivenUp, Task.unfinished, Task.sourceLane, Ne.symm h, Ne.symm h']
theorem reversal_placeLaw : reversal.placeLaw := by
  refine ⟨fun i => ⟨?_, fun b => ?_⟩, by decide +kernel⟩
  · rw [reversal_lane]
    split
    · decide
    · split <;> decide
  · rw [reversal_lane, reversal_bin]
    by_cases h : i = 20 <;> by_cases h' : i = 30 <;> by_cases hb : b = 8 <;> by_cases hb' : b = 9 <;>
      simp_all [bin, eq_comm]
theorem reversal_workLaws : (req (.k 1) .picked [9, 0] reversal).workLaws :=
  ⟨by unfold State.tablesWf; decide +kernel, by unfold State.stackLaw State.craneLaw State.holds; decide +kernel,
    reversal_laneLaw, reversal_placeLaw, by unfold State.unitsLaw State.binLaw; decide +kernel,
    ⟨by unfold State.serves; decide +kernel, by decide +kernel, none_in⟩,
    ⟨by decide +kernel, by decide +kernel, by decide +kernel, by decide +kernel, fun e he => by
      obtain rfl | rfl : e = (5, rT) ∨ e = (6, rO) := by simpa using (show e ∈ [(5, rT), (6, rO)] from he)
      · exact ⟨fun p h => Source.noConfusion (Option.some.inj h), fun h => TaskKind.noConfusion h⟩
      · exact ⟨fun p h => Source.noConfusion (Option.some.inj h), fun h => TaskKind.noConfusion h⟩⟩,
    by unfold State.stationLaw; decide +kernel⟩
/-- The STOW of bin 3, kept out of its aisle. -/
def rS : Task := { tk 0 .stow 4 (some 3) .blocked with source := some (.station 0), block := some .aisleClosed }
/-- Aisle 0 in REOPENING with shutter 0 open: both cranes have an active PARK, crane 1 over the FETCH
`rO`, crane 0 with a STOW in its queue, and claim 7 is HELD at station 0. -/
def returning : State :=
  fired .reopening ({ opn with
    lanes := ⟨[(20, ⟨0, 3, [9], 2⟩)]⟩,
    bins := ⟨[(3, bin (.atStation 0 0)), (8, bin (.atStation 0 1) [7]), (9, bin (.stored 20) [4])]⟩,
    claims := ⟨[(4, { clm .audit .fetching 9 1 with task := some 6 }), (7, clm .lend .held 8 0)]⟩,
    tasks := ⟨[(5, tk 1 .park 0 none .active), (6, rO), (10, tk 0 .park 0 none .active), (11, rS)]⟩,
    stations := (opn.stations.set 1 { opn.station 1 with promises := #v[some 6, none] }).set 0
      { opn.station 0 with bins := #v[some 3, some 8] },
    cranes := (opn.cranes.set 1 { CraneTasks.reset with active := some 5, stack := [6] }).set 0
      { CraneTasks.reset with active := some 10, queue := [11] } }.modShutter 0 (fun x => { x with openIn := true }))
theorem returning_lane (i : Nat) : returning.lane i = if i = 20 then ⟨0, 3, [9], 2⟩ else ⟨0, 3, [], 0⟩ := by
  show (lookupEntry i [(20, (⟨0, 3, [9], 2⟩ : Lane))]).getD ⟨0, 3, [], 0⟩ = _
  by_cases h : i = 20 <;> simp [lookupEntry, h]
theorem returning_bin (b : Nat) : returning.bin? b =
    if b = 3 then some (bin (.atStation 0 0)) else if b = 8 then some (bin (.atStation 0 1) [7])
    else if b = 9 then some (bin (.stored 20) [4]) else none := by
  show lookupEntry b [(3, bin (.atStation 0 0)), (8, bin (.atStation 0 1) [7]), (9, bin (.stored 20) [4])] = _
  by_cases h : b = 3 <;> by_cases h' : b = 8 <;> by_cases h'' : b = 9 <;> simp [lookupEntry, h, h', h'']
theorem returning_laneLaw : returning.laneLaw := by
  refine ⟨fun i => ?_, by decide +kernel, by decide +kernel⟩
  rw [returning_lane]
  show _ ∧ _ = ([(5, tk 1 .park 0 none .active), (6, rO), (10, tk 0 .park 0 none .active), (11, rS)].map (fun e => e.2.slotsIn i)).sum
  by_cases h : i = 20
  · subst h; decide +kernel
  · simp [h, rS, rO, tk, Task.slotsIn, Task.atWork, Task.slotGivenUp, Task.unfinished, Task.sourceLane, Ne.symm h]
theorem returning_placeLaw : returning.placeLaw := by
  refine ⟨fun i => ⟨?_, fun b => ?_⟩, by decide +kernel⟩
  · rw [returning_lane]
    split <;> decide
  · rw [returning_lane, returning_bin]
    by_cases h : i = 20 <;> by_cases hb : b = 3 <;> by_cases hb' : b = 8 <;> by_cases hb'' : b = 9 <;>
      simp_all [bin, eq_comm]
theorem returning_workLaws : returning.workLaws :=
  ⟨by unfold State.tablesWf; decide +kernel, by unfold State.stackLaw State.craneLaw State.holds; decide +kernel,
    returning_laneLaw, returning_placeLaw, by unfold State.unitsLaw State.binLaw; decide +kernel,
    ⟨by unfold State.serves; decide +kernel, by decide +kernel, none_in⟩,
    ⟨by decide +kernel, by decide +kernel, by decide +kernel, by decide +kernel, fun e he => by
      obtain rfl | rfl | rfl | rfl : e = (5, tk 1 .park 0 none .active) ∨ e = (6, rO) ∨ e = (10, tk 0 .park 0 none .active)
        ∨ e = (11, rS) := by
        simpa using (show e ∈ [(5, tk 1 .park 0 none .active), (6, rO), (10, tk 0 .park 0 none .active), (11, rS)] from he)
      · exact ⟨fun p h => (Option.some_ne_none _ h.symm).elim, fun h => TaskKind.noConfusion h⟩
      · exact ⟨fun p h => Source.noConfusion (Option.some.inj h), fun h => TaskKind.noConfusion h⟩
      · exact ⟨fun p h => (Option.some_ne_none _ h.symm).elim, fun h => TaskKind.noConfusion h⟩
      · decide +kernel⟩,
    by unfold State.stationLaw; decide +kernel⟩

/-! ### Premises that can be met: one theorem for each group of a statement -/

theorem witness_StepRunsTheFrontCommand :
    (∃ s : State, s.pending = []) :=
  ⟨State.reset, by decide +kernel⟩

theorem witness_ResetReleaseGivesResetValues :
    (∃ (pins : Pins) (s : State), pins.fire0 = false ∧ pins.fire1 = false ∧ pins.fireW = false) :=
  ⟨Pins.idle, opn, by decide +kernel⟩

theorem witness_ResetReleaseGivesResetValues_ResetReleaseInAlarmParks :
    (∃ (pins : Pins) (s : State) (a : Aisle), (State.afterReset pins).alarm a = true) :=
  ⟨{ Pins.idle with fireW := true }, opn, 1, by decide +kernel⟩

theorem witness_AMillisecondCountsTheTimers :
    (∃ s : State, s.pending = [] ∧ s.inReset = false ∧ s.claims.wf = true) :=
  ⟨opn, by decide +kernel⟩

theorem witness_TransactionsThatTakeNoRequest_TransactionStartChoosesTheFrame :
    (∃ (p : Port) (s : State), ∃ r, s.inReset = false ∧ (s.port p).transaction = none ∧ (s.port p).slot = .holding r) ∧
    (∃ (p : Port) (s : State), ∃ q, s.inReset = false ∧ (s.port p).transaction = none ∧ (s.port p).slot = .inFlight q) :=
  ⟨⟨.k 1, opn, ⟨.notReady, 0, 0, []⟩, by decide +kernel⟩,
   ⟨.c, req .c .place [] opn, rq .place [], by decide +kernel⟩⟩

theorem witness_TransactionsThatTakeNoRequest_TransactionEndTakesNoFrame :
    (∃ (p : Port) (bytes : List Byte) (s : State) (tr : Transaction), s.inReset = false ∧ (s.port p).transaction =
      some tr ∧ (bytes.length ≠ 64 ∨ tr.wasHolding = false)) ∧
    (∃ (p : Port) (bytes : List Byte) (s : State) (tr : Transaction), s.inReset = false ∧ (s.port p).transaction =
      some tr ∧ (bytes.length ≠ 64 ∨ tr.wasHolding = false)) :=
  ⟨⟨.c, [1, 2, 3], inTx .c, tx, by decide +kernel⟩,
   ⟨.c, frame [48, 9, 2], inTx .c false, tx false, by decide +kernel⟩⟩

theorem witness_TransactionsThatTakeNoRequest_TransactionEndRefusesBadFrames :
    (∃ (p : Port) (bytes : List Byte) (s : State) (tr : Transaction), s.inReset = false ∧ (s.port p).transaction =
      some tr ∧ bytes.length = 64 ∧ tr.wasHolding = true ∧ 60 < byteAt bytes 2) ∧
    (∃ (p : Port) (bytes : List Byte) (s : State) (tr : Transaction), (∀ kind : Kind, kind.code ≠ byteAt bytes 0) ∧
      s.inReset = false ∧ (s.port p).transaction = some tr ∧ bytes.length = 64 ∧ tr.wasHolding = true ∧ byteAt bytes 2
      ≤ 60) ∧
    (∃ (p : Port) (bytes : List Byte) (s : State) (tr : Transaction), ∃ kind : Kind, s.inReset = false ∧
      (s.port p).transaction = some tr ∧ bytes.length = 64 ∧ tr.wasHolding = true ∧ byteAt bytes 2 ≤ 60 ∧ kind.code =
      byteAt bytes 0 ∧ kind.permitted p = false) ∧
    (∃ (p : Port) (bytes : List Byte) (s : State) (tr : Transaction), ∃ kind : Kind, s.inReset = false ∧
      (s.port p).transaction = some tr ∧ bytes.length = 64 ∧ tr.wasHolding = true ∧ byteAt bytes 2 ≤ 60 ∧ kind.code =
      byteAt bytes 0 ∧ kind.permitted p = true ∧ kind.lengthOk ((bytes.drop 3).take (byteAt bytes 2)) = false) :=
  ⟨⟨.c, frame [48, 9, 61], inTx .c, tx, by decide +kernel⟩,
   ⟨.c, frame [200, 9, 60], inTx .c, tx, by intro kind; cases kind <;> decide +kernel, by decide +kernel⟩,
   ⟨.c, frame [80, 9, 0], inTx .c, tx, .nextStep, by decide +kernel⟩,
   ⟨.c, frame [48, 9, 3], inTx .c, tx, .queryBin, by decide +kernel⟩⟩

theorem witness_AValidFrameIsTaken_TransactionEndTakesAValidFrame :
    (∃ (p : Port) (bytes : List Byte) (s : State) (tr : Transaction) (kind : Kind), s.inReset = false ∧
      (s.port p).transaction = some tr ∧ bytes.length = 64 ∧ tr.wasHolding = true ∧ byteAt bytes 2 ≤ 60 ∧ kind.code =
      byteAt bytes 0 ∧ kind.permitted p = true ∧ kind.lengthOk ((bytes.drop 3).take (byteAt bytes 2)) = true ∧ (∀ k, p
      = .k k → (s.rail k).state ≠ .silent ∨ kind = Kind.restart) ∧ (∀ row ∈ (([(.loadLane, .loadLane),
      (.loadStation, .loadStation), (.openWing, .openWing), (.registerBin, .registerBin), (.removeBin, .removeBin),
      (.queryBin, .queryBin), (.queryLane, .queryLane)] : List (Kind × Instr))), kind ≠ row.1)) ∧
    (∃ (p : Port) (bytes : List Byte) (s : State) (tr : Transaction) (kind : Kind), s.inReset = false ∧
      (s.port p).transaction = some tr ∧ bytes.length = 64 ∧ tr.wasHolding = true ∧ byteAt bytes 2 ≤ 60 ∧ kind.code =
      byteAt bytes 0 ∧ kind.permitted p = true ∧ kind.lengthOk ((bytes.drop 3).take (byteAt bytes 2)) = true ∧ (∀ k, p
      = .k k → (s.rail k).state ≠ .silent ∨ kind = Kind.restart) ∧ kind = .queryBin) ∧
    (∃ (p : Port) (bytes : List Byte) (s : State) (tr : Transaction) (kind : Kind), s.inReset = false ∧
      (s.port p).transaction = some tr ∧ bytes.length = 64 ∧ tr.wasHolding = true ∧ byteAt bytes 2 ≤ 60 ∧ kind.code =
      byteAt bytes 0 ∧ kind.permitted p = true ∧ kind.lengthOk ((bytes.drop 3).take (byteAt bytes 2)) = true ∧ (∀ k, p
      = .k k → (s.rail k).state ≠ .silent ∨ kind = Kind.restart) ∧ kind = .openWing) ∧
    (∃ (p : Port) (bytes : List Byte) (s : State) (tr : Transaction) (kind : Kind), s.inReset = false ∧
      (s.port p).transaction = some tr ∧ bytes.length = 64 ∧ tr.wasHolding = true ∧ byteAt bytes 2 ≤ 60 ∧ kind.code =
      byteAt bytes 0 ∧ kind.permitted p = true ∧ kind.lengthOk ((bytes.drop 3).take (byteAt bytes 2)) = true ∧ (∀ k, p
      = .k k → (s.rail k).state ≠ .silent ∨ kind = Kind.restart) ∧ (∀ row ∈ (([(.loadLane, .loadLane),
      (.loadStation, .loadStation), (.openWing, .openWing), (.registerBin, .registerBin), (.removeBin, .removeBin),
      (.queryBin, .queryBin), (.queryLane, .queryLane)] : List (Kind × Instr))), kind ≠ row.1)) ∧
    (∃ (p : Port) (bytes : List Byte) (s : State) (tr : Transaction) (kind : Kind), s.inReset = false ∧
      (s.port p).transaction = some tr ∧ bytes.length = 64 ∧ tr.wasHolding = true ∧ byteAt bytes 2 ≤ 60 ∧ kind.code =
      byteAt bytes 0 ∧ kind.permitted p = true ∧ kind.lengthOk ((bytes.drop 3).take (byteAt bytes 2)) = true ∧ (∀ k, p
      = .k k → (s.rail k).state ≠ .silent ∨ kind = Kind.restart) ∧ (∀ row ∈ (([(.loadLane, .loadLane),
      (.loadStation, .loadStation), (.openWing, .openWing), (.registerBin, .registerBin), (.removeBin, .removeBin),
      (.queryBin, .queryBin), (.queryLane, .queryLane)] : List (Kind × Instr))), kind ≠ row.1)) :=
  ⟨⟨.c, frame [52, 9, 2], inTx .c, tx, .queryCrane, by decide +kernel⟩,
   ⟨.c, frame [48, 9, 2], inTx .c, tx, .queryBin, by decide +kernel⟩,
   ⟨.c, frame [19, 9, 0], inTx .c true State.reset, tx, .openWing, by decide +kernel⟩,
   ⟨.k 1, frame [0, 9, 0], inTx (.k 1), tx, .null, by decide +kernel⟩,
   ⟨.k 1, frame [86, 9, 0], inTx (.k 1) true (rdy opn 1 .silent), tx, .restart, by decide +kernel⟩⟩

theorem witness_AValidFrameIsTaken_AValidFrameEndsSilence :
    (∃ (k : Crane) (bytes : List Byte) (s : State) (tr : Transaction) (kind : Kind), s.inReset = false ∧ (s.port
      (.k k)).transaction = some tr ∧ bytes.length = 64 ∧ tr.wasHolding = true ∧ byteAt bytes 2 ≤ 60 ∧ kind.code =
      byteAt bytes 0 ∧ kind.permitted (.k k) = true ∧ kind.lengthOk ((bytes.drop 3).take (byteAt bytes 2)) = true ∧
      (s.rail k).state = .silent ∧ kind ≠ Kind.restart) :=
  ⟨1, frame [80, 9, 0], inTx (.k 1) true (rdy opn 1 .silent), tx, .nextStep, by decide +kernel⟩

theorem witness_ReadNoticesClearsTheLatches :
    (∃ (s : State) (q : Request), s.hasRequest .c q ∧ q.kind = .readNotices) ∧
    (∃ (k : Crane) (s : State) (q : Request), s.hasRequest (.k k) q ∧ q.kind = .readNotices) :=
  ⟨⟨req .c .readNotices [] (opn), rq .readNotices [], by unfold State.hasRequest; decide +kernel⟩,
   ⟨2, req (.k 2) .readNotices [] (opn), rq .readNotices [], by unfold State.hasRequest; decide +kernel⟩⟩

theorem witness_SetMaskReplacesTheMask :
    (∃ (p : Port) (s : State) (q : Request), (∃ i, (match p with | .c => 9 | .k _ => 6) ≤ i ∧
      (wordAt q.body 0).testBit i = true) ∧ s.hasRequest p q ∧ q.kind = .setMask) ∧
    (∃ (p : Port) (s : State) (q : Request), (∃ i, (match p with | .c => 9 | .k _ => 6) ≤ i ∧
      (wordAt q.body 0).testBit i = true) ∧ s.hasRequest p q ∧ q.kind = .setMask) ∧
    (∃ (p : Port) (s : State) (q : Request), (∀ i, (match p with | .c => 9 | .k _ => 6) ≤ i →
      (wordAt q.body 0).testBit i = false) ∧ s.hasRequest p q ∧ q.kind = .setMask) ∧
    (∃ (p : Port) (s : State) (q : Request), (∀ i, (match p with | .c => 9 | .k _ => 6) ≤ i →
      (wordAt q.body 0).testBit i = false) ∧ s.hasRequest p q ∧ q.kind = .setMask) :=
  ⟨⟨.c, req .c .setMask [0, 2] (opn), rq .setMask [0, 2], ⟨9, by decide +kernel⟩,
     by unfold State.hasRequest; decide +kernel⟩,
   ⟨.k 0, req (.k 0) .setMask [64, 0] (opn), rq .setMask [64, 0], ⟨6, by decide +kernel⟩,
     by unfold State.hasRequest; decide +kernel⟩,
   ⟨.c, req .c .setMask [255, 1] (opn), rq .setMask [255, 1], fun i hi => Nat.testBit_lt_two_pow (lt_of_lt_of_le
     (by decide +kernel) (Nat.pow_le_pow_right (by decide) hi)), by unfold State.hasRequest; decide +kernel⟩,
   ⟨.k 0, req (.k 0) .setMask [63, 0] (opn), rq .setMask [63, 0], fun i hi => Nat.testBit_lt_two_pow (lt_of_lt_of_le
     (by decide +kernel) (Nat.pow_le_pow_right (by decide) hi)), by unfold State.hasRequest; decide +kernel⟩⟩

theorem witness_ChangedClaimsListsAndClears :
    (∃ (s : State) (q : Request), s.hasRequest .c q ∧ q.kind = .changedClaims ∧ s.claims.wf = true) :=
  ⟨req .c .changedClaims [] (opn), rq .changedClaims [], by unfold State.hasRequest; decide +kernel⟩

theorem witness_LoadLaneReplacesTheLane :
    (∃ (s : State) (q : Request), (∀ b ∈ ((laneEntries q.body).map Prod.fst), ∀ r, s.bin? b = some r → r.place =
      .stored (s.params.laneIndex (byteAt q.body 0) (byteAt q.body 1) (byteAt q.body 2) (byteAt q.body 3))) ∧
      s.hasRequest .c q ∧ q.kind = .loadLane ∧ s.wing = .loading ∧ byteAt q.body 0 ≤ 1 ∧ byteAt q.body 1 ≤ 1 ∧ byteAt
      q.body 2 < s.params.bays ∧ byteAt q.body 3 < s.params.levels ∧ byteAt q.body 4 ≤ 7 ∧ 1 ≤ byteAt q.body 5 ∧
      byteAt q.body 5 ≤ 4 ∧ (laneEntries q.body).length ≤ byteAt q.body 5 ∧ (∀ b ∈ ((laneEntries q.body).map
      Prod.fst), b ≤ 8191) ∧ ((laneEntries q.body).map Prod.fst).Nodup) :=
  ⟨req .c .loadLane [1, 0, 3, 2, 5, 4, 2, 9, 0, 120, 11, 0, 30] (State.reset), rq .loadLane [1, 0, 3, 2, 5, 4, 2, 9,
    0, 120, 11, 0, 30], fun b _ => all_some_of_none (by rfl), by unfold State.hasRequest; decide +kernel⟩

theorem witness_LoadStationSetsThePosition :
    (∃ (s : State) (q : Request) (k : Crane) (p : Pos), ∃ b, (∀ r, s.bin? b = some r → r.place = .atStation k p) ∧
      s.hasRequest .c q ∧ q.kind = .loadStation ∧ s.wing = .loading ∧ byteAt q.body 0 = k.val ∧ byteAt q.body 1 =
      p.val ∧ wordAt q.body 2 = b ∧ b ≤ 8191 ∧ byteAt q.body 4 ≤ 7 ∧ ((s.station k).bins[p] = none ∨
      (s.station k).bins[p] = some b)) ∧
    (∃ (s : State) (q : Request) (k : Crane) (p : Pos), ∃ b, (∀ r, s.bin? b = some r → r.place = .atStation k p) ∧
      s.hasRequest .c q ∧ q.kind = .loadStation ∧ s.wing = .loading ∧ byteAt q.body 0 = k.val ∧ byteAt q.body 1 =
      p.val ∧ wordAt q.body 2 = b ∧ b ≤ 8191 ∧ byteAt q.body 4 ≤ 7 ∧ ((s.station k).bins[p] = none ∨
      (s.station k).bins[p] = some b)) ∧
    (∃ (s : State) (q : Request) (k : Crane) (p : Pos), ∃ b, s.hasRequest .c q ∧ q.kind = .loadStation ∧ s.wing =
      .loading ∧ byteAt q.body 0 = k.val ∧ byteAt q.body 1 = p.val ∧ wordAt q.body 2 = 65535 ∧ (s.station k).bins[p] =
      some b) ∧
    (∃ (s : State) (q : Request) (k : Crane) (p : Pos), s.hasRequest .c q ∧ q.kind = .loadStation ∧ s.wing = .loading
      ∧ byteAt q.body 0 = k.val ∧ byteAt q.body 1 = p.val ∧ wordAt q.body 2 = 65535 ∧ (s.station k).bins[p] = none) :=
  ⟨⟨req .c .loadStation [2, 1, 9, 0, 5, 120] (put State.reset 2 1 9), rq .loadStation [2, 1, 9, 0, 5, 120], 2, 1, 9,
     all_some_of_some (y := bin (.atStation 2 1)) (by decide +kernel) rfl, by unfold State.hasRequest; decide +kernel⟩,
   ⟨req .c .loadStation [2, 1, 255, 31, 7, 0] (State.reset), rq .loadStation [2, 1, 255, 31, 7, 0], 2, 1, 8191,
     all_some_of_none (by decide +kernel), by unfold State.hasRequest; decide +kernel⟩,
   ⟨req .c .loadStation [2, 1, 255, 255, 5, 120] (put State.reset 2 1 9), rq .loadStation [2, 1, 255, 255, 5, 120], 2,
     1, 9, by unfold State.hasRequest; decide +kernel⟩,
   ⟨req .c .loadStation [2, 1, 255, 255, 5, 120] (State.reset), rq .loadStation [2, 1, 255, 255, 5, 120], 2, 1,
     by unfold State.hasRequest; decide +kernel⟩⟩

theorem witness_RegisterBinEntersAtAStation_OpenWingStowsTheStations :
    (∃ (s : State) (q : Request), s.hasRequest .c q ∧ q.kind = .openWing ∧ s.wing = .loading ∧ 0 ≤ s.headroom ∧
      s.settled ∧ s.tablesWf ∧ (∀ k, (s.crane k).active = none) ∧ s.tasks.entries.length ≤ 56 ∧ (∀ e ∈
      s.tasks.entries, e.2.kind = .park ∨ e.2.kind = .home)) :=
  ⟨req .c .openWing [] (put (put State.reset 0 0 9) 0 1 8), rq .openWing [],
    by unfold State.hasRequest State.settled State.tablesWf; decide +kernel⟩

theorem witness_RegisterBinEntersAtAStation_OpenWingRefused :
    (∃ (s : State) (q : Request), s.hasRequest .c q ∧ q.kind = .openWing ∧ s.wing = .opened) ∧
    (∃ (s : State) (q : Request), s.hasRequest .c q ∧ q.kind = .openWing ∧ s.wing = .loading ∧ s.headroom < 0) :=
  ⟨⟨req .c .openWing [] (opn), rq .openWing [], by unfold State.hasRequest; decide +kernel⟩,
   ⟨req .c .openWing [] ({ State.reset with params := { State.reset.params with bays := 1, levels := 1, reserve := 13
     } }), rq .openWing [], by unfold State.hasRequest; decide +kernel⟩⟩

theorem witness_RegisterBinEntersAtAStation :
    (∃ (s : State) (q : Request) (k : Crane) (p : Pos), s.hasRequest .c q ∧ q.kind = .registerBin ∧ s.wing = .opened ∧
      s.settled ∧ byteAt q.body 4 = k.val ∧ byteAt q.body 5 = p.val ∧ (wordAt q.body 0) ≤ 8191 ∧ byteAt q.body 2 ≤ 7 ∧
      s.bin? (wordAt q.body 0) = none ∧ (s.station k).keyMask.getLsbD (byteAt q.body 2) = true ∧ (s.station k).state ≠
      .closed ∧ (s.fire (aisleOf k)).state = .normal ∧ (s.station k).bins[p] = none ∧ (s.station k).promises[p] = none
      ∧ 1 ≤ s.headroom ∧ (s.crane k).active = none ∧ s.stowOf (wordAt q.body 0) = none ∧ s.tasks.lowestFree 64 = some
      0) :=
  ⟨req .c .registerBin [9, 0, 0, 120, 2, 1] (opn), rq .registerBin [9, 0, 0, 120, 2, 1], 2, 1,
    by unfold State.hasRequest State.settled; decide +kernel⟩

theorem witness_RegisterBinEntersAtAStation_RegisterBinPreempts :
    (∃ (s : State) (q : Request) (k : Crane) (p : Pos) (id old i : Nat) (o : Task),
      let b := wordAt q.body 0
      let open' (j : Nat) : Prop := j < s.params.laneCount ∧ s.params.laneAisle j = aisleOf k ∧ (s.lane j).key =
        byteAt q.body 2 ∧ (s.lane j).contents.length + (s.lane j).incoming < (s.lane j).depth
      let price (j : Nat) : Nat := min 65535 (((s.params.bayMm (aisleOf k) (s.params.laneBay j) -
        s.params.stationPos[k]).natAbs + 99) / 100 * s.params.weights.travel + s.params.laneLevel j *
        s.params.weights.level + ((s.lane j).contents.length + (s.lane j).incoming) * s.params.weights.depth)
      let boundary : Prop := (o.step = .relocPick ∨ o.step = .pick) ∧ s.fork k = none ∧ o.yield = none
      (∀ j, open' j → price i < price j ∨ (price i = price j ∧ i ≤ j)) ∧ s.hasRequest .c q ∧ q.kind = .registerBin ∧
        s.wing = .opened ∧ s.settled ∧ byteAt q.body 4 = k.val ∧ byteAt q.body 5 = p.val ∧ b ≤ 8191 ∧ byteAt q.body 2
        ≤ 7 ∧ s.bin? b = none ∧ (s.station k).keyMask.getLsbD (byteAt q.body 2) = true ∧ (s.station k).state ≠ .closed
        ∧ (s.fire (aisleOf k)).state = .normal ∧ (s.station k).bins[p] = none ∧ (s.station k).promises[p] = none ∧ 1 ≤
        s.headroom ∧ s.stowOf b = none ∧ s.tasks.lowestFree 64 = some id ∧ (s.rail k).state = .ready ∧
        (s.crane k).queue = [] ∧ (s.crane k).active = some old ∧ s.task? old = some o ∧ open' i ∧ 4 < o.cls ∧ boundary
        ∧ (s.crane k).stack.length < 3 ∧ (¬ ((s.crane k).undelivered = .push ∧ o.kind = .fetch))) ∧
    (∃ (s : State) (q : Request) (k : Crane) (p : Pos) (id old i : Nat) (o : Task),
      let b := wordAt q.body 0
      let open' (j : Nat) : Prop := j < s.params.laneCount ∧ s.params.laneAisle j = aisleOf k ∧ (s.lane j).key =
        byteAt q.body 2 ∧ (s.lane j).contents.length + (s.lane j).incoming < (s.lane j).depth
      let price (j : Nat) : Nat := min 65535 (((s.params.bayMm (aisleOf k) (s.params.laneBay j) -
        s.params.stationPos[k]).natAbs + 99) / 100 * s.params.weights.travel + s.params.laneLevel j *
        s.params.weights.level + ((s.lane j).contents.length + (s.lane j).incoming) * s.params.weights.depth)
      let boundary : Prop := (o.step = .relocPick ∨ o.step = .pick) ∧ s.fork k = none ∧ o.yield = none
      (∀ j, open' j → price i < price j ∨ (price i = price j ∧ i ≤ j)) ∧ s.hasRequest .c q ∧ q.kind = .registerBin ∧
        s.wing = .opened ∧ s.settled ∧ byteAt q.body 4 = k.val ∧ byteAt q.body 5 = p.val ∧ b ≤ 8191 ∧ byteAt q.body 2
        ≤ 7 ∧ s.bin? b = none ∧ (s.station k).keyMask.getLsbD (byteAt q.body 2) = true ∧ (s.station k).state ≠ .closed
        ∧ (s.fire (aisleOf k)).state = .normal ∧ (s.station k).bins[p] = none ∧ (s.station k).promises[p] = none ∧ 1 ≤
        s.headroom ∧ s.stowOf b = none ∧ s.tasks.lowestFree 64 = some id ∧ (s.rail k).state = .ready ∧
        (s.crane k).queue = [] ∧ (s.crane k).active = some old ∧ s.task? old = some o ∧ open' i ∧ 4 < o.cls ∧ boundary
        ∧ 3 ≤ (s.crane k).stack.length) ∧
    (∃ (s : State) (q : Request) (k : Crane) (p : Pos) (id old i : Nat) (o : Task),
      let b := wordAt q.body 0
      let open' (j : Nat) : Prop := j < s.params.laneCount ∧ s.params.laneAisle j = aisleOf k ∧ (s.lane j).key =
        byteAt q.body 2 ∧ (s.lane j).contents.length + (s.lane j).incoming < (s.lane j).depth
      let price (j : Nat) : Nat := min 65535 (((s.params.bayMm (aisleOf k) (s.params.laneBay j) -
        s.params.stationPos[k]).natAbs + 99) / 100 * s.params.weights.travel + s.params.laneLevel j *
        s.params.weights.level + ((s.lane j).contents.length + (s.lane j).incoming) * s.params.weights.depth)
      let boundary : Prop := (o.step = .relocPick ∨ o.step = .pick) ∧ s.fork k = none ∧ o.yield = none
      (∀ j, open' j → price i < price j ∨ (price i = price j ∧ i ≤ j)) ∧ s.hasRequest .c q ∧ q.kind = .registerBin ∧
        s.wing = .opened ∧ s.settled ∧ byteAt q.body 4 = k.val ∧ byteAt q.body 5 = p.val ∧ b ≤ 8191 ∧ byteAt q.body 2
        ≤ 7 ∧ s.bin? b = none ∧ (s.station k).keyMask.getLsbD (byteAt q.body 2) = true ∧ (s.station k).state ≠ .closed
        ∧ (s.fire (aisleOf k)).state = .normal ∧ (s.station k).bins[p] = none ∧ (s.station k).promises[p] = none ∧ 1 ≤
        s.headroom ∧ s.stowOf b = none ∧ s.tasks.lowestFree 64 = some id ∧ (s.rail k).state = .ready ∧
        (s.crane k).queue = [] ∧ (s.crane k).active = some old ∧ s.task? old = some o ∧ open' i ∧
        (o.cls ≤ 4 ∨ ¬ boundary)) :=
  ⟨⟨req .c .registerBin [9, 0, 0, 50, 1, 0] (stacked 1 [] .none (withA (tiny (rdy opn 1)) 1 0 (tk 1 .relocate 5
     (some 7) .active))), rq .registerBin [9, 0, 0, 50, 1, 0], 1, 0, 1, 0, 0, tk 1 .relocate 5 (some 7) .active,
     (by dsimp only; exact below_four rfl (fun _ h => h.1) (by decide +kernel)),
     by unfold State.hasRequest State.settled; dsimp only; decide +kernel⟩,
   ⟨req .c .registerBin [9, 0, 0, 50, 1, 0] (stacked 1 [5, 6, 7] .none (withA (tiny (rdy opn 1)) 1 0 (tk 1 .relocate 5
     (some 7) .active))), rq .registerBin [9, 0, 0, 50, 1, 0], 1, 0, 1, 0, 0, tk 1 .relocate 5 (some 7) .active,
     (by dsimp only; exact below_four rfl (fun _ h => h.1) (by decide +kernel)),
     by unfold State.hasRequest State.settled; dsimp only; decide +kernel⟩,
   ⟨req .c .registerBin [9, 0, 0, 50, 1, 0] (stacked 1 [] .none (withA (tiny (rdy opn 1)) 1 0 (tk 1 .relocate 3
     (some 7) .active))), rq .registerBin [9, 0, 0, 50, 1, 0], 1, 0, 1, 0, 0, tk 1 .relocate 3 (some 7) .active,
     (by dsimp only; exact below_four rfl (fun _ h => h.1) (by decide +kernel)),
     by unfold State.hasRequest State.settled; dsimp only; decide +kernel⟩⟩

theorem witness_RegisterBinEntersAtAStation_RemoveBinLeavesTheWing :
    (∃ (s : State) (q : Request) (k : Crane) (p : Pos) (r : Bin), s.hasRequest .c q ∧ q.kind = .removeBin ∧ s.wing =
      .opened ∧ s.settled ∧ s.tablesWf ∧ (wordAt q.body 0) ≤ 8191 ∧ s.bin? (wordAt q.body 0) = some r ∧ r.place =
      .atStation k p ∧ r.chain = [] ∧ s.binInWork (wordAt q.body 0) = false ∧ (∀ j, (s.crane j).active = none) ∧
      s.stowOf (wordAt q.body 0) = some 4) :=
  ⟨req .c .removeBin [9, 0] (withQ (put opn 2 1 9) 2 4 (tk 2 .stow 4 (some 9))), rq .removeBin [9, 0], 2, 1, bin
    (.atStation 2 1), by unfold State.hasRequest State.settled State.tablesWf; decide +kernel⟩

theorem witness_QueriesReportTheRecords_DirectoryQueriesReport :
    (∃ (s : State) (q : Request), s.hasRequest .c q ∧ q.kind = .queryBin ∧ wordAt q.body 0 ≤ 8191 ∧ s.bin?
      (wordAt q.body 0) = none) ∧
    (∃ (s : State) (q : Request), ∃ r, s.hasRequest .c q ∧ q.kind = .queryBin ∧ wordAt q.body 0 ≤ 8191 ∧ s.bin?
      (wordAt q.body 0) = some r) ∧
    (∃ (s : State) (q : Request), s.hasRequest .c q ∧ q.kind = .queryLane ∧ byteAt q.body 0 ≤ 1 ∧ byteAt q.body 1 ≤ 1
      ∧ byteAt q.body 2 < s.params.bays ∧ byteAt q.body 3 < s.params.levels) :=
  ⟨⟨req .c .queryBin [9, 0] (opn), rq .queryBin [9, 0], by unfold State.hasRequest; decide +kernel⟩,
   ⟨req .c .queryBin [9, 0] (put opn 2 1 9), rq .queryBin [9, 0], bin (.atStation 2 1),
     by unfold State.hasRequest; decide +kernel⟩,
   ⟨req .c .queryLane [1, 1, 47, 7] (opn), rq .queryLane [1, 1, 47, 7], by unfold State.hasRequest; decide +kernel⟩⟩

theorem witness_StationTakesTheSetting :
    (∃ (s : State) (q : Request) (k : Crane), s.hasRequest .c q ∧ q.kind = .station ∧ byteAt q.body 0 = k.val ∧ 1 <
      byteAt q.body 1) ∧
    (∃ (s : State) (q : Request) (k : Crane), ∃ setting : Staff, s.hasRequest .c q ∧ q.kind = .station ∧ byteAt q.body
      0 = k.val ∧ byteAt q.body 1 = setting.code) :=
  ⟨⟨req .c .station [3, 2, 7] (opn), rq .station [3, 2, 7], 3, by unfold State.hasRequest; decide +kernel⟩,
   ⟨req .c .station [3, 1, 7] (opn), rq .station [3, 1, 7], 3, .closed, by unfold State.hasRequest; decide +kernel⟩⟩

theorem witness_AClaimIsCreatedAndPlaced_ClaimWaitsItsTurn :
    (∃ (s : State) (q : Request) (kind : ClaimKind) (st : Crane) (r : Bin) (id : Nat), s.hasRequest .c q ∧ q.kind =
      .claim ∧ s.claimAccepted q.body kind st r ∧ s.claimEntry = some id ∧ s.settled ∧ r.chain ≠ [] ∧ id ∉ r.chain) :=
  ⟨req .c .claim (cb 1 0 9 2) (put opn 2 1 9 [3]), rq .claim (cb 1 0 9 2), .ret, 2, bin (.atStation 2 1) [3], 0,
    by unfold State.hasRequest State.settled State.claimAccepted; decide +kernel⟩

theorem witness_AClaimIsCreatedAndPlaced_ClaimAtItsStationIsPresented :
    (∃ (s : State) (q : Request) (kind : ClaimKind) (st : Crane) (r : Bin) (id : Nat) (p : Pos), s.hasRequest .c q ∧
      q.kind = .claim ∧ s.claimAccepted q.body kind st r ∧ s.claimEntry = some id ∧ s.settled ∧ s.tablesWf ∧ r.chain =
      [] ∧ r.place = .atStation st p ∧ (∀ k, (s.crane k).active = none)) ∧
    (∃ (s : State) (q : Request) (kind : ClaimKind) (st : Crane) (r : Bin) (id : Nat) (p : Pos), s.hasRequest .c q ∧
      q.kind = .claim ∧ s.claimAccepted q.body kind st r ∧ s.claimEntry = some id ∧ s.settled ∧ s.tablesWf ∧ r.chain =
      [] ∧ r.place = .atStation st p ∧ (∀ k, (s.crane k).active = none) ∧ s.stowOf (wordAt q.body 2) = some 4 ∧
      s.task? 4 = some (tk 2 .stow 4 (some 9))) :=
  ⟨⟨req .c .claim (cb 2 0 9 2 0) (put opn 2 1 9), rq .claim (cb 2 0 9 2 0), .audit, 2, bin (.atStation 2 1), 0, 1,
     by unfold State.hasRequest State.settled State.tablesWf State.claimAccepted; decide +kernel⟩,
   ⟨req .c .claim (cb 2 0 9 2 0) (withQ (put opn 2 1 9) 2 4 (tk 2 .stow 4 (some 9))), rq .claim (cb 2 0 9 2 0),
     .audit, 2, bin (.atStation 2 1), 0, 1,
     by unfold State.hasRequest State.settled State.tablesWf State.claimAccepted; decide +kernel⟩⟩

theorem witness_AClaimIsCreatedAndPlaced_ClaimRedirectsTheStep :
    (∃ (s : State) (q : Request) (kind : ClaimKind) (k : Crane) (r : Bin) (id tid : Nat) (t : Task), ∃ p : Pos,
      s.hasRequest .c q ∧ q.kind = .claim ∧ s.claimAccepted q.body kind k r ∧ s.claimEntry = some id ∧ s.settled ∧
      r.chain = [] ∧ r.place = .onCrane k ∧ (s.fire (aisleOf k)).state = .normal ∧ (s.crane k).active = some tid ∧
      (s.crane k).undelivered ≠ .push ∧ s.task? tid = some t ∧ t.redirect = none ∧ t.stepBin = some (wordAt q.body 2)
      ∧ (t.step = .relocSet ∧ (t.kind = .fetch ∨ t.kind = .relocate) ∨ t.step = .set ∧ t.kind = .stow) ∧
      ((s.station k).bins[p] = none ∧ (s.station k).promises[p] = none) ∧ (∀ j, j < p → ¬ ((s.station k).bins[j] =
      none ∧ (s.station k).promises[j] = none))) ∧
    (∃ (s : State) (q : Request) (kind : ClaimKind) (k : Crane) (r : Bin) (id tid : Nat) (t : Task), s.hasRequest .c q
      ∧ q.kind = .claim ∧ s.claimAccepted q.body kind k r ∧ s.claimEntry = some id ∧ s.settled ∧ r.chain = [] ∧
      r.place = .onCrane k ∧ (s.fire (aisleOf k)).state = .normal ∧ (s.crane k).active = some tid ∧
      (s.crane k).undelivered ≠ .push ∧ s.task? tid = some t ∧ t.redirect = none ∧ t.stepBin = some (wordAt q.body 2)
      ∧ (t.step = .relocSet ∧ (t.kind = .fetch ∨ t.kind = .relocate) ∨ t.step = .set ∧ t.kind = .stow) ∧ (∀ p : Pos, ¬
      ((s.station k).bins[p] = none ∧ (s.station k).promises[p] = none)) ∧ s.spareFetch (wordAt q.body 2) k = none ∧
      id ∉ s.backlog) :=
  ⟨⟨req .c .claim (cb 0 0 9 1) (withA (opn.setBin 9 (bin (.onCrane 1))) 1 5 tC), rq .claim (cb 0 0 9 1), .lend, 1, bin
     (.onCrane 1), 0, 5, tC, 0, by unfold State.hasRequest State.settled State.claimAccepted; decide +kernel⟩,
   ⟨req .c .claim (cb 0 0 9 1) (withA (put (put (opn.setBin 9 (bin (.onCrane 1))) 1 0 7) 1 1 8) 1 5 tC), rq .claim
     (cb 0 0 9 1), .lend, 1, bin (.onCrane 1), 0, 5, tC,
     by unfold State.hasRequest State.settled State.claimAccepted; decide +kernel⟩⟩

theorem witness_AClaimIsCreatedAndPlaced_ClaimOfAStoredBinIsFetched :
    (∃ (s : State) (q : Request) (kind : ClaimKind) (st : Crane) (r : Bin) (id tid i : Nat), s.hasRequest .c q ∧
      q.kind = .claim ∧ s.claimAccepted q.body kind st r ∧ s.claimEntry = some id ∧ s.settled ∧ r.chain = [] ∧ r.place
      = .stored i ∧ s.spareFetch (wordAt q.body 2) st = none ∧ (s.crane st).active = none ∧ s.tasks.lowestFree 64 =
      some tid ∧ s.fetchRoom st = true) ∧
    (∃ (s : State) (q : Request) (kind : ClaimKind) (st : Crane) (r : Bin) (id tid i : Nat), s.hasRequest .c q ∧
      q.kind = .claim ∧ s.claimAccepted q.body kind st r ∧ s.claimEntry = some id ∧ s.settled ∧ r.chain = [] ∧ r.place
      = .stored i ∧ s.spareFetch (wordAt q.body 2) st = none ∧ (s.crane st).active = none ∧ s.tasks.lowestFree 64 =
      some tid ∧ s.fetchRoom st = false) :=
  ⟨⟨req .c .claim (cb 0 1 9 1) (store opn 20 9), rq .claim (cb 0 1 9 1), .lend, 1, bin (.stored 20), 0, 0, 20,
     by unfold State.hasRequest State.settled State.claimAccepted; decide +kernel⟩,
   ⟨req .c .claim (cb 0 1 9 1) (fullQ (store opn 20 9)), rq .claim (cb 0 1 9 1), .lend, 1, bin (.stored 20), 0, 7, 20,
     by unfold State.hasRequest State.settled State.claimAccepted; decide +kernel⟩⟩

theorem witness_PickRecordsTheOutcome :
    (∃ (s : State) (q : Request) (c : Claim) (r : Bin) (it : Item), s.hasRequest .c q ∧ q.kind = .pick ∧ s.wing =
      .opened ∧ (byteAt q.body 0) ≤ 127 ∧ s.claim? (byteAt q.body 0) = some c ∧ c.state = .presented ∧
      c.items[(byteAt q.body 1)]? = some it ∧ it.outcome = .pending ∧ s.bin? c.bin = some r ∧ c.kind = .lend ∧ byteAt
      q.body 2 = 0 ∧ it.units ≤ r.fill) ∧
    (∃ (s : State) (q : Request) (c : Claim) (r : Bin) (it : Item), s.hasRequest .c q ∧ q.kind = .pick ∧ s.wing =
      .opened ∧ (byteAt q.body 0) ≤ 127 ∧ s.claim? (byteAt q.body 0) = some c ∧ c.state = .presented ∧
      c.items[(byteAt q.body 1)]? = some it ∧ it.outcome = .pending ∧ s.bin? c.bin = some r ∧ c.kind = .lend ∧ byteAt
      q.body 2 = 0 ∧ r.fill < it.units) ∧
    (∃ (s : State) (q : Request) (c : Claim) (r : Bin) (it : Item), s.hasRequest .c q ∧ q.kind = .pick ∧ s.wing =
      .opened ∧ (byteAt q.body 0) ≤ 127 ∧ s.claim? (byteAt q.body 0) = some c ∧ c.state = .presented ∧
      c.items[(byteAt q.body 1)]? = some it ∧ it.outcome = .pending ∧ s.bin? c.bin = some r ∧ c.kind = .lend ∧ byteAt
      q.body 2 = 1) ∧
    (∃ (s : State) (q : Request) (c : Claim) (r : Bin) (it : Item), s.hasRequest .c q ∧ q.kind = .pick ∧ s.wing =
      .opened ∧ (byteAt q.body 0) ≤ 127 ∧ s.claim? (byteAt q.body 0) = some c ∧ c.state = .presented ∧
      c.items[(byteAt q.body 1)]? = some it ∧ it.outcome = .pending ∧ s.bin? c.bin = some r ∧ c.kind = .ret ∧ byteAt
      q.body 2 = 2) :=
  ⟨⟨req .c .pick [3, 0, 0] (pres .lend 5), rq .pick [3, 0, 0], clm .lend .presented 9 2, pbin 5, ⟨77, 5, .pending⟩,
     by unfold State.hasRequest; decide +kernel⟩,
   ⟨req .c .pick [3, 0, 0] (pres .lend 4), rq .pick [3, 0, 0], clm .lend .presented 9 2, pbin 4, ⟨77, 5, .pending⟩,
     by unfold State.hasRequest; decide +kernel⟩,
   ⟨req .c .pick [3, 0, 1] (pres .lend 4), rq .pick [3, 0, 1], clm .lend .presented 9 2, pbin 4, ⟨77, 5, .pending⟩,
     by unfold State.hasRequest; decide +kernel⟩,
   ⟨req .c .pick [3, 0, 2] (pres .ret 4), rq .pick [3, 0, 2], clm .ret .presented 9 2, pbin 4, ⟨77, 5, .pending⟩,
     by unfold State.hasRequest; decide +kernel⟩⟩

theorem witness_CountConfirmsTheFill :
    (∃ (s : State) (q : Request) (c : Claim) (r : Bin), s.hasRequest .c q ∧ q.kind = .count ∧ s.wing = .opened ∧
      (byteAt q.body 0) ≤ 127 ∧ s.claim? (byteAt q.body 0) = some c ∧ c.state = .presented ∧ c.kind = .audit ∧ s.bin?
      c.bin = some r ∧ (byteAt q.body 1) = r.fill) ∧
    (∃ (s : State) (q : Request) (c : Claim) (r : Bin), s.hasRequest .c q ∧ q.kind = .count ∧ s.wing = .opened ∧
      (byteAt q.body 0) ≤ 127 ∧ s.claim? (byteAt q.body 0) = some c ∧ c.state = .presented ∧ c.kind = .audit ∧ s.bin?
      c.bin = some r ∧ (byteAt q.body 1) ≠ r.fill ∧ (byteAt q.body 1) + r.reserved ≤ s.params.capacity) ∧
    (∃ (s : State) (q : Request) (c : Claim) (r : Bin), s.hasRequest .c q ∧ q.kind = .count ∧ s.wing = .opened ∧
      (byteAt q.body 0) ≤ 127 ∧ s.claim? (byteAt q.body 0) = some c ∧ c.state = .presented ∧ c.kind = .audit ∧ s.bin?
      c.bin = some r ∧ (byteAt q.body 1) ≠ r.fill ∧ s.params.capacity < (byteAt q.body 1) + r.reserved) :=
  ⟨⟨req .c .count [3, 50] (pres .audit 50), rq .count [3, 50], clm .audit .presented 9 2, pbin 50,
     by unfold State.hasRequest; decide +kernel⟩,
   ⟨req .c .count [3, 95] (pres .audit 50), rq .count [3, 95], clm .audit .presented 9 2, pbin 50,
     by unfold State.hasRequest; decide +kernel⟩,
   ⟨req .c .count [3, 96] (pres .audit 50), rq .count [3, 96], clm .audit .presented 9 2, pbin 50,
     by unfold State.hasRequest; decide +kernel⟩⟩

theorem witness_AClaimEnds_APresentedClaimEnds :
    (∃ (s : State) (id tid : Nat) (c : Claim) (r : Bin) (p : Pos), ∃ q, id ≤ 127 ∧ s.inReset = false ∧ s.settled ∧
      s.claim? id = some c ∧ c.state = .presented ∧ s.bin? c.bin = some r ∧ r.chain = [id] ∧ r.place = .atStation
      c.station p ∧ s.stowOf c.bin = none ∧ (s.crane c.station).active = none ∧ s.tasks.lowestFree 64 = some tid ∧
      s.hasRequest .c q ∧ q.kind = .release ∧ byteAt q.body 0 = id ∧ s.wing = .opened) ∧
    (∃ (s : State) (id tid : Nat) (c : Claim) (r : Bin) (p : Pos), ∃ q, id ≤ 127 ∧ s.inReset = false ∧ s.settled ∧
      s.claim? id = some c ∧ c.state = .presented ∧ s.bin? c.bin = some r ∧ r.chain = [id] ∧ r.place = .atStation
      c.station p ∧ s.stowOf c.bin = none ∧ (s.crane c.station).active = none ∧ s.tasks.lowestFree 64 = some tid ∧
      s.hasRequest .c q ∧ q.kind = .cancel ∧ byteAt q.body 0 = id ∧ s.wing = .opened) ∧
    (∃ (s : State) (id tid : Nat) (c : Claim) (r : Bin) (p : Pos), id ≤ 127 ∧ s.inReset = false ∧ s.settled ∧ s.claim?
      id = some c ∧ c.state = .presented ∧ s.bin? c.bin = some r ∧ r.chain = [id] ∧ r.place = .atStation c.station p ∧
      s.stowOf c.bin = none ∧ (s.crane c.station).active = none ∧ s.tasks.lowestFree 64 = some tid ∧ c.dwell = 0) :=
  ⟨⟨req .c .release [3] (pres .ret 50), 3, 0, clm .ret .presented 9 2, pbin 50, 1, rq .release [3],
     by unfold State.hasRequest State.settled; decide +kernel⟩,
   ⟨req .c .cancel [3] (pres .ret 50), 3, 0, clm .ret .presented 9 2, pbin 50, 1, rq .cancel [3],
     by unfold State.hasRequest State.settled; decide +kernel⟩,
   ⟨req .c .cancel [3] (pres .ret 50), 3, 0, clm .ret .presented 9 2, pbin 50, 1,
     by unfold State.settled; decide +kernel⟩⟩

theorem witness_AClaimEnds_CancelOfAWaitingClaim :
    (∃ (s : State) (q : Request) (c : Claim) (r : Bin), s.hasRequest .c q ∧ q.kind = .cancel ∧ s.wing = .opened ∧
      s.settled ∧ (byteAt q.body 0) ≤ 127 ∧ s.claim? (byteAt q.body 0) = some c ∧ c.state = .queued ∧ c.task = none ∧
      s.bin? c.bin = some r ∧ r.chain.head? ≠ some (byteAt q.body 0)) :=
  ⟨req .c .cancel [3] ((put opn 2 1 9 [4, 3, 6]).setClaim 3 (clm .ret .queued 9 2)), rq .cancel [3], clm .ret .queued
    9 2, bin (.atStation 2 1) [4, 3, 6], by unfold State.hasRequest State.settled; decide +kernel⟩

theorem witness_QueryClaimReadsAndRetires :
    (∃ (s : State) (q : Request) (c : Claim), s.hasRequest .c q ∧ q.kind = .queryClaim ∧ byteAt q.body 0 ≤ 127 ∧
      s.claim? (byteAt q.body 0) = some c ∧ byteAt q.body 1 = 0) ∧
    (∃ (s : State) (q : Request) (c : Claim), s.hasRequest .c q ∧ q.kind = .queryClaim ∧ byteAt q.body 0 ≤ 127 ∧
      s.claim? (byteAt q.body 0) = some c ∧ byteAt q.body 1 = 1) :=
  ⟨⟨req .c .queryClaim [127, 0] (opn.setClaim 127 (clm .ret .done 9 2)), rq .queryClaim [127, 0], clm .ret .done 9 2,
     by unfold State.hasRequest; decide +kernel⟩,
   ⟨req .c .queryClaim [127, 1] (opn.setClaim 127 (clm .ret .done 9 2)), rq .queryClaim [127, 1], clm .ret .done 9 2,
     by unfold State.hasRequest; decide +kernel⟩⟩

theorem witness_PlaceStartsASearch :
    (∃ (s : State) (q : Request), s.hasRequest .c q ∧ q.kind = .place ∧ s.wing = .loading) ∧
    (∃ (s : State) (q : Request), s.hasRequest .c q ∧ q.kind = .place ∧ s.wing = .opened ∧ (3 < byteAt q.body 0 ∨
      (byteAt q.body 1) = 0 ∨ s.params.capacity < (byteAt q.body 1) ∨ 7 < (byteAt q.body 2))) ∧
    (∃ (s : State) (q : Request), ∃ k : Crane, s.hasRequest .c q ∧ q.kind = .place ∧ s.wing = .opened ∧ byteAt q.body
      0 = k.val ∧ 1 ≤ (byteAt q.body 1) ∧ (byteAt q.body 1) ≤ s.params.capacity ∧ (byteAt q.body 2) ≤ 7 ∧
      (s.station k).keyMask.getLsbD (byteAt q.body 2) = false) ∧
    (∃ (s : State) (q : Request), ∃ k : Crane, s.hasRequest .c q ∧ q.kind = .place ∧ s.wing = .opened ∧ byteAt q.body
      0 = k.val ∧ 1 ≤ (byteAt q.body 1) ∧ (byteAt q.body 1) ≤ s.params.capacity ∧ (byteAt q.body 2) ≤ 7 ∧
      (s.station k).keyMask.getLsbD (byteAt q.body 2) = true ∧ (s.station k).state = .closed) ∧
    (∃ (s : State) (q : Request), ∃ k : Crane, s.hasRequest .c q ∧ q.kind = .place ∧ s.wing = .opened ∧ byteAt q.body
      0 = k.val ∧ 1 ≤ (byteAt q.body 1) ∧ (byteAt q.body 1) ≤ s.params.capacity ∧ (byteAt q.body 2) ≤ 7 ∧
      (s.station k).keyMask.getLsbD (byteAt q.body 2) = true ∧ (s.station k).state = .shuttered) ∧
    (∃ (s : State) (q : Request), ∃ k : Crane, s.hasRequest .c q ∧ q.kind = .place ∧ s.wing = .opened ∧ byteAt q.body
      0 = k.val ∧ 1 ≤ (byteAt q.body 1) ∧ (byteAt q.body 1) ≤ s.params.capacity ∧ (byteAt q.body 2) ≤ 7 ∧
      (s.station k).keyMask.getLsbD (byteAt q.body 2) = true ∧ (s.station k).state = .opened ∧ s.search.state =
      .running) ∧
    (∃ (s : State) (q : Request), ∃ k : Crane, s.hasRequest .c q ∧ q.kind = .place ∧ s.wing = .opened ∧ byteAt q.body
      0 = k.val ∧ 1 ≤ (byteAt q.body 1) ∧ (byteAt q.body 1) ≤ s.params.capacity ∧ (byteAt q.body 2) ≤ 7 ∧
      (s.station k).keyMask.getLsbD (byteAt q.body 2) = true ∧ (s.station k).state = .opened ∧ s.search.state ≠
      .running) :=
  ⟨⟨req .c .place [2, 5, 0, 1, 2, 3, 4] (State.reset), rq .place [2, 5, 0, 1, 2, 3, 4],
     by unfold State.hasRequest; decide +kernel⟩,
   ⟨req .c .place [2, 101, 0, 1, 2, 3, 4] (opn), rq .place [2, 101, 0, 1, 2, 3, 4],
     by unfold State.hasRequest; decide +kernel⟩,
   ⟨req .c .place [2, 1, 7, 1, 2, 3, 4] (opn), rq .place [2, 1, 7, 1, 2, 3, 4], 2,
     by unfold State.hasRequest; decide +kernel⟩,
   ⟨req .c .place [2, 5, 0, 1, 2, 3, 4] (opn.modStation 2 (fun x => { x with state := .closed })), rq .place [2, 5, 0,
     1, 2, 3, 4], 2, by unfold State.hasRequest; decide +kernel⟩,
   ⟨req .c .place [2, 5, 0, 1, 2, 3, 4] (opn.modStation 2 (fun x => { x with state := .shuttered })), rq .place [2, 5,
     0, 1, 2, 3, 4], 2, by unfold State.hasRequest; decide +kernel⟩,
   ⟨req .c .place [2, 5, 0, 1, 2, 3, 4] (searching 9 none opn), rq .place [2, 5, 0, 1, 2, 3, 4], 2,
     by unfold State.hasRequest; decide +kernel⟩,
   ⟨req .c .place [2, 100, 0, 1, 2, 3, 4] (opn), rq .place [2, 100, 0, 1, 2, 3, 4], 2,
     by unfold State.hasRequest; decide +kernel⟩⟩

theorem witness_SearchVisitJudgesOneBin :
    (∃ (s : State) (pr : PlaceRequest), s.inReset = false ∧ s.search.state = .running ∧ s.search.request = some pr ∧
      s.search.cursor ≤ 8191 ∧ s.bin? s.search.cursor = none) ∧
    (∃ (s : State) (pr : PlaceRequest), ∃ r, (¬ (r.key = pr.key ∧ pr.units ≤ s.params.capacity - r.fill - r.reserved ∧
      ∀ id ∈ r.chain, ∀ c, s.claim? id = some c → c.kind = .audit → c.state.live = false)) ∧ s.inReset = false ∧
      s.search.state = .running ∧ s.search.request = some pr ∧ s.search.cursor ≤ 8191 ∧ s.bin? s.search.cursor = some
      r) ∧
    (∃ (s : State) (pr : PlaceRequest), ∃ r, ∃ i, s.inReset = false ∧ s.search.state = .running ∧ s.search.request =
      some pr ∧ s.search.cursor ≤ 8191 ∧ s.bin? s.search.cursor = some r ∧ r.place = .stored i ∧ s.params.laneAisle i
      ≠ aisleOf pr.station) ∧
    (∃ (s : State) (pr : PlaceRequest), ∃ r, ∃ i, (r.key = pr.key ∧ pr.units ≤ s.params.capacity - r.fill - r.reserved
      ∧ ∀ id ∈ r.chain, ∀ c, s.claim? id = some c → c.kind = .audit → c.state.live = false) ∧ s.inReset = false ∧
      s.search.state = .running ∧ s.search.request = some pr ∧ s.search.cursor ≤ 8191 ∧ s.bin? s.search.cursor = some
      r ∧ r.place = .stored i ∧ s.params.laneAisle i = aisleOf pr.station) ∧
    (∃ (s : State) (pr : PlaceRequest), ∃ r, ∃ j p, s.inReset = false ∧ s.search.state = .running ∧ s.search.request =
      some pr ∧ s.search.cursor ≤ 8191 ∧ s.bin? s.search.cursor = some r ∧ r.place = .atStation j p ∧ j ≠ pr.station) ∧
    (∃ (s : State) (pr : PlaceRequest), ∃ r, ∃ j p, (r.key = pr.key ∧ pr.units ≤ s.params.capacity - r.fill -
      r.reserved ∧ ∀ id ∈ r.chain, ∀ c, s.claim? id = some c → c.kind = .audit → c.state.live = false) ∧ s.inReset =
      false ∧ s.search.state = .running ∧ s.search.request = some pr ∧ s.search.cursor ≤ 8191 ∧ s.bin? s.search.cursor
      = some r ∧ r.place = .atStation j p ∧ j = pr.station) ∧
    (∃ (s : State) (pr : PlaceRequest), ∃ r, ∃ j, s.inReset = false ∧ s.search.state = .running ∧ s.search.request =
      some pr ∧ s.search.cursor ≤ 8191 ∧ s.bin? s.search.cursor = some r ∧ r.place = .onCrane j ∧ s.carriedToStation
      pr.station s.search.cursor = false) ∧
    (∃ (s : State) (pr : PlaceRequest), ∃ r, ∃ j, (r.key = pr.key ∧ pr.units ≤ s.params.capacity - r.fill - r.reserved
      ∧ ∀ id ∈ r.chain, ∀ c, s.claim? id = some c → c.kind = .audit → c.state.live = false) ∧ s.inReset = false ∧
      s.search.state = .running ∧ s.search.request = some pr ∧ s.search.cursor ≤ 8191 ∧ s.bin? s.search.cursor = some
      r ∧ r.place = .onCrane j ∧ s.carriedToStation pr.station s.search.cursor = true) :=
  ⟨⟨searching 8191 none opn, pr, by decide +kernel⟩,
   ⟨searching 9 (some (1, 600)) (opn.setBin 9 { bin (.atStation 1 0) with fill := 91 }), pr,
     { bin (.atStation 1 0) with fill := 91 }, fun h => absurd h.2.1 (by decide +kernel), by decide +kernel⟩,
   ⟨searching 9 (some (1, 600)) (store opn 768 9), pr, bin (.stored 768), 768, by decide +kernel⟩,
   ⟨searching 9 (some (1, 600)) (store opn 767 9), pr, bin (.stored 767), 767, ⟨by decide +kernel, by decide +kernel,
     fun _ h => absurd h (List.not_mem_nil)⟩, by decide +kernel⟩,
   ⟨searching 9 (some (1, 600)) (put opn 0 1 9), pr, bin (.atStation 0 1), 0, 1, by decide +kernel⟩,
   ⟨searching 9 (some (1, 600)) (put opn 1 1 9), pr, bin (.atStation 1 1), 1, 1, ⟨by decide +kernel,
     by decide +kernel, fun _ h => absurd h (List.not_mem_nil)⟩, by decide +kernel⟩,
   ⟨searching 9 (some (1, 600)) (opn.setBin 9 (bin (.onCrane 1))), pr, bin (.onCrane 1), 1, by decide +kernel⟩,
   ⟨searching 9 (some (1, 600)) (withA (opn.setBin 9 (bin (.onCrane 1))) 1 5 { tk 1 .fetch 3 (some 9) .active with
     step := .set, dest := some (.station 0) }), pr, bin (.onCrane 1), 1, ⟨by decide +kernel, by decide +kernel, fun _
     h => absurd h (List.not_mem_nil)⟩, by decide +kernel⟩⟩

theorem witness_PassCompletionWithoutAPlace :
    (∃ (s : State) (pr : PlaceRequest), s.inReset = false ∧ s.search.state = .running ∧ s.search.request = some pr ∧
      s.search.cursor = 8192 ∧ (s.station pr.station).state ≠ .opened) ∧
    (∃ (s : State) (pr : PlaceRequest), s.inReset = false ∧ s.search.state = .running ∧ s.search.request = some pr ∧
      s.search.cursor = 8192 ∧ (s.station pr.station).state = .opened ∧ s.search.best = none) ∧
    (∃ (s : State) (pr : PlaceRequest), ∃ b cost, (∀ now, s.candidateCost pr b = some now → cost < now) ∧ s.inReset =
      false ∧ s.search.state = .running ∧ s.search.request = some pr ∧ s.search.cursor = 8192 ∧
      (s.station pr.station).state = .opened ∧ s.search.best = some (b, cost) ∧ s.search.pass < 3) ∧
    (∃ (s : State) (pr : PlaceRequest), ∃ b cost, (∀ now, s.candidateCost pr b = some now → cost < now) ∧ s.inReset =
      false ∧ s.search.state = .running ∧ s.search.request = some pr ∧ s.search.cursor = 8192 ∧
      (s.station pr.station).state = .opened ∧ s.search.best = some (b, cost) ∧ 3 ≤ s.search.pass) :=
  ⟨⟨searching 8192 none (opn.modStation 1 (fun x => { x with state := .closed })) 1, pr, by decide +kernel⟩,
   ⟨searching 8192 none (opn) 1, pr, by decide +kernel⟩,
   ⟨searching 8192 (some (9, 5)) (opn) 2, pr, 9, 5, all_some_of_none (by decide +kernel), by decide +kernel⟩,
   ⟨searching 8192 (some (9, 5)) (store opn 20 9) 3, pr, 9, 5, all_some_of_some (y := 582) (by decide +kernel)
     (by decide), by decide +kernel⟩⟩

theorem witness_AClaimIsCreatedAndPlaced_PassCompletionAppendsTheItem :
    (∃ (s : State) (pr : PlaceRequest) (b cost now id : Nat) (r : Bin) (c : Claim), (∃ before after, r.chain = before
      ++ id :: after ∧ (∃ d, s.claim? id = some d ∧ d.kind = .ret ∧ d.state.live = true ∧ d.station = pr.station ∧
      d.items.length < 8) ∧ ∀ j ∈ before, ¬ (∃ d, s.claim? j = some d ∧ d.kind = .ret ∧ d.state.live = true ∧
      d.station = pr.station ∧ d.items.length < 8)) ∧ s.inReset = false ∧ s.search.state = .running ∧ s.search.request
      = some pr ∧ s.search.cursor = 8192 ∧ (s.station pr.station).state = .opened ∧ s.search.best = some (b, cost) ∧
      s.candidateCost pr b = some now ∧ now ≤ cost ∧ s.bin? b = some r ∧ s.claim? id = some c) :=
  ⟨searching 8192 (some (9, 582)) (((store opn 20 9 [5, 3, 4]).setClaim 3 (clm .ret .queued 9 1)).setClaim 4
    (clm .ret .queued 9 1)) 1, pr, 9, 582, 582, 3, bin (.stored 20) [5, 3, 4], clm .ret .queued 9 1, ⟨[5], [4], rfl,
    ⟨clm .ret .queued 9 1, by decide +kernel⟩, by simp only [List.mem_singleton]; rintro j rfl ⟨d, hd, _⟩; exact
    nomatch (show none = some d from hd)⟩, by decide +kernel⟩

theorem witness_AClaimIsCreatedAndPlaced_PassCompletionCreatesAClaim :
    (∃ (s : State) (pr : PlaceRequest) (b cost now id : Nat) (r : Bin) (p : Pos), s.inReset = false ∧ s.settled ∧
      s.tablesWf ∧ s.search.state = .running ∧ s.search.request = some pr ∧ s.search.cursor = 8192 ∧
      (s.station pr.station).state = .opened ∧ s.search.best = some (b, cost) ∧ s.candidateCost pr b = some now ∧ now
      ≤ cost ∧ s.bin? b = some r ∧ r.chain = [] ∧ r.place = .atStation pr.station p ∧ s.claimEntry = some id ∧ (∀ k,
      (s.crane k).active = none)) :=
  ⟨searching 8192 (some (9, 0)) (put opn 1 0 9) 1, pr, 9, 0, 0, 0, bin (.atStation 1 0), 0,
    by unfold State.settled State.tablesWf; decide +kernel⟩

theorem witness_QueriesReportTheRecords_QueryPlaceReports :
    (∃ (s : State) (q : Request) (pr : PlaceRequest), s.hasRequest .c q ∧ q.kind = .queryPlace ∧ s.search.request =
      some pr ∧ s.search.state = .running) ∧
    (∃ (s : State) (q : Request) (pr : PlaceRequest), ∃ r, s.hasRequest .c q ∧ q.kind = .queryPlace ∧ s.search.request
      = some pr ∧ s.search.state = .complete ∧ s.search.result = some r) :=
  ⟨⟨req .c .queryPlace [] (searching 9 none opn), rq .queryPlace [], pr, by unfold State.hasRequest; decide +kernel⟩,
   ⟨req .c .queryPlace [] ({ opn with search := ⟨.complete, some pr, 1, 8192, none, ⟨1, 4, 40⟩, some ⟨some .full,
     none, none, none, none⟩⟩ }), rq .queryPlace [], pr, ⟨some .full, none, none, none, none⟩,
     by unfold State.hasRequest; decide +kernel⟩⟩

theorem witness_SweepStarts :
    (∃ (s : State) (q : Request), s.hasRequest .c q ∧ q.kind = .sweep ∧ (8191 < (wordAt q.body 0) ∨ 8191 <
      (wordAt q.body 2) ∨ (wordAt q.body 2) < (wordAt q.body 0))) ∧
    (∃ (s : State) (q : Request), s.hasRequest .c q ∧ q.kind = .sweep ∧ (8191 < (wordAt q.body 0) ∨ 8191 <
      (wordAt q.body 2) ∨ (wordAt q.body 2) < (wordAt q.body 0))) ∧
    (∃ (s : State) (q : Request), s.hasRequest .c q ∧ q.kind = .sweep ∧ (wordAt q.body 2) ≤ 8191 ∧ (wordAt q.body 0) ≤
      (wordAt q.body 2) ∧ s.sweep.state ≠ .none) ∧
    (∃ (s : State) (q : Request), s.hasRequest .c q ∧ q.kind = .sweep ∧ (wordAt q.body 2) ≤ 8191 ∧ (wordAt q.body 0) ≤
      (wordAt q.body 2) ∧ s.sweep.state = .none) :=
  ⟨⟨req .c .sweep [3, 0, 2, 0] (opn), rq .sweep [3, 0, 2, 0], by unfold State.hasRequest; decide +kernel⟩,
   ⟨req .c .sweep [0, 32, 0, 32] (opn), rq .sweep [0, 32, 0, 32], by unfold State.hasRequest; decide +kernel⟩,
   ⟨req .c .sweep [3, 0, 3, 0] (swept .done 5 6 2 opn), rq .sweep [3, 0, 3, 0],
     by unfold State.hasRequest; decide +kernel⟩,
   ⟨req .c .sweep [255, 31, 255, 31] (opn), rq .sweep [255, 31, 255, 31], by unfold State.hasRequest; decide +kernel⟩⟩

theorem witness_SweepVisitReportsTheBin :
    (∃ s : State, s.inReset = false ∧ s.sweep.state = .running ∧ s.bin? s.sweep.cursor = none) ∧
    (∃ s : State, ∃ r, s.inReset = false ∧ s.sweep.state = .running ∧ s.bin? s.sweep.cursor = some r) :=
  ⟨⟨swept .running 9 9 31 opn, by decide +kernel⟩,
   ⟨swept .running 10 9 31 (put opn 1 0 9), bin (.atStation 1 0), by decide +kernel⟩⟩

theorem witness_SweepIsReadAndCancelled_QuerySweepTakesEntries :
    (∃ (s : State) (q : Request), s.hasRequest .c q ∧ q.kind = .querySweep ∧ s.sweep.state = .none) ∧
    (∃ (s : State) (q : Request), s.hasRequest .c q ∧ q.kind = .querySweep ∧ s.sweep.state ≠ .none) :=
  ⟨⟨req .c .querySweep [] (opn), rq .querySweep [], by unfold State.hasRequest; decide +kernel⟩,
   ⟨req .c .querySweep [] (swept .paused 10 8 12 opn), rq .querySweep [], by unfold State.hasRequest; decide +kernel⟩⟩

theorem witness_SweepIsReadAndCancelled_CancelSweepFreesTheContext :
    (∃ (s : State) (q : Request), s.hasRequest .c q ∧ q.kind = .cancelSweep ∧ s.sweep.state = .none) ∧
    (∃ (s : State) (q : Request), s.hasRequest .c q ∧ q.kind = .cancelSweep ∧ s.sweep.state ≠ .none) :=
  ⟨⟨req .c .cancelSweep [] (opn), rq .cancelSweep [], by unfold State.hasRequest; decide +kernel⟩,
   ⟨req .c .cancelSweep [] (swept .done 10 8 12 opn), rq .cancelSweep [], by unfold State.hasRequest; decide +kernel⟩⟩

theorem witness_SetLaneKeysRekeys :
    (∃ (s : State) (q : Request), ∃ stop, (∀ i j b, b ∈ (s.lane i).contents → b ∈ (s.lane j).contents → i = j) ∧ (∀ i,
      (s.lane i).contents.Nodup) ∧ (∀ i, (wordAt q.body 0) ≤ i → i < stop → s.laneBusy i = false) ∧ s.hasRequest .c q
      ∧ q.kind = .setLaneKeys ∧ s.tablesWf ∧ (wordAt q.body 0) ≤ (wordAt q.body 2) ∧ (wordAt q.body 2) <
      s.params.laneCount ∧ (byteAt q.body 4) ≤ 7 ∧ (wordAt q.body 0) ≤ stop ∧ stop ≤ (wordAt q.body 2) + 1 ∧ (stop ≤
      (wordAt q.body 2) → s.laneBusy stop = true)) ∧
    (∃ (s : State) (q : Request), ∃ stop, (∀ i j b, b ∈ (s.lane i).contents → b ∈ (s.lane j).contents → i = j) ∧ (∀ i,
      (s.lane i).contents.Nodup) ∧ (∀ i, (wordAt q.body 0) ≤ i → i < stop → s.laneBusy i = false) ∧ s.hasRequest .c q
      ∧ q.kind = .setLaneKeys ∧ s.tablesWf ∧ (wordAt q.body 0) ≤ (wordAt q.body 2) ∧ (wordAt q.body 2) <
      s.params.laneCount ∧ (byteAt q.body 4) ≤ 7 ∧ (wordAt q.body 0) ≤ stop ∧ stop ≤ (wordAt q.body 2) + 1 ∧ (stop ≤
      (wordAt q.body 2) → s.laneBusy stop = true)) :=
  ⟨⟨req .c .setLaneKeys [2, 0, 6, 0, 7] (store opn 3 8), rq .setLaneKeys [2, 0, 6, 0, 7], 7, fun i j b => one_lane_inj
     i j b, one_lane_nodup, fun i h1 h2 => by interval_cases i <;> decide +kernel,
     by unfold State.hasRequest State.tablesWf; decide +kernel⟩,
   ⟨req .c .setLaneKeys [3, 0, 3, 0, 7] (store (withA opn 2 5 { tA with dest := some (.lane 3) }) 3 8), rq
     .setLaneKeys [3, 0, 3, 0, 7], 3, fun i j b => one_lane_inj i j b, one_lane_nodup, fun i h1 h2 => absurd h2
     (Nat.not_lt.mpr h1), by unfold State.hasRequest State.tablesWf; decide +kernel⟩⟩

theorem witness_NextStepGivesWork_NextStepRepeatsTheActiveStep :
    (∃ (s : State) (k : Crane) (q : Request) (id : Nat) (t : Task), ∃ y, (∀ j ∈ id :: (s.crane k).stack, ∀ u, s.task?
      j = some u → u.redirect = none) ∧ s.hasRequest (.k k) q ∧ q.kind = .nextStep ∧ s.settled ∧
      (s.crane k).undelivered = .none ∧ (s.crane k).active = some id ∧ s.task? id = some t ∧ t.yield = some y) ∧
    (∃ (s : State) (k : Crane) (q : Request) (id : Nat) (t : Task), ∃ i, (∀ j ∈ id :: (s.crane k).stack, ∀ u, s.task?
      j = some u → u.redirect = none) ∧ s.hasRequest (.k k) q ∧ q.kind = .nextStep ∧ s.settled ∧
      (s.crane k).undelivered = .none ∧ (s.crane k).active = some id ∧ s.task? id = some t ∧ t.yield = none ∧ t.place
      = some (.lane i)) ∧
    (∃ (s : State) (k : Crane) (q : Request) (id : Nat) (t : Task), ∃ p, (∀ j ∈ id :: (s.crane k).stack, ∀ u, s.task?
      j = some u → u.redirect = none) ∧ s.hasRequest (.k k) q ∧ q.kind = .nextStep ∧ s.settled ∧
      (s.crane k).undelivered = .none ∧ (s.crane k).active = some id ∧ s.task? id = some t ∧ t.yield = none ∧ t.place
      = some (.station p)) ∧
    (∃ (s : State) (k : Crane) (q : Request) (id : Nat) (t : Task), ∃ mm, (∀ j ∈ id :: (s.crane k).stack, ∀ u, s.task?
      j = some u → u.redirect = none) ∧ s.hasRequest (.k k) q ∧ q.kind = .nextStep ∧ s.settled ∧
      (s.crane k).undelivered = .none ∧ (s.crane k).active = some id ∧ s.task? id = some t ∧ t.yield = none ∧ t.place
      = some (.rail mm)) :=
  ⟨⟨req (.k 2) .nextStep [] (withA opn 2 5 (tA .pick (some 555))), 2, rq .nextStep [], 5, (tA .pick (some 555)), 555,
     no_redirect rfl rfl rfl, by unfold State.hasRequest State.settled; decide +kernel⟩,
   ⟨req (.k 2) .nextStep [] (withA opn 2 5 (tA .set)), 2, rq .nextStep [], 5, (tA .set), 800, no_redirect rfl rfl rfl,
     by unfold State.hasRequest State.settled; decide +kernel⟩,
   ⟨req (.k 2) .nextStep [] (withA opn 2 5 tA), 2, rq .nextStep [], 5, tA, 1, no_redirect rfl rfl rfl,
     by unfold State.hasRequest State.settled; decide +kernel⟩,
   ⟨req (.k 2) .nextStep [] (withA opn 2 5 (tR 2 .park 777)), 2, rq .nextStep [], 5, (tR 2 .park 777), 777,
     no_redirect rfl rfl rfl, by unfold State.hasRequest State.settled; decide +kernel⟩⟩

theorem witness_NextStepGivesWork_NextStepDispatches :
    (∃ (s : State) (k : Crane) (q : Request) (id : Nat) (t : Task), ∃ b r p i,
      let open' (j : Nat) : Prop := j < s.params.laneCount ∧ s.params.laneAisle j = aisleOf k ∧ (s.lane j).key = r.key
        ∧ (s.lane j).contents.length + (s.lane j).incoming < (s.lane j).depth
      let price (j : Nat) : Nat := min 65535 (((s.params.bayMm (aisleOf k) (s.params.laneBay j) -
        s.params.stationPos[k]).natAbs + 99) / 100 * s.params.weights.travel + s.params.laneLevel j *
        s.params.weights.level + ((s.lane j).contents.length + (s.lane j).incoming) * s.params.weights.depth)
      (∀ j, open' j → price i < price j ∨ (price i = price j ∧ i ≤ j)) ∧ s.hasRequest (.k k) q ∧ q.kind = .nextStep ∧
        s.settled ∧ (s.crane k).undelivered = .none ∧ (s.crane k).active = none ∧ (s.crane k).stack = [] ∧
        (s.crane k).queue = [id] ∧ s.task? id = some t ∧ t.crane = k ∧ t.state = .queued ∧ t.kind = .stow ∧
        (s.rail k).state = .ready ∧ (s.fire (aisleOf k)).state = .normal ∧ (s.crane k).standingYield = none ∧ t.bin =
        some b ∧ s.bin? b = some r ∧ r.place = .atStation k p ∧ open' i) ∧
    (∃ (s : State) (k : Crane) (q : Request) (id : Nat) (t : Task), s.hasRequest (.k k) q ∧ q.kind = .nextStep ∧
      s.settled ∧ (s.crane k).undelivered = .none ∧ (s.crane k).active = none ∧ (s.crane k).stack = [] ∧
      (s.crane k).queue = [id] ∧ s.task? id = some t ∧ t.crane = k ∧ t.state = .queued ∧ t.kind = .park ∧
      ((s.rail k).state = .ready ∨ (s.rail k).state = .unhomed) ∧ ((s.fire (aisleOf k)).state = .normal →
      (s.crane k).standingYield = none)) ∧
    (∃ (s : State) (k : Crane) (q : Request) (id : Nat) (t : Task), s.hasRequest (.k k) q ∧ q.kind = .nextStep ∧
      s.settled ∧ (s.crane k).undelivered = .none ∧ (s.crane k).active = none ∧ (s.crane k).stack = [] ∧
      (s.crane k).queue = [id] ∧ s.task? id = some t ∧ t.crane = k ∧ t.state = .queued ∧ t.kind = .park ∧
      ((s.rail k).state = .ready ∨ (s.rail k).state = .unhomed) ∧ ((s.fire (aisleOf k)).state = .normal →
      (s.crane k).standingYield = none)) ∧
    (∃ (s : State) (k : Crane) (q : Request) (id : Nat) (t : Task), s.hasRequest (.k k) q ∧ q.kind = .nextStep ∧
      s.settled ∧ (s.crane k).undelivered = .none ∧ (s.crane k).active = none ∧ (s.crane k).stack = [] ∧
      (s.crane k).queue = [id] ∧ s.task? id = some t ∧ t.crane = k ∧ t.state = .queued ∧ t.kind = .home ∧
      (s.rail k).state = .unhomed ∧ (s.fire (aisleOf k)).state = .normal ∧ (s.crane k).standingYield = none) :=
  ⟨⟨req (.k 2) .nextStep [] (rdy (withQ (tiny (put opn 2 1 9)) 2 5 (tk 2 .stow 4 (some 9))) 2 .ready), 2, rq .nextStep
     [], 5, tk 2 .stow 4 (some 9), 9, bin (.atStation 2 1), 1, 2,
     (by dsimp only; exact below_four rfl (fun _ h => h.1) (by decide +kernel)),
     by unfold State.hasRequest State.settled; dsimp only; decide +kernel⟩,
   ⟨req (.k 2) .nextStep [] (rdy (withQ (put opn 2 1 9) 2 5 (tk 2 .park 1 none)) 2 .unhomed), 2, rq .nextStep [], 5,
     tk 2 .park 1 none, by unfold State.hasRequest State.settled; decide +kernel⟩,
   ⟨req (.k 2) .nextStep [] (rdy (withQ ({ opn with fires := opn.fires.set 1 ⟨.parking, ⟨true, 5⟩, ⟨false, 0⟩⟩ }) 2 5
     (tk 2 .park 1 none)) 2 .ready), 2, rq .nextStep [], 5, tk 2 .park 1 none,
     by unfold State.hasRequest State.settled; decide +kernel⟩,
   ⟨req (.k 2) .nextStep [] (rdy (withQ (put opn 2 1 9) 2 5 (tk 2 .home 1 none)) 2 .unhomed), 2, rq .nextStep [], 5,
     tk 2 .home 1 none, by unfold State.hasRequest State.settled; decide +kernel⟩⟩

theorem witness_NextStepGivesWork_NextStepDeliversTheChange :
    (∃ (s : State) (k : Crane) (q : Request) (id : Nat) (t : Task), s.hasRequest (.k k) q ∧ q.kind = .nextStep ∧
      s.settled ∧ (s.crane k).active = some id ∧ s.task? id = some t ∧ (∀ e ∈ s.tasks.entries, e.2.state ≠ .blocked) ∧
      s.backlog = [] ∧ (∀ j ∈ id :: (s.crane k).stack, ∀ u ∈ s.task? j, u.redirect = none)) ∧
    (∃ (s : State) (k : Crane) (q : Request) (id : Nat) (t : Task), ∃ cid c, ∃ tid, s.hasRequest (.k k) q ∧ q.kind =
      .nextStep ∧ s.settled ∧ (s.crane k).active = some id ∧ s.task? id = some t ∧
      (∀ e ∈ s.tasks.entries, e.2.state ≠ .blocked) ∧ s.claim? cid = some c ∧ (s.crane k).undelivered = .push ∧ t.kind
      = .fetch ∧ s.backlog = [cid] ∧ c.station = k ∧ t.cls ≤ c.cls ∧ (s.crane k).queue = [] ∧ s.tasks.lowestFree 64 =
      some tid ∧ (∀ j ∈ id :: (s.crane k).stack, ∀ u ∈ s.task? j, u.redirect = none)) ∧
    (∃ (s : State) (k : Crane) (q : Request) (id : Nat) (t : Task), ∃ r, ∃ i, s.hasRequest (.k k) q ∧ q.kind =
      .nextStep ∧ s.settled ∧ (s.crane k).active = some id ∧ s.task? id = some t ∧
      (∀ e ∈ s.tasks.entries, e.2.state ≠ .blocked) ∧ t.redirect = some r ∧ (s.crane k).undelivered = .redirect ∧
      (s.crane k).stack = [] ∧ r.kept = true ∧ (t.step = .set ∧ t.dest = some (.lane i) ∨ t.step = .relocSet ∧ t.kind
      = .relocate ∧ t.dest = some (.lane i) ∨ t.step = .relocSet ∧ t.kind = .fetch ∧ t.unfinished.head?.map Prod.snd =
      some i) ∧ t.yield = none) :=
  ⟨⟨req (.k 2) .nextStep [] (stacked 2 [3] .parkPush (withA opn 2 5 (tR 2 .park 777))), 2, rq .nextStep [], 5, tR 2
     .park 777, by unfold State.hasRequest State.settled; decide +kernel⟩,
   ⟨req (.k 1) .nextStep [] (stacked 1 [] .push (withA { (opn.setClaim 4 (clm .lend .queued 9 1)) with backlog := [4]
     } 1 5 { tP with cls := 2 })), 1, rq .nextStep [], 5, { tP with cls := 2 }, 4, clm .lend .queued 9 1, 0,
     by unfold State.hasRequest State.settled; decide +kernel⟩,
   ⟨req (.k 2) .nextStep [] (stacked 2 [] .redirect (withA opn 2 5 (tB true))), 2, rq .nextStep [], 5, (tB true),
     ⟨some 4, 0, true⟩, 800, by unfold State.hasRequest State.settled; decide +kernel⟩⟩

theorem witness_NextStepActivatesAFetch :
    (∃ (s : State) (k : Crane) (q : Request) (id b src cid : Nat) (t : Task) (r : Bin) (c : Claim) (p : Pos)
      (rest : List Nat), s.hasRequest (.k k) q ∧ q.kind = .nextStep ∧ s.settled ∧ s.backlog = [] ∧
      (s.crane k).undelivered = .none ∧ (s.crane k).active = none ∧ (s.crane k).stack = [] ∧ (s.crane k).standingYield
      = none ∧ (s.crane k).queue = [id] ∧ (s.rail k).state = .ready ∧ (s.fire (aisleOf k)).state = .normal ∧ s.task?
      id = some t ∧ t.crane = k ∧ t.state = .queued ∧ t.kind = .fetch ∧ t.bin = some b ∧ t.claim = some cid ∧ s.claim?
      cid = some c ∧ c.state = .queued ∧ s.bin? b = some r ∧ r.place = .stored src ∧ (s.lane src).incoming = 0 ∧
      s.isFetchSource src = false ∧ (s.station k).freePos = some p ∧ (s.lane src).contents = b :: rest) ∧
    (∃ (s : State) (k : Crane) (q : Request) (id b src cid : Nat) (t : Task) (r : Bin) (c : Claim) (p : Pos)
      (rest : List Nat), ∃ x i y,
      let open' (j : Nat) : Prop := j < s.params.laneCount ∧ s.params.laneAisle j = s.params.laneAisle src ∧ j ≠ src ∧
        (s.lane j).key = y.key ∧ (s.lane j).contents.length + (s.lane j).incoming < (s.lane j).depth
      let price (j : Nat) : Nat := min 65535 (((s.params.lanePos j - s.params.lanePos src).natAbs + 99) / 100 *
        s.params.weights.travel + ((s.params.laneLevel j : Int) - (s.params.laneLevel src : Int)).natAbs *
        s.params.weights.level + ((s.lane j).contents.length + (s.lane j).incoming) * s.params.weights.depth)
      (∀ j, open' j → price i < price j ∨ (price i = price j ∧ i ≤ j)) ∧ s.hasRequest (.k k) q ∧ q.kind = .nextStep ∧
        s.settled ∧ s.backlog = [] ∧ (s.crane k).undelivered = .none ∧ (s.crane k).active = none ∧ (s.crane k).stack =
        [] ∧ (s.crane k).standingYield = none ∧ (s.crane k).queue = [id] ∧ (s.rail k).state = .ready ∧ (s.fire
        (aisleOf k)).state = .normal ∧ s.task? id = some t ∧ t.crane = k ∧ t.state = .queued ∧ t.kind = .fetch ∧ t.bin
        = some b ∧ t.claim = some cid ∧ s.claim? cid = some c ∧ c.state = .queued ∧ s.bin? b = some r ∧ r.place =
        .stored src ∧ (s.lane src).incoming = 0 ∧ s.isFetchSource src = false ∧ (s.station k).freePos = some p ∧
        (s.lane src).contents = x :: b :: rest ∧ x ≠ b ∧ s.bin? x = some y ∧ open' i) :=
  ⟨⟨req (.k 1) .nextStep [] (rdy (withQ ((store opn 20 9 [4]).setClaim 4 cF) 1 5 tF) 1), 1, rq .nextStep [], 5, 9, 20,
     4, tF, bin (.stored 20) [4], cF, 0, [], by unfold State.hasRequest State.settled; decide +kernel⟩,
   ⟨req (.k 1) .nextStep [] (rdy (withQ ((tiny (store (store opn 0 8) 0 9 [4])).setClaim 4 cF) 1 5 tF) 1), 1, rq
     .nextStep [], 5, 9, 0, 4, tF, bin (.stored 0) [4], cF, 0, [], 8, 1, bin (.stored 0),
     (by dsimp only; exact below_four rfl (fun _ h => h.1) (by decide +kernel)),
     by unfold State.hasRequest State.settled; dsimp only; decide +kernel⟩⟩

theorem witness_PickedTakesTheBin_PickedTakesTheBinFromItsLane :
    (∃ (s : State) (k : Crane) (q : Request) (id b i : Nat) (t : Task) (r : Bin), s.hasRequest (.k k) q ∧ q.kind =
      .picked ∧ s.settled ∧ wordAt q.body 0 = b ∧ ((s.crane k).undelivered = .none ∨ (s.crane k).undelivered =
      .redirect) ∧ (s.crane k).active = some id ∧ s.task? id = some t ∧ (t.step = .relocPick ∨ t.step = .pick) ∧
      s.fork k = none ∧ t.stepBin = some b ∧ t.source = some (.lane i) ∧ (s.lane i).contents.head? = some b ∧ s.bin? b
      = some r ∧ r.place = .stored i ∧ (s.channel k).pick.valid = true ∧ (((s.channel k).pick.pos - s.params.bayMm
      (s.params.laneAisle i) (s.params.laneBay i)).natAbs : Int) ≤ s.params.tPick ∧
      (∀ e ∈ s.tasks.entries, e.2.state ≠ .blocked)) ∧
    (∃ (s : State) (k : Crane) (q : Request) (id b i : Nat) (t : Task) (r : Bin), s.hasRequest (.k k) q ∧ q.kind =
      .picked ∧ s.settled ∧ wordAt q.body 0 = b ∧ ((s.crane k).undelivered = .none ∨ (s.crane k).undelivered =
      .redirect) ∧ (s.crane k).active = some id ∧ s.task? id = some t ∧ (t.step = .relocPick ∨ t.step = .pick) ∧
      s.fork k = none ∧ t.stepBin = some b ∧ t.source = some (.lane i) ∧ (s.lane i).contents.head? = some b ∧ s.bin? b
      = some r ∧ r.place = .stored i ∧ (s.channel k).pick.valid = true ∧ (((s.channel k).pick.pos - s.params.bayMm
      (s.params.laneAisle i) (s.params.laneBay i)).natAbs : Int) ≤ s.params.tPick ∧
      (∀ e ∈ s.tasks.entries, e.2.state ≠ .blocked)) :=
  ⟨⟨req (.k 1) .picked [9, 0] (cap (withA (store opn 20 9 [4]) 1 5 tP) 1 5430), 1, rq .picked [9, 0], 5, 9, 20, tP,
     bin (.stored 20) [4], by unfold State.hasRequest State.settled; decide +kernel⟩,
   ⟨req (.k 1) .picked [8, 0] (cap (withA (store (store opn 20 8) 20 9 [4]) 1 5 (tP .relocPick 1 [(8, 21)])) 1 5370),
     1, rq .picked [8, 0], 5, 8, 20, (tP .relocPick 1 [(8, 21)]), bin (.stored 20),
     by unfold State.hasRequest State.settled; decide +kernel⟩⟩

theorem witness_PickedTakesTheBin_PickedTakesTheBinFromItsStation :
    (∃ (s : State) (k : Crane) (q : Request) (id b : Nat) (p : Pos) (t : Task) (r : Bin), s.hasRequest (.k k) q ∧
      q.kind = .picked ∧ s.settled ∧ wordAt q.body 0 = b ∧ ((s.crane k).undelivered = .none ∨ (s.crane k).undelivered
      = .redirect) ∧ (s.crane k).active = some id ∧ s.task? id = some t ∧ t.step = .pick ∧ s.fork k = none ∧ t.bin =
      some b ∧ t.source = some (.station p) ∧ (s.station k).bins[p] = some b ∧ s.bin? b = some r ∧ r.place =
      .atStation k p ∧ (s.channel k).pick.valid = true ∧ (((s.channel k).pick.pos - s.params.stationPos[k]).natAbs :
      Int) ≤ s.params.tPick ∧ (∀ e ∈ s.tasks.entries, e.2.state ≠ .blocked)) :=
  ⟨req (.k 2) .picked [9, 0] (cap (withA (put opn 2 1 9) 2 5 tA) 2 1970), 2, rq .picked [9, 0], 5, 9, 1, tA, bin
    (.atStation 2 1), by unfold State.hasRequest State.settled; decide +kernel⟩

theorem witness_PickedTakesTheBin_PickedIsJudgedUnderAPush :
    (∃ (s : State) (k : Crane) (q : Request) (new old b i : Nat) (t o : Task) (r : Bin) (rest : List Nat),
      s.hasRequest (.k k) q ∧ q.kind = .picked ∧ s.settled ∧ wordAt q.body 0 = b ∧ s.backlog = [] ∧ (s.crane k).active
      = some new ∧ (s.crane k).stack = old :: rest ∧ (s.crane k).queue = [] ∧ new ≠ old ∧ s.task? new = some t ∧
      s.task? old = some o ∧ t.crane = k ∧ o.crane = k ∧ t.cls < o.cls ∧ t.state = .active ∧ t.redirect = none ∧
      (∀ c ∈ o.claim, ∀ x ∈ s.claim? c, x.state = .fetching) ∧ (∀ e ∈ s.tasks.entries, e.2.state ≠ .blocked) ∧
      (o.step = .relocPick ∨ o.step = .pick) ∧ o.yield = none ∧ s.fork k = none ∧ o.stepBin = some b ∧ o.source = some
      (.lane i) ∧ (s.lane i).contents.head? = some b ∧ s.bin? b = some r ∧ r.place = .stored i ∧
      (s.channel k).pick.valid = true ∧ (((s.channel k).pick.pos - s.params.bayMm (s.params.laneAisle i)
      (s.params.laneBay i)).natAbs : Int) ≤ s.params.tPick ∧ (s.crane k).undelivered = .push ∧ (s.fire
      (aisleOf k)).state = .normal ∧ (t.kind = .fetch ∨ t.kind = .stow)) ∧
    (∃ (s : State) (k : Crane) (q : Request) (new old b i : Nat) (t o : Task) (r : Bin) (rest : List Nat),
      s.hasRequest (.k k) q ∧ q.kind = .picked ∧ s.settled ∧ wordAt q.body 0 = b ∧ s.backlog = [] ∧ (s.crane k).active
      = some new ∧ (s.crane k).stack = old :: rest ∧ (s.crane k).queue = [] ∧ new ≠ old ∧ s.task? new = some t ∧
      s.task? old = some o ∧ t.crane = k ∧ o.crane = k ∧ t.cls < o.cls ∧ t.state = .active ∧ t.redirect = none ∧
      (∀ c ∈ o.claim, ∀ x ∈ s.claim? c, x.state = .fetching) ∧ (∀ e ∈ s.tasks.entries, e.2.state ≠ .blocked) ∧
      (o.step = .relocPick ∨ o.step = .pick) ∧ o.yield = none ∧ s.fork k = none ∧ o.stepBin = some b ∧ o.source = some
      (.lane i) ∧ (s.lane i).contents.head? = some b ∧ s.bin? b = some r ∧ r.place = .stored i ∧
      (s.channel k).pick.valid = true ∧ (((s.channel k).pick.pos - s.params.bayMm (s.params.laneAisle i)
      (s.params.laneBay i)).natAbs : Int) ≤ s.params.tPick ∧ (s.crane k).undelivered = .push ∧ (s.fire
      (aisleOf k)).state = .normal ∧ (t.kind = .fetch ∨ t.kind = .stow)) ∧
    (∃ (s : State) (k : Crane) (q : Request) (new old b i : Nat) (t o : Task) (r : Bin) (rest : List Nat), s.workLaws
      ∧ s.hasRequest (.k k) q ∧ q.kind = .picked ∧ s.settled ∧ wordAt q.body 0 = b ∧ s.backlog = [] ∧
      (s.crane k).active = some new ∧ (s.crane k).stack = old :: rest ∧ (s.crane k).queue = [] ∧ new ≠ old ∧ s.task?
      new = some t ∧ s.task? old = some o ∧ t.crane = k ∧ o.crane = k ∧ t.cls < o.cls ∧ t.state = .active ∧ t.redirect
      = none ∧ (∀ c ∈ o.claim, ∀ x ∈ s.claim? c, x.state = .fetching) ∧ (∀ e ∈ s.tasks.entries, e.2.state ≠ .blocked)
      ∧ (o.step = .relocPick ∨ o.step = .pick) ∧ o.yield = none ∧ s.fork k = none ∧ o.stepBin = some b ∧ o.source =
      some (.lane i) ∧ (s.lane i).contents.head? = some b ∧ s.bin? b = some r ∧ r.place = .stored i ∧
      (s.channel k).pick.valid = true ∧ (((s.channel k).pick.pos - s.params.bayMm (s.params.laneAisle i)
      (s.params.laneBay i)).natAbs : Int) ≤ s.params.tPick ∧ (s.crane k).undelivered = .push ∧ (s.fire
      (aisleOf k)).state = .normal ∧ (t.kind = .fetch ∨ t.kind = .stow) ∧ o.kind = .fetch ∧ t.kind = .fetch) ∧
    (∃ (s : State) (k : Crane) (q : Request) (new old b i : Nat) (t o : Task) (r : Bin) (rest : List Nat),
      s.hasRequest (.k k) q ∧ q.kind = .picked ∧ s.settled ∧ wordAt q.body 0 = b ∧ s.backlog = [] ∧ (s.crane k).active
      = some new ∧ (s.crane k).stack = old :: rest ∧ (s.crane k).queue = [] ∧ new ≠ old ∧ s.task? new = some t ∧
      s.task? old = some o ∧ t.crane = k ∧ o.crane = k ∧ t.cls < o.cls ∧ t.state = .active ∧ t.redirect = none ∧
      (∀ c ∈ o.claim, ∀ x ∈ s.claim? c, x.state = .fetching) ∧ (∀ e ∈ s.tasks.entries, e.2.state ≠ .blocked) ∧
      (o.step = .relocPick ∨ o.step = .pick) ∧ o.yield = none ∧ s.fork k = none ∧ o.stepBin = some b ∧ o.source = some
      (.lane i) ∧ (s.lane i).contents.head? = some b ∧ s.bin? b = some r ∧ r.place = .stored i ∧
      (s.channel k).pick.valid = true ∧ (((s.channel k).pick.pos - s.params.bayMm (s.params.laneAisle i)
      (s.params.laneBay i)).natAbs : Int) ≤ s.params.tPick ∧ (s.crane k).undelivered = .parkPush) :=
  ⟨⟨req (.k 1) .picked [9, 0] (cap (stacked 1 [6] .push (also 6 oR (withA (store opn 20 9) 1 5 nS))) 1 5400), 1, rq
     .picked [9, 0], 5, 6, 9, 20, nS, oR, bin (.stored 20), [],
     by unfold State.hasRequest State.settled; decide +kernel⟩,
   ⟨req (.k 1) .picked [9, 0] (cap (stacked 1 [6] .push (also 6 oD (withA (store opn 20 9) 1 5 nS))) 1 5400), 1, rq
     .picked [9, 0], 5, 6, 9, 20, nS, oD, bin (.stored 20), [],
     by unfold State.hasRequest State.settled; decide +kernel⟩,
   ⟨req (.k 1) .picked [9, 0] reversal, 1, rq .picked [9, 0], 5, 6, 9, 20, rT, rO, bin (.stored 20) [4], [],
     reversal_workLaws, by unfold State.hasRequest State.settled; decide +kernel⟩,
   ⟨req (.k 1) .picked [9, 0] (cap (stacked 1 [6] .parkPush (also 6 oR (withA (store opn 20 9) 1 5 (tR 1 .park 777))))
     1 5400), 1, rq .picked [9, 0], 5, 6, 9, 20, (tR 1 .park 777), oR, bin (.stored 20), [],
     by unfold State.hasRequest State.settled; decide +kernel⟩⟩

theorem witness_PickedTakesTheBin_PickedAtAStationUnderAPush :
    (∃ (s : State) (k : Crane) (q : Request) (new old b : Nat) (p : Pos) (t o : Task) (r : Bin) (rest : List Nat),
      s.hasRequest (.k k) q ∧ q.kind = .picked ∧ s.settled ∧ wordAt q.body 0 = b ∧ s.backlog = [] ∧ (s.crane k).active
      = some new ∧ (s.crane k).stack = old :: rest ∧ (s.crane k).queue = [] ∧ new ≠ old ∧ s.task? new = some t ∧
      s.task? old = some o ∧ t.crane = k ∧ o.crane = k ∧ t.cls < o.cls ∧ t.state = .active ∧ t.redirect = none ∧
      (∀ e ∈ s.tasks.entries, e.2.state ≠ .blocked) ∧ o.kind = .stow ∧ o.step = .pick ∧ o.yield = none ∧ s.fork k =
      none ∧ o.bin = some b ∧ o.source = some (.station p) ∧ (s.station k).bins[p] = some b ∧ s.bin? b = some r ∧
      r.place = .atStation k p ∧ (s.channel k).pick.valid = true ∧ (((s.channel k).pick.pos -
      s.params.stationPos[k]).natAbs : Int) ≤ s.params.tPick ∧ (s.crane k).undelivered = .push ∧ (s.fire
      (aisleOf k)).state = .normal ∧ (t.kind = .fetch ∨ t.kind = .stow)) ∧
    (∃ (s : State) (k : Crane) (q : Request) (new old b : Nat) (p : Pos) (t o : Task) (r : Bin) (rest : List Nat),
      s.hasRequest (.k k) q ∧ q.kind = .picked ∧ s.settled ∧ wordAt q.body 0 = b ∧ s.backlog = [] ∧ (s.crane k).active
      = some new ∧ (s.crane k).stack = old :: rest ∧ (s.crane k).queue = [] ∧ new ≠ old ∧ s.task? new = some t ∧
      s.task? old = some o ∧ t.crane = k ∧ o.crane = k ∧ t.cls < o.cls ∧ t.state = .active ∧ t.redirect = none ∧
      (∀ e ∈ s.tasks.entries, e.2.state ≠ .blocked) ∧ o.kind = .stow ∧ o.step = .pick ∧ o.yield = none ∧ s.fork k =
      none ∧ o.bin = some b ∧ o.source = some (.station p) ∧ (s.station k).bins[p] = some b ∧ s.bin? b = some r ∧
      r.place = .atStation k p ∧ (s.channel k).pick.valid = true ∧ (((s.channel k).pick.pos -
      s.params.stationPos[k]).natAbs : Int) ≤ s.params.tPick ∧ (s.crane k).undelivered = .parkPush) :=
  ⟨⟨req (.k 2) .picked [9, 0] (cap (stacked 2 [6] .push (also 6 oT (withA (put opn 2 1 9) 2 5 tG))) 2 1970), 2, rq
     .picked [9, 0], 5, 6, 9, 1, tG, oT, bin (.atStation 2 1), [],
     by unfold State.hasRequest State.settled; decide +kernel⟩,
   ⟨req (.k 2) .picked [9, 0] (cap (stacked 2 [6] .parkPush (also 6 oT (withA (put opn 2 1 9) 2 5 (tR 2 .park 777))))
     2 1970), 2, rq .picked [9, 0], 5, 6, 9, 1, (tR 2 .park 777), oT, bin (.atStation 2 1), [],
     by unfold State.hasRequest State.settled; decide +kernel⟩⟩

theorem witness_SetDownPlacesTheBin_SetDownOfARedirectedStep :
    (∃ (s : State) (k : Crane) (q : Request) (id b i cid : Nat) (p : Pos) (kept : Bool) (t : Task) (r : Bin)
      (c : Claim) (chain : List Nat), s.hasRequest (.k k) q ∧ q.kind = .setDown ∧ s.settled ∧ ((s.crane k).undelivered
      = .none ∨ (s.crane k).undelivered = .redirect) ∧ (s.crane k).active = some id ∧ (s.crane k).queue = [] ∧
      (s.crane k).stack = [] ∧ (∀ e ∈ s.tasks.entries, e.2.state ≠ .blocked) ∧ s.task? id = some t ∧ t.crane = k ∧
      t.redirect = some ⟨some cid, p, kept⟩ ∧ s.fork k = some b ∧ s.bin? b = some r ∧ r.chain = cid :: chain ∧
      s.claim? cid = some c ∧ c.bin = b ∧ c.station = k ∧ c.task = some id ∧ (t.kind = .stow ∧ t.step = .set ∧ t.bin =
      some b ∧ t.dest = some (.lane i) ∨ t.kind = .relocate ∧ t.step = .relocSet ∧ t.bin = some b ∧ t.dest = some
      (.lane i) ∨ t.kind = .fetch ∧ t.step = .relocSet ∧ t.unfinished.head? = some (b, i)) ∧
      (s.channel k).setDown.valid = true ∧ ((((s.channel k).setDown.pos - (s.params.stationPos[k])).natAbs : Int) ≤
      s.params.tPick)) ∧
    (∃ (s : State) (k : Crane) (q : Request) (id b i cid : Nat) (p : Pos) (kept : Bool) (t : Task) (r : Bin)
      (c : Claim) (chain : List Nat), ∃ tid, s.hasRequest (.k k) q ∧ q.kind = .setDown ∧ s.settled ∧
      ((s.crane k).undelivered = .none ∨ (s.crane k).undelivered = .redirect) ∧ (s.crane k).active = some id ∧
      (s.crane k).queue = [] ∧ (s.crane k).stack = [] ∧ (∀ e ∈ s.tasks.entries, e.2.state ≠ .blocked) ∧ s.task? id =
      some t ∧ t.crane = k ∧ t.redirect = some ⟨some cid, p, kept⟩ ∧ s.fork k = some b ∧ s.bin? b = some r ∧ r.chain =
      cid :: chain ∧ s.claim? cid = some c ∧ c.bin = b ∧ c.station = k ∧ c.task = some id ∧ (t.kind = .stow ∧ t.step =
      .set ∧ t.bin = some b ∧ t.dest = some (.lane i) ∨ t.kind = .relocate ∧ t.step = .relocSet ∧ t.bin = some b ∧
      t.dest = some (.lane i) ∨ t.kind = .fetch ∧ t.step = .relocSet ∧ t.unfinished.head? = some (b, i)) ∧
      (s.channel k).setDown.valid = true ∧ (¬ ((((s.channel k).setDown.pos - (s.params.stationPos[k])).natAbs : Int) ≤
      s.params.tPick)) ∧ ((((s.channel k).setDown.pos - (s.params.bayMm (s.params.laneAisle i)
      (s.params.laneBay i))).natAbs : Int) ≤ s.params.tPick) ∧ kept = true ∧ s.backlog = [] ∧ s.spareFetch b k = none
      ∧ s.tasks.lowestFree 64 = some tid ∧ t.cls ≤ c.cls) ∧
    (∃ (s : State) (k : Crane) (q : Request) (id b i cid : Nat) (p : Pos) (kept : Bool) (t : Task) (r : Bin)
      (c : Claim) (chain : List Nat), s.hasRequest (.k k) q ∧ q.kind = .setDown ∧ s.settled ∧ ((s.crane k).undelivered
      = .none ∨ (s.crane k).undelivered = .redirect) ∧ (s.crane k).active = some id ∧ (s.crane k).queue = [] ∧
      (s.crane k).stack = [] ∧ (∀ e ∈ s.tasks.entries, e.2.state ≠ .blocked) ∧ s.task? id = some t ∧ t.crane = k ∧
      t.redirect = some ⟨some cid, p, kept⟩ ∧ s.fork k = some b ∧ s.bin? b = some r ∧ r.chain = cid :: chain ∧
      s.claim? cid = some c ∧ c.bin = b ∧ c.station = k ∧ c.task = some id ∧ (t.kind = .stow ∧ t.step = .set ∧ t.bin =
      some b ∧ t.dest = some (.lane i) ∨ t.kind = .relocate ∧ t.step = .relocSet ∧ t.bin = some b ∧ t.dest = some
      (.lane i) ∨ t.kind = .fetch ∧ t.step = .relocSet ∧ t.unfinished.head? = some (b, i)) ∧
      (s.channel k).setDown.valid = true ∧ (¬ ((((s.channel k).setDown.pos - (s.params.stationPos[k])).natAbs : Int) ≤
      s.params.tPick)) ∧ (kept = false ∨ ¬ ((((s.channel k).setDown.pos - (s.params.bayMm (s.params.laneAisle i)
      (s.params.laneBay i))).natAbs : Int) ≤ s.params.tPick)) ∧ (s.rail k).state = .ready) :=
  ⟨⟨req (.k 2) .setDown [] (cap (rdy (withA ((opn.setBin 9 (bin (.onCrane 2) [4])).setClaim 4 cB) 2 5 (tB true)) 2) 2
     1971), 2, rq .setDown [], 5, 9, 800, 4, 0, true, (tB true), bin (.onCrane 2) [4], cB, [],
     by unfold State.hasRequest State.settled; decide +kernel⟩,
   ⟨req (.k 2) .setDown [] (cap (rdy (withA ((opn.setBin 9 (bin (.onCrane 2) [4])).setClaim 4 cB) 2 5 (tB true 3)) 2)
     2 7770), 2, rq .setDown [], 5, 9, 800, 4, 0, true, (tB true 3), bin (.onCrane 2) [4], cB, [], 0,
     by unfold State.hasRequest State.settled; decide +kernel⟩,
   ⟨req (.k 2) .setDown [] (cap (rdy (withA ((opn.setBin 9 (bin (.onCrane 2) [4])).setClaim 4 cB) 2 5 (tB false)) 2) 2
     7770), 2, rq .setDown [], 5, 9, 800, 4, 0, false, (tB false), bin (.onCrane 2) [4], cB, [],
     by unfold State.hasRequest State.settled; decide +kernel⟩⟩

theorem witness_SetDownPlacesTheBin_SetDownUnderAParkPush :
    (∃ (s : State) (k : Crane) (q : Request) (new old b i : Nat) (t o : Task) (r : Bin) (rest : List Nat),
      s.hasRequest (.k k) q ∧ q.kind = .setDown ∧ s.settled ∧ (s.crane k).undelivered = .parkPush ∧ (s.crane k).active
      = some new ∧ s.task? new = some t ∧ (s.crane k).stack = old :: rest ∧ new ≠ old ∧ old ∉ rest ∧ (s.crane k).queue
      = [] ∧ (∀ e ∈ s.tasks.entries, e.2.state ≠ .blocked) ∧ s.task? old = some o ∧ o.crane = k ∧ o.kind = .stow ∧
      o.step = .set ∧ o.redirect = none ∧ o.bin = some b ∧ o.dest = some (.lane i) ∧ s.fork k = some b ∧ s.bin? b =
      some r ∧ r.chain = [] ∧ (s.channel k).setDown.valid = true ∧ (((s.channel k).setDown.pos - s.params.bayMm
      (s.params.laneAisle i) (s.params.laneBay i)).natAbs : Int) ≤ s.params.tPick) :=
  ⟨req (.k 2) .setDown [] (cap (stacked 2 [6] .parkPush (also 6 tO (withA (opn.setBin 9 (bin (.onCrane 2))) 2 5
    (tR 2 .park 777)))) 2 7770), 2, rq .setDown [], 5, 6, 9, 800, tR 2 .park 777, tO, bin (.onCrane 2), [],
    by unfold State.hasRequest State.settled; decide +kernel⟩

theorem witness_SetDownPlacesTheBin_SetDownStoresTheBin :
    (∃ (s : State) (k : Crane) (q : Request) (id b i : Nat) (t : Task) (r : Bin), s.hasRequest (.k k) q ∧ q.kind =
      .setDown ∧ s.settled ∧ ((s.crane k).undelivered = .none ∨ (s.crane k).undelivered = .redirect) ∧
      (s.crane k).active = some id ∧ s.task? id = some t ∧ (t.step = .relocSet ∨ t.step = .set) ∧ s.fork k = some b ∧
      t.stepBin = some b ∧ t.redirect = none ∧ t.place = some (.lane i) ∧ s.bin? b = some r ∧
      (s.channel k).setDown.valid = true ∧ (((s.channel k).setDown.pos - s.params.bayMm (s.params.laneAisle i)
      (s.params.laneBay i)).natAbs : Int) ≤ s.params.tPick ∧ (∀ e ∈ s.tasks.entries, e.2.state ≠ .blocked) ∧
      (s.crane k).queue = [] ∧ (s.crane k).stack = [] ∧ t.crane = k ∧ r.chain = [] ∧ (¬
      (t.kind = .fetch ∧ t.step = .relocSet))) ∧
    (∃ (s : State) (k : Crane) (q : Request) (id b i : Nat) (t : Task) (r : Bin), s.hasRequest (.k k) q ∧ q.kind =
      .setDown ∧ s.settled ∧ ((s.crane k).undelivered = .none ∨ (s.crane k).undelivered = .redirect) ∧
      (s.crane k).active = some id ∧ s.task? id = some t ∧ (t.step = .relocSet ∨ t.step = .set) ∧ s.fork k = some b ∧
      t.stepBin = some b ∧ t.redirect = none ∧ t.place = some (.lane i) ∧ s.bin? b = some r ∧
      (s.channel k).setDown.valid = true ∧ (((s.channel k).setDown.pos - s.params.bayMm (s.params.laneAisle i)
      (s.params.laneBay i)).natAbs : Int) ≤ s.params.tPick ∧ (∀ e ∈ s.tasks.entries, e.2.state ≠ .blocked) ∧
      (s.crane k).queue = [] ∧ (s.crane k).stack = [] ∧ t.crane = k ∧ r.chain = [] ∧
      (t.kind = .fetch ∧ t.step = .relocSet)) :=
  ⟨⟨req (.k 2) .setDown [] (cap (withA (opn.setBin 9 (bin (.onCrane 2))) 2 5 (tA .set)) 2 7770), 2, rq .setDown [], 5,
     9, 800, (tA .set), bin (.onCrane 2), by unfold State.hasRequest State.settled; decide +kernel⟩,
   ⟨req (.k 1) .setDown [] (cap (withA (opn.setBin 8 (bin (.onCrane 1))) 1 5 (tP .relocSet 2 [(8, 21)])) 1 5400), 1,
     rq .setDown [], 5, 8, 21, (tP .relocSet 2 [(8, 21)]), bin (.onCrane 1),
     by unfold State.hasRequest State.settled; decide +kernel⟩⟩

theorem witness_SetDownPlacesTheBin_SetDownPresentsTheClaim :
    (∃ (s : State) (k : Crane) (q : Request) (id b cid : Nat) (p : Pos) (t : Task) (r : Bin) (c : Claim), s.hasRequest
      (.k k) q ∧ q.kind = .setDown ∧ s.settled ∧ (s.crane k).undelivered = .none ∧ (s.crane k).active = some id ∧
      (s.crane k).queue = [] ∧ (s.crane k).stack = [] ∧ s.task? id = some t ∧ t.crane = k ∧ t.kind = .fetch ∧ t.step =
      .set ∧ s.fork k = some b ∧ t.bin = some b ∧ t.redirect = none ∧ t.dest = some (.station p) ∧ t.claim = some cid
      ∧ s.claim? cid = some c ∧ c.station = k ∧ s.bin? b = some r ∧ (s.channel k).setDown.valid = true ∧
      (((s.channel k).setDown.pos - s.params.stationPos[k]).natAbs : Int) ≤ s.params.tPick) :=
  ⟨req (.k 1) .setDown [] (cap (withA ((opn.setBin 9 (bin (.onCrane 1) [4])).setClaim 4 (cF .fetching)) 1 5
    (tP .set 0)) 1 62030), 1, rq .setDown [], 5, 9, 4, 0, (tP .set 0), bin (.onCrane 1) [4], (cF .fetching),
    by unfold State.hasRequest State.settled; decide +kernel⟩

theorem witness_AReportWithoutATaskStopsTheCrane :
    (∃ (s : State) (k : Crane) (q : Request), s.hasRequest (.k k) q ∧ s.settled ∧ (s.rail k).state = .ready ∧
      ((s.crane k).active = none ∧ ¬ ((s.crane k).undelivered = .push ∨ (s.crane k).undelivered = .parkPush) ∨
      (s.crane k).undelivered = .removed ∨ (s.crane k).stack = [] ∧ ((s.crane k).undelivered = .push ∨
      (s.crane k).undelivered = .parkPush) ∨ (s.crane k).undelivered = .push ∧ q.kind = .picked ∧ (s.fire
      (aisleOf k)).state ≠ .normal) ∧ q.kind = .picked) ∧
    (∃ (s : State) (k : Crane) (q : Request), s.hasRequest (.k k) q ∧ s.settled ∧ (s.rail k).state = .ready ∧
      ((s.crane k).active = none ∧ ¬ ((s.crane k).undelivered = .push ∨ (s.crane k).undelivered = .parkPush) ∨
      (s.crane k).undelivered = .removed ∨ (s.crane k).stack = [] ∧ ((s.crane k).undelivered = .push ∨
      (s.crane k).undelivered = .parkPush) ∨ (s.crane k).undelivered = .push ∧ q.kind = .picked ∧ (s.fire
      (aisleOf k)).state ≠ .normal) ∧ q.kind = .setDown) ∧
    (∃ (s : State) (k : Crane) (q : Request), s.hasRequest (.k k) q ∧ s.settled ∧ (s.rail k).state = .ready ∧
      ((s.crane k).active = none ∧ ¬ ((s.crane k).undelivered = .push ∨ (s.crane k).undelivered = .parkPush) ∨
      (s.crane k).undelivered = .removed ∨ (s.crane k).stack = [] ∧ ((s.crane k).undelivered = .push ∨
      (s.crane k).undelivered = .parkPush) ∨ (s.crane k).undelivered = .push ∧ q.kind = .picked ∧ (s.fire
      (aisleOf k)).state ≠ .normal) ∧ q.kind = .picked ∧ (s.crane k).undelivered = .removed) ∧
    (∃ (s : State) (k : Crane) (q : Request), s.hasRequest (.k k) q ∧ s.settled ∧ (s.rail k).state = .ready ∧
      ((s.crane k).active = none ∧ ¬ ((s.crane k).undelivered = .push ∨ (s.crane k).undelivered = .parkPush) ∨
      (s.crane k).undelivered = .removed ∨ (s.crane k).stack = [] ∧ ((s.crane k).undelivered = .push ∨
      (s.crane k).undelivered = .parkPush) ∨ (s.crane k).undelivered = .push ∧ q.kind = .picked ∧ (s.fire
      (aisleOf k)).state ≠ .normal) ∧ q.kind = .setDown ∧ (s.crane k).undelivered = .push) :=
  ⟨⟨req (.k 3) .picked [9, 0] (rdy opn 3), 3, rq .picked [9, 0],
     by unfold State.hasRequest State.settled; decide +kernel⟩,
   ⟨req (.k 3) .setDown [] (rdy opn 3), 3, rq .setDown [], by unfold State.hasRequest State.settled; decide +kernel⟩,
   ⟨req (.k 3) .picked [9, 0] (stacked 3 [] .removed (rdy opn 3)), 3, rq .picked [9, 0],
     by unfold State.hasRequest State.settled; decide +kernel⟩,
   ⟨req (.k 3) .setDown [] (stacked 3 [] .push (rdy opn 3)), 3, rq .setDown [],
     by unfold State.hasRequest State.settled; decide +kernel⟩⟩

theorem witness_RailRequestsRefused_GrantRefused :
    (∃ (s : State) (k : Crane) (q : Request), s.hasRequest (.k k) q ∧ q.kind = .grant ∧ ((wordAt q.body 4) = 0 ∨ 8191
      < (wordAt q.body 4))) ∧
    (∃ (s : State) (k : Crane) (q : Request), s.hasRequest (.k k) q ∧ q.kind = .grant ∧ 1 ≤ (wordAt q.body 4) ∧
      (wordAt q.body 4) ≤ 8191 ∧ ((s.rail k).state = .offline ∨ (s.rail k).state = .lost ∨ (s.rail k).state =
      .stopped)) ∧
    (∃ (s : State) (k : Crane) (q : Request), ((s.rail k).state = .parked ∨ (s.rail k).fireHold = true ∨ (s.fire
      (aisleOf k)).state = .sealed ∨ (s.fire (aisleOf k)).state = .reopening ∨ (((s.fire (aisleOf k)).state = .parking
      ∨ (s.fire (aisleOf k)).state = .closing) ∧ ∀ id t, (s.crane k).active = some id → s.task? id = some t → t.kind ≠
      .park)) ∧ s.hasRequest (.k k) q ∧ q.kind = .grant ∧ 1 ≤ (wordAt q.body 4) ∧ (wordAt q.body 4) ≤ 8191 ∧ (¬
      ((s.rail k).state = .offline ∨ (s.rail k).state = .lost ∨ (s.rail k).state = .stopped))) ∧
    (∃ (s : State) (k : Crane) (q : Request), (¬ ((s.rail k).state = .parked ∨ (s.rail k).fireHold = true ∨ (s.fire
      (aisleOf k)).state = .sealed ∨ (s.fire (aisleOf k)).state = .reopening ∨ (((s.fire (aisleOf k)).state = .parking
      ∨ (s.fire (aisleOf k)).state = .closing) ∧ ∀ id t, (s.crane k).active = some id → s.task? id = some t → t.kind ≠
      .park))) ∧ s.hasRequest (.k k) q ∧ q.kind = .grant ∧ 1 ≤ (wordAt q.body 4) ∧ (wordAt q.body 4) ≤ 8191 ∧ (¬
      ((s.rail k).state = .offline ∨ (s.rail k).state = .lost ∨ (s.rail k).state = .stopped)) ∧ s.calibrated k = false
      ∧ (min (max (signedAt q.body 0) s.params.tmin[k]) s.params.tmax[k]) ≠
      (if isWest k then s.params.tmin[k] else s.params.tmax[k])) :=
  ⟨⟨req (.k 0) .grant (gb 5000 8192) (two 5000 50000), 0, rq .grant (gb 5000 8192),
     by unfold State.hasRequest; decide +kernel⟩,
   ⟨req (.k 0) .grant (gb 5000 8191) (opn), 0, rq .grant (gb 5000 8191), by unfold State.hasRequest; decide +kernel⟩,
   ⟨req (.k 0) .grant (gb 5000 1) (rdy opn 0 .parked), 0, rq .grant (gb 5000 1), Or.inl (by decide +kernel),
     by unfold State.hasRequest; decide +kernel⟩,
   ⟨req (.k 0) .grant (gb 1201 1) (rdy opn 0 .unhomed), 0, rq .grant (gb 1201 1),
     by rintro (h | h | h | h | ⟨h | h, _⟩) <;> exact absurd h (by decide +kernel),
     by unfold State.hasRequest; decide +kernel⟩⟩

theorem witness_GrantOfAnUncalibratedCrane :
    (∃ (s : State) (k : Crane) (q : Request), s.hasRequest (.k k) q ∧ q.kind = .grant ∧ 1 ≤ (wordAt q.body 4) ∧
      (wordAt q.body 4) ≤ 8191 ∧ (s.rail k).state = .unhomed ∧ (s.rail k).fireHold = false ∧ (s.fire
      (aisleOf k)).state = .normal ∧ s.calibrated k = false ∧ min (max (signedAt q.body 0) s.params.tmin[k])
      s.params.tmax[k] = (if isWest k then s.params.tmin[k] else s.params.tmax[k])) :=
  ⟨req (.k 0) .grant (gb 0 8191) (rdy opn 0 .unhomed), 0, rq .grant (gb 0 8191),
    by unfold State.hasRequest; decide +kernel⟩

theorem witness_GrantOfACalibratedCrane_GrantGivenWhole :
    (∃ (s : State) (k : Crane) (q : Request),
      let v := wordAt q.body 4
      let asked : Travel := ⟨signedAt q.body 0, v⟩
      let t : Travel := ⟨min (max asked.target s.params.tmin[k]) s.params.tmax[k], min v (min s.params.vMax[k]
        (s.classCap k))⟩
      let p := s.posMm k
      let e := s.presentEnvelope k
      let stretch : Span := ⟨min p t.target - s.params.halfLength - (if t.target < p then
        (s.params.stopping t.speed : Int) else 0), max p t.target + s.params.halfLength + (if p < t.target then
        (s.params.stopping t.speed : Int) else 0)⟩
      let required : Span := ⟨min e.west stretch.west, max e.east stretch.east⟩
      let other := s.edges (otherCrane k)
      (∀ w, (s.channel k).envelope = some w → required.west ≤ w.west ∧ w.east ≤ required.east) ∧ s.hasRequest (.k k) q
        ∧ q.kind = .grant ∧ s.settled ∧ 1 ≤ v ∧ v ≤ 8191 ∧ (s.rail k).state = .ready ∧ (s.rail k).fireHold = false ∧
        (s.fire (aisleOf k)).state = .normal ∧ s.calibrated k = true ∧ (if isWest k then required.east + s.params.gap
        ≤ other.west else other.east + s.params.gap ≤ required.west) ∧ (if isWest k then (s.edges k).east ≤
        required.east else required.west ≤ (s.edges k).west)) ∧
    (∃ (s : State) (k : Crane) (q : Request),
      let v := wordAt q.body 4
      let asked : Travel := ⟨signedAt q.body 0, v⟩
      let t : Travel := ⟨min (max asked.target s.params.tmin[k]) s.params.tmax[k], min v (min s.params.vMax[k]
        (s.classCap k))⟩
      let p := s.posMm k
      let e := s.presentEnvelope k
      let stretch : Span := ⟨min p t.target - s.params.halfLength - (if t.target < p then
        (s.params.stopping t.speed : Int) else 0), max p t.target + s.params.halfLength + (if p < t.target then
        (s.params.stopping t.speed : Int) else 0)⟩
      let required : Span := ⟨min e.west stretch.west, max e.east stretch.east⟩
      let other := s.edges (otherCrane k)
      (∀ w, (s.channel k).envelope = some w → required.west ≤ w.west ∧ w.east ≤ required.east) ∧ s.hasRequest (.k k) q
        ∧ q.kind = .grant ∧ s.settled ∧ 1 ≤ v ∧ v ≤ 8191 ∧ (s.rail k).state = .ready ∧ (s.rail k).fireHold = false ∧
        (s.fire (aisleOf k)).state = .normal ∧ s.calibrated k = true ∧ (if isWest k then required.east + s.params.gap
        ≤ other.west else other.east + s.params.gap ≤ required.west) ∧ (if isWest k then (s.edges k).east ≤
        required.east else required.west ≤ (s.edges k).west)) :=
  ⟨⟨req (.k 0) .grant (gb 8299 1000) (two 5000 12200), 0, rq .grant (gb 8299 1000), all_some_of_none
     (by decide +kernel), by unfold State.hasRequest State.settled; dsimp only; decide +kernel⟩,
   ⟨req (.k 0) .grant (gb 5000 1000) (two 5000 50000), 0, rq .grant (gb 5000 1000), all_some_of_none
     (by decide +kernel), by unfold State.hasRequest State.settled; dsimp only; decide +kernel⟩⟩

theorem witness_GrantOfACalibratedCrane_GrantHeld :
    (∃ (s : State) (k : Crane) (q : Request),
      let v := wordAt q.body 4
      let t : Travel := ⟨min (max (signedAt q.body 0) s.params.tmin[k]) s.params.tmax[k], min v (min s.params.vMax[k]
        (s.classCap k))⟩
      let e := s.presentEnvelope k
      let span : Span := if isWest k then ⟨e.west, min e.east (s.edges k).east⟩ else ⟨max e.west (s.edges k).west,
        e.east⟩
      let other := s.edges (otherCrane k)
      let reach : Int := s.params.gap + s.params.halfLength + (s.params.stopping t.speed : Int)
      let x : Int := if isWest k then other.west - reach else other.east + reach
      (∀ w, (s.channel k).envelope = some w → span.west ≤ w.west ∧ w.east ≤ span.east) ∧ s.hasRequest (.k k) q ∧
        q.kind = .grant ∧ s.settled ∧ 1 ≤ v ∧ v ≤ 8191 ∧ (s.rail k).state = .ready ∧ (s.rail k).fireHold = false ∧
        (s.fire (aisleOf k)).state = .normal ∧ s.calibrated k = true ∧ (s.rail (otherCrane k)).pending = none ∧ s.fits
        k (s.required k t) = false ∧ ((if isWest k then t.target ≤ s.posMm k ∨ x ≤ s.posMm k else s.posMm k ≤ t.target
        ∨ s.posMm k ≤ x) ∨ s.fits k (s.required k ⟨x, t.speed⟩) = false)) ∧
    (∃ (s : State) (k : Crane) (q : Request),
      let v := wordAt q.body 4
      let t : Travel := ⟨min (max (signedAt q.body 0) s.params.tmin[k]) s.params.tmax[k], min v (min s.params.vMax[k]
        (s.classCap k))⟩
      let e := s.presentEnvelope k
      let span : Span := if isWest k then ⟨e.west, min e.east (s.edges k).east⟩ else ⟨max e.west (s.edges k).west,
        e.east⟩
      let other := s.edges (otherCrane k)
      let reach : Int := s.params.gap + s.params.halfLength + (s.params.stopping t.speed : Int)
      let x : Int := if isWest k then other.west - reach else other.east + reach
      (∀ w, (s.channel k).envelope = some w → span.west ≤ w.west ∧ w.east ≤ span.east) ∧ s.hasRequest (.k k) q ∧
        q.kind = .grant ∧ s.settled ∧ 1 ≤ v ∧ v ≤ 8191 ∧ (s.rail k).state = .ready ∧ (s.rail k).fireHold = false ∧
        (s.fire (aisleOf k)).state = .normal ∧ s.calibrated k = true ∧ (s.rail (otherCrane k)).pending = none ∧ s.fits
        k (s.required k t) = false ∧ ((if isWest k then t.target ≤ s.posMm k ∨ x ≤ s.posMm k else s.posMm k ≤ t.target
        ∨ s.posMm k ≤ x) ∨ s.fits k (s.required k ⟨x, t.speed⟩) = false)) ∧
    (∃ (s : State) (k : Crane) (q : Request),
      let v := wordAt q.body 4
      let t : Travel := ⟨min (max (signedAt q.body 0) s.params.tmin[k]) s.params.tmax[k], min v (min s.params.vMax[k]
        (s.classCap k))⟩
      let e := s.presentEnvelope k
      let span : Span := if isWest k then ⟨e.west, min e.east (s.edges k).east⟩ else ⟨max e.west (s.edges k).west,
        e.east⟩
      let other := s.edges (otherCrane k)
      let reach : Int := s.params.gap + s.params.halfLength + (s.params.stopping t.speed : Int)
      let x : Int := if isWest k then other.west - reach else other.east + reach
      (∀ w, (s.channel k).envelope = some w → span.west ≤ w.west ∧ w.east ≤ span.east) ∧ s.hasRequest (.k k) q ∧
        q.kind = .grant ∧ s.settled ∧ 1 ≤ v ∧ v ≤ 8191 ∧ (s.rail k).state = .ready ∧ (s.rail k).fireHold = false ∧
        (s.fire (aisleOf k)).state = .normal ∧ s.calibrated k = true ∧ (s.rail (otherCrane k)).pending = none ∧ s.fits
        k (s.required k t) = false ∧ ((if isWest k then t.target ≤ s.posMm k ∨ x ≤ s.posMm k else s.posMm k ≤ t.target
        ∨ s.posMm k ≤ x) ∨ s.fits k (s.required k ⟨x, t.speed⟩) = false)) :=
  ⟨⟨req (.k 0) .grant (gb 5000 1000) (two 5000 7899), 0, rq .grant (gb 5000 1000), all_some_of_none
     (by decide +kernel), by unfold State.hasRequest State.settled; dsimp only; decide +kernel⟩,
   ⟨req (.k 1) .grant (gb 9000 1000) (two 5000 7000), 1, rq .grant (gb 9000 1000), all_some_of_none
     (by decide +kernel), by unfold State.hasRequest State.settled; dsimp only; decide +kernel⟩,
   ⟨req (.k 0) .grant (gb 60000 1000) (two 5000 7940), 0, rq .grant (gb 60000 1000), all_some_of_none
     (by decide +kernel), by unfold State.hasRequest State.settled; dsimp only; decide +kernel⟩⟩

theorem witness_GrantOfACalibratedCrane_GrantClamped :
    (∃ (s : State) (k : Crane) (q : Request),
      let v := wordAt q.body 4
      let t : Travel := ⟨min (max (signedAt q.body 0) s.params.tmin[k]) s.params.tmax[k], min v (min s.params.vMax[k]
        (s.classCap k))⟩
      let other := s.edges (otherCrane k)
      let reach : Int := s.params.gap + s.params.halfLength + (s.params.stopping t.speed : Int)
      let x : Int := if isWest k then other.west - reach else other.east + reach
      let given : Travel := ⟨x, t.speed⟩
      let span := s.required k given
      (∀ w, (s.channel k).envelope = some w → span.west ≤ w.west ∧ w.east ≤ span.east) ∧ s.hasRequest (.k k) q ∧
        q.kind = .grant ∧ s.settled ∧ 1 ≤ v ∧ v ≤ 8191 ∧ (s.rail k).state = .ready ∧ (s.rail k).fireHold = false ∧
        (s.fire (aisleOf k)).state = .normal ∧ s.calibrated k = true ∧ (s.rail (otherCrane k)).pending = none ∧ s.fits
        k (s.required k t) = false ∧ s.fits k span = true ∧ (if isWest k then s.posMm k < t.target ∧ s.posMm k < x
        else t.target < s.posMm k ∧ x < s.posMm k)) ∧
    (∃ (s : State) (k : Crane) (q : Request),
      let v := wordAt q.body 4
      let t : Travel := ⟨min (max (signedAt q.body 0) s.params.tmin[k]) s.params.tmax[k], min v (min s.params.vMax[k]
        (s.classCap k))⟩
      let other := s.edges (otherCrane k)
      let reach : Int := s.params.gap + s.params.halfLength + (s.params.stopping t.speed : Int)
      let x : Int := if isWest k then other.west - reach else other.east + reach
      let given : Travel := ⟨x, t.speed⟩
      let span := s.required k given
      (∀ w, (s.channel k).envelope = some w → span.west ≤ w.west ∧ w.east ≤ span.east) ∧ s.hasRequest (.k k) q ∧
        q.kind = .grant ∧ s.settled ∧ 1 ≤ v ∧ v ≤ 8191 ∧ (s.rail k).state = .ready ∧ (s.rail k).fireHold = false ∧
        (s.fire (aisleOf k)).state = .normal ∧ s.calibrated k = true ∧ (s.rail (otherCrane k)).pending = none ∧ s.fits
        k (s.required k t) = false ∧ s.fits k span = true ∧ (if isWest k then s.posMm k < t.target ∧ s.posMm k < x
        else t.target < s.posMm k ∧ x < s.posMm k)) :=
  ⟨⟨req (.k 0) .grant (gb 60000 1000) (two 5000 7941), 0, rq .grant (gb 60000 1000), all_some_of_none
     (by decide +kernel), by unfold State.hasRequest State.settled; dsimp only; decide +kernel⟩,
   ⟨req (.k 1) .grant (gb 1300 1000) (two 5000 50000), 1, rq .grant (gb 1300 1000), all_some_of_none
     (by decide +kernel), by unfold State.hasRequest State.settled; dsimp only; decide +kernel⟩⟩

theorem witness_GrantOfACalibratedCrane_AMutualBlockYields :
    (∃ (s : State) (k : Crane) (q : Request) (u : Travel),
      let v := wordAt q.body 4
      let o := otherCrane k
      let t : Travel := ⟨min (max (signedAt q.body 0) s.params.tmin[k]) s.params.tmax[k], min v (min s.params.vMax[k]
        (s.classCap k))⟩
      let ut : Travel := { u with speed := min u.speed (s.classCap o) }
      let e := s.presentEnvelope k
      let span : Span := if isWest k then ⟨e.west, min e.east (s.edges k).east⟩ else ⟨max e.west (s.edges k).west,
        e.east⟩
      let reach (w : Nat) : Int := s.params.gap + s.params.halfLength + (s.params.stopping w : Int)
      let x : Int := if isWest k then (s.edges o).west - reach t.speed else (s.edges o).east + reach t.speed
      let y : Int := if isWest k then span.east + reach ut.speed else span.west - reach ut.speed
      let keeps (sp : Span) : Prop := if isWest k then span.east + s.params.gap ≤ sp.west else sp.east + s.params.gap
        ≤ span.west
      let cls (j : Crane) : Nat := match (s.crane j).active.bind s.task? with | some a => a.cls | none => 6
      let wins : Prop := cls k < cls o ∨ (cls k = cls o ∧ (s.wingTime < (s.rail o).pendingSince ∨ (s.wingTime =
        (s.rail o).pendingSince ∧ isWest k = true)))
      (∀ w, (s.channel k).envelope = some w → span.west ≤ w.west ∧ w.east ≤ span.east) ∧ (¬ keeps
        (s.required o ⟨y, ut.speed⟩) ∨ (if isWest k then s.posMm o ≤ ut.target ∨ s.posMm o ≤ y else ut.target ≤
        s.posMm o ∨ y ≤ s.posMm o) ∨ ∃ g, (s.rail o).granted = some g ∧
        (if isWest k then g.target ≤ y else y ≤ g.target)) ∧ s.hasRequest (.k k) q ∧ q.kind = .grant ∧ s.settled ∧ 1 ≤
        v ∧ v ≤ 8191 ∧ (s.rail k).state = .ready ∧ (s.rail k).fireHold = false ∧ (s.fire (aisleOf k)).state = .normal
        ∧ s.calibrated k = true ∧ (s.rail o).state = .ready ∧ (s.rail o).fireHold = false ∧ s.calibrated o = true ∧
        (s.rail o).pending = some u ∧ 1 ≤ u.speed ∧ u.speed ≤ 8191 ∧ s.fits k (s.required k t) = false ∧ ((if isWest k
        then t.target ≤ s.posMm k ∨ x ≤ s.posMm k else s.posMm k ≤ t.target ∨ s.posMm k ≤ x) ∨ s.fits k
        (s.required k ⟨x, t.speed⟩) = false) ∧ 1 ≤ t.speed ∧ (¬ keeps (s.required o ut)) ∧ wins) ∧
    (∃ (s : State) (k : Crane) (q : Request) (u : Travel),
      let v := wordAt q.body 4
      let o := otherCrane k
      let t : Travel := ⟨min (max (signedAt q.body 0) s.params.tmin[k]) s.params.tmax[k], min v (min s.params.vMax[k]
        (s.classCap k))⟩
      let ut : Travel := { u with speed := min u.speed (s.classCap o) }
      let e := s.presentEnvelope k
      let span : Span := if isWest k then ⟨e.west, min e.east (s.edges k).east⟩ else ⟨max e.west (s.edges k).west,
        e.east⟩
      let reach (w : Nat) : Int := s.params.gap + s.params.halfLength + (s.params.stopping w : Int)
      let x : Int := if isWest k then (s.edges o).west - reach t.speed else (s.edges o).east + reach t.speed
      let y : Int := if isWest k then span.east + reach ut.speed else span.west - reach ut.speed
      let keeps (sp : Span) : Prop := if isWest k then span.east + s.params.gap ≤ sp.west else sp.east + s.params.gap
        ≤ span.west
      let cls (j : Crane) : Nat := match (s.crane j).active.bind s.task? with | some a => a.cls | none => 6
      let wins : Prop := cls k < cls o ∨ (cls k = cls o ∧ (s.wingTime < (s.rail o).pendingSince ∨ (s.wingTime =
        (s.rail o).pendingSince ∧ isWest k = true)))
      (∀ w, (s.channel k).envelope = some w → span.west ≤ w.west ∧ w.east ≤ span.east) ∧ (¬ keeps
        (s.required o ⟨y, ut.speed⟩) ∨ (if isWest k then s.posMm o ≤ ut.target ∨ s.posMm o ≤ y else ut.target ≤
        s.posMm o ∨ y ≤ s.posMm o) ∨ ∃ g, (s.rail o).granted = some g ∧
        (if isWest k then g.target ≤ y else y ≤ g.target)) ∧ s.hasRequest (.k k) q ∧ q.kind = .grant ∧ s.settled ∧ 1 ≤
        v ∧ v ≤ 8191 ∧ (s.rail k).state = .ready ∧ (s.rail k).fireHold = false ∧ (s.fire (aisleOf k)).state = .normal
        ∧ s.calibrated k = true ∧ (s.rail o).state = .ready ∧ (s.rail o).fireHold = false ∧ s.calibrated o = true ∧
        (s.rail o).pending = some u ∧ 1 ≤ u.speed ∧ u.speed ≤ 8191 ∧ s.fits k (s.required k t) = false ∧ ((if isWest k
        then t.target ≤ s.posMm k ∨ x ≤ s.posMm k else s.posMm k ≤ t.target ∨ s.posMm k ≤ x) ∨ s.fits k
        (s.required k ⟨x, t.speed⟩) = false) ∧ 1 ≤ t.speed ∧ (¬ keeps (s.required o ut)) ∧ (¬ wins)) ∧
    (∃ (s : State) (k : Crane) (q : Request) (u : Travel),
      let v := wordAt q.body 4
      let o := otherCrane k
      let t : Travel := ⟨min (max (signedAt q.body 0) s.params.tmin[k]) s.params.tmax[k], min v (min s.params.vMax[k]
        (s.classCap k))⟩
      let ut : Travel := { u with speed := min u.speed (s.classCap o) }
      let e := s.presentEnvelope k
      let span : Span := if isWest k then ⟨e.west, min e.east (s.edges k).east⟩ else ⟨max e.west (s.edges k).west,
        e.east⟩
      let reach (w : Nat) : Int := s.params.gap + s.params.halfLength + (s.params.stopping w : Int)
      let x : Int := if isWest k then (s.edges o).west - reach t.speed else (s.edges o).east + reach t.speed
      let y : Int := if isWest k then span.east + reach ut.speed else span.west - reach ut.speed
      let keeps (sp : Span) : Prop := if isWest k then span.east + s.params.gap ≤ sp.west else sp.east + s.params.gap
        ≤ span.west
      let cls (j : Crane) : Nat := match (s.crane j).active.bind s.task? with | some a => a.cls | none => 6
      let wins : Prop := cls k < cls o ∨ (cls k = cls o ∧ (s.wingTime < (s.rail o).pendingSince ∨ (s.wingTime =
        (s.rail o).pendingSince ∧ isWest k = true)))
      (∀ w, (s.channel k).envelope = some w → span.west ≤ w.west ∧ w.east ≤ span.east) ∧ (¬ keeps
        (s.required o ⟨y, ut.speed⟩) ∨ (if isWest k then s.posMm o ≤ ut.target ∨ s.posMm o ≤ y else ut.target ≤
        s.posMm o ∨ y ≤ s.posMm o) ∨ ∃ g, (s.rail o).granted = some g ∧
        (if isWest k then g.target ≤ y else y ≤ g.target)) ∧ s.hasRequest (.k k) q ∧ q.kind = .grant ∧ s.settled ∧ 1 ≤
        v ∧ v ≤ 8191 ∧ (s.rail k).state = .ready ∧ (s.rail k).fireHold = false ∧ (s.fire (aisleOf k)).state = .normal
        ∧ s.calibrated k = true ∧ (s.rail o).state = .ready ∧ (s.rail o).fireHold = false ∧ s.calibrated o = true ∧
        (s.rail o).pending = some u ∧ 1 ≤ u.speed ∧ u.speed ≤ 8191 ∧ s.fits k (s.required k t) = false ∧ ((if isWest k
        then t.target ≤ s.posMm k ∨ x ≤ s.posMm k else s.posMm k ≤ t.target ∨ s.posMm k ≤ x) ∨ s.fits k
        (s.required k ⟨x, t.speed⟩) = false) ∧ 1 ≤ t.speed ∧ (¬ keeps (s.required o ut)) ∧ wins) :=
  ⟨⟨req (.k 0) .grant (gb 60000 1000) (pend 1 ⟨1300, 1000⟩ 0 (two 5000 7940)), 0, rq .grant (gb 60000 1000), ⟨1300,
     1000⟩, all_some_of_none (by decide +kernel), Or.inr (Or.inl (by dsimp only; decide +kernel)),
     by unfold State.hasRequest State.settled; dsimp only; decide +kernel⟩,
   ⟨req (.k 0) .grant (gb 60000 1000) (pend 1 ⟨1300, 1000⟩ 3 { two 5000 7940 with wingTime := 5 }), 0, rq .grant
     (gb 60000 1000), ⟨1300, 1000⟩, all_some_of_none (by decide +kernel), Or.inr (Or.inl
     (by dsimp only; decide +kernel)), by unfold State.hasRequest State.settled; dsimp only; decide +kernel⟩,
   ⟨req (.k 0) .grant (gb 60000 1000) (pend 1 ⟨1300, 1000⟩ 3 (withA { two 5000 7940 with wingTime := 5 } 0 5 (tk 0
     .stow 4 (some 9) .active))), 0, rq .grant (gb 60000 1000), ⟨1300, 1000⟩, all_some_of_none (by decide +kernel),
     Or.inr (Or.inl (by dsimp only; decide +kernel)),
     by unfold State.hasRequest State.settled; dsimp only; decide +kernel⟩⟩

theorem witness_GrantKeepsTheGap :
    (∃ (s t : State) (k : Crane) (q : Request), exec (.grant k) s = .next t ∧ s.hasRequest (.k k) q ∧ q.kind = .grant
      ∧ (s.edges (westCrane (aisleOf k))).east + s.params.gap ≤ (s.edges (eastCrane (aisleOf k))).west) :=
  ⟨req (.k 0) .grant (gb 60000 1000) (two 5000 12000), _, 0, rq .grant (gb 60000 1000), rfl,
    by unfold State.hasRequest; decide +kernel⟩

theorem witness_RailRequestsRefused_ArrivedRefused :
    (∃ (s : State) (k : Crane) (q : Request), s.hasRequest (.k k) q ∧ q.kind = .arrived ∧ ((s.rail k).state = .offline
      ∨ (s.rail k).state = .stopped ∨ (s.rail k).state = .lost)) ∧
    (∃ (s : State) (k : Crane) (q : Request), s.hasRequest (.k k) q ∧ q.kind = .arrived ∧ (¬ ((s.rail k).state =
      .offline ∨ (s.rail k).state = .stopped ∨ (s.rail k).state = .lost)) ∧ (s.channel k).speed ≠ 0) :=
  ⟨⟨req (.k 1) .arrived [] opn, 1, rq .arrived [], by unfold State.hasRequest; decide +kernel⟩,
   ⟨req (.k 1) .arrived [] ((rdy opn 1).modChannel 1 (fun c => { c with speed := 1 })), 1, rq .arrived [],
     by unfold State.hasRequest; decide +kernel⟩⟩

theorem witness_ArrivedTrimsTheReservation :
    (∃ (s : State) (k : Crane) (q : Request), (s.calibrated k = true → ∀ w, (s.channel k).envelope = some w → ((if
      isWest k then ⟨((s.posMm k - s.params.halfLength : Int)), min ((s.posMm k + s.params.halfLength : Int))
      (s.edges k).east⟩ else ⟨max ((s.posMm k - s.params.halfLength : Int)) (s.edges k).west,
      ((s.posMm k + s.params.halfLength : Int))⟩ : Span)).west ≤ w.west ∧ w.east ≤ ((if isWest k then
      ⟨((s.posMm k - s.params.halfLength : Int)), min ((s.posMm k + s.params.halfLength : Int)) (s.edges k).east⟩ else
      ⟨max ((s.posMm k - s.params.halfLength : Int)) (s.edges k).west, ((s.posMm k + s.params.halfLength : Int))⟩ :
      Span)).east) ∧ s.hasRequest (.k k) q ∧ q.kind = .arrived ∧ s.settled ∧ s.formLaw ∧ ((s.rail k).state = .ready ∨
      (s.rail k).state = .unhomed) ∧ (s.channel k).speed = 0 ∧ (s.rail k).pending = none ∧ (s.rail
      (otherCrane k)).pending = none ∧ (s.crane k).standingYield = none ∧ (s.crane k).active = none) ∧
    (∃ (s : State) (k : Crane) (q : Request), (s.calibrated k = true → ∀ w, (s.channel k).envelope = some w → ((if
      isWest k then ⟨((s.posMm k - s.params.halfLength : Int)), min ((s.posMm k + s.params.halfLength : Int))
      (s.edges k).east⟩ else ⟨max ((s.posMm k - s.params.halfLength : Int)) (s.edges k).west,
      ((s.posMm k + s.params.halfLength : Int))⟩ : Span)).west ≤ w.west ∧ w.east ≤ ((if isWest k then
      ⟨((s.posMm k - s.params.halfLength : Int)), min ((s.posMm k + s.params.halfLength : Int)) (s.edges k).east⟩ else
      ⟨max ((s.posMm k - s.params.halfLength : Int)) (s.edges k).west, ((s.posMm k + s.params.halfLength : Int))⟩ :
      Span)).east) ∧ s.hasRequest (.k k) q ∧ q.kind = .arrived ∧ s.settled ∧ s.formLaw ∧ ((s.rail k).state = .ready ∨
      (s.rail k).state = .unhomed) ∧ (s.channel k).speed = 0 ∧ (s.rail k).pending = none ∧ (s.rail
      (otherCrane k)).pending = none ∧ (s.crane k).standingYield = none ∧ (s.crane k).active = none) ∧
    (∃ (s : State) (k : Crane) (q : Request), ∃ id t, (s.calibrated k = true → ∀ w, (s.channel k).envelope = some w →
      ((if isWest k then ⟨((s.posMm k - s.params.halfLength : Int)), min ((s.posMm k + s.params.halfLength : Int))
      (s.edges k).east⟩ else ⟨max ((s.posMm k - s.params.halfLength : Int)) (s.edges k).west,
      ((s.posMm k + s.params.halfLength : Int))⟩ : Span)).west ≤ w.west ∧ w.east ≤ ((if isWest k then
      ⟨((s.posMm k - s.params.halfLength : Int)), min ((s.posMm k + s.params.halfLength : Int)) (s.edges k).east⟩ else
      ⟨max ((s.posMm k - s.params.halfLength : Int)) (s.edges k).west, ((s.posMm k + s.params.halfLength : Int))⟩ :
      Span)).east) ∧ s.hasRequest (.k k) q ∧ q.kind = .arrived ∧ s.settled ∧ s.formLaw ∧ ((s.rail k).state = .ready ∨
      (s.rail k).state = .unhomed) ∧ (s.channel k).speed = 0 ∧ (s.rail k).pending = none ∧ (s.rail
      (otherCrane k)).pending = none ∧ (s.crane k).standingYield = none ∧ (s.crane k).active = some id ∧ s.task? id =
      some t ∧ t.crane = k ∧ t.kind = .home ∧ t.yield = none ∧ s.calibrated k = true ∧ (s.rail k).state = .unhomed ∧
      (s.crane k).queue = [] ∧ (s.crane k).stack = []) ∧
    (∃ (s : State) (k : Crane) (q : Request), ∃ id t, (s.calibrated k = true → ∀ w, (s.channel k).envelope = some w →
      ((if isWest k then ⟨((s.posMm k - s.params.halfLength : Int)), min ((s.posMm k + s.params.halfLength : Int))
      (s.edges k).east⟩ else ⟨max ((s.posMm k - s.params.halfLength : Int)) (s.edges k).west,
      ((s.posMm k + s.params.halfLength : Int))⟩ : Span)).west ≤ w.west ∧ w.east ≤ ((if isWest k then
      ⟨((s.posMm k - s.params.halfLength : Int)), min ((s.posMm k + s.params.halfLength : Int)) (s.edges k).east⟩ else
      ⟨max ((s.posMm k - s.params.halfLength : Int)) (s.edges k).west, ((s.posMm k + s.params.halfLength : Int))⟩ :
      Span)).east) ∧ s.hasRequest (.k k) q ∧ q.kind = .arrived ∧ s.settled ∧ s.formLaw ∧ ((s.rail k).state = .ready ∨
      (s.rail k).state = .unhomed) ∧ (s.channel k).speed = 0 ∧ (s.rail k).pending = none ∧ (s.rail
      (otherCrane k)).pending = none ∧ (s.crane k).standingYield = none ∧ (s.crane k).active = some id ∧ s.task? id =
      some t ∧ t.kind = .park ∧ t.yield = none ∧ (s.fire (aisleOf k)).state ≠ .normal ∧ s.calibrated k = true ∧
      ((s.posMm k - s.params.parkPos[k]).natAbs : Int) ≤ s.params.tPark) :=
  ⟨⟨req (.k 1) .arrived [] (two 5000 50000), 1, rq .arrived [], fun _ => all_some_of_none (by decide +kernel),
     by unfold State.hasRequest State.settled State.formLaw; decide +kernel⟩,
   ⟨req (.k 1) .arrived [] (wide 1 49000 51300 (two 5000 50000)), 1, rq .arrived [], fun _ => all_some_of_none
     (by decide +kernel), by unfold State.hasRequest State.settled State.formLaw; decide +kernel⟩,
   ⟨req (.k 1) .arrived [] (withA (rdy (two 5000 62800) 1 .unhomed) 1 5 (tR 1 .home 62800)), 1, rq .arrived [], 5,
     (tR 1 .home 62800), fun _ => all_some_of_none (by decide +kernel),
     by unfold State.hasRequest State.settled State.formLaw; decide +kernel⟩,
   ⟨req (.k 1) .arrived [] (fired .parking (withA (two 5000 58050) 1 5 (tR 1 .park 58000))), 1, rq .arrived [], 5,
     (tR 1 .park 58000), fun _ => all_some_of_none (by decide +kernel),
     by unfold State.hasRequest State.settled State.formLaw; decide +kernel⟩⟩

theorem witness_ArrivedTrimsTheReservation_ArrivedExtendsThePendingGrant :
    (∃ (s : State) (k : Crane) (q : Request) (u : Travel) (sp : Span),
      let o := otherCrane k
      let still : Span := ⟨s.posMm k - s.params.halfLength, s.posMm k + s.params.halfLength⟩
      let t : Travel := { u with speed := min u.speed (s.classCap o) }
      let keeps (r : Span) : Prop := if isWest k then still.east + s.params.gap ≤ r.west else r.east + s.params.gap ≤
        still.west
      let held (r : Span) : Prop := ∀ w, (s.channel o).envelope = some w → r.west ≤ w.west ∧ w.east ≤ r.east
      (∀ w, (s.channel k).envelope = some w → w = still) ∧ held (s.required o t) ∧ s.hasRequest (.k k) q ∧ q.kind =
        .arrived ∧ s.settled ∧ (s.rail k).state = .ready ∧ (s.channel k).speed = 0 ∧ s.calibrated k = true ∧
        (s.rail k).reservation = .calibrated sp ∧ (s.rail k).pending = none ∧ (s.crane k).active = none ∧
        (s.crane k).standingYield = none ∧ (s.rail o).state = .ready ∧ (s.rail o).fireHold = false ∧ (s.fire
        (aisleOf k)).state = .normal ∧ s.calibrated o = true ∧ (s.rail o).pending = some u ∧ 1 ≤ u.speed ∧ u.speed ≤
        8191 ∧ (if isWest k then still.east < sp.east else sp.west < still.west) ∧ keeps (s.required o t)) ∧
    (∃ (s : State) (k : Crane) (q : Request) (u : Travel) (sp : Span),
      let o := otherCrane k
      let still : Span := ⟨s.posMm k - s.params.halfLength, s.posMm k + s.params.halfLength⟩
      let t : Travel := { u with speed := min u.speed (s.classCap o) }
      let reach : Int := s.params.gap + s.params.halfLength + (s.params.stopping t.speed : Int)
      let x : Int := if isWest k then still.east + reach else still.west - reach
      let keeps (r : Span) : Prop := if isWest k then still.east + s.params.gap ≤ r.west else r.east + s.params.gap ≤
        still.west
      let held (r : Span) : Prop := ∀ w, (s.channel o).envelope = some w → r.west ≤ w.west ∧ w.east ≤ r.east
      let partly : Prop := keeps (s.required o ⟨x, t.speed⟩) ∧ (if isWest k then t.target < s.posMm o ∧ x < s.posMm o
        else s.posMm o < t.target ∧ s.posMm o < x) ∧ ∀ g, (s.rail o).granted = some g → if isWest k then x < g.target
        else g.target < x
      (∀ w, (s.channel k).envelope = some w → w = still) ∧ partly ∧ held (s.required o ⟨x, t.speed⟩) ∧ s.hasRequest
        (.k k) q ∧ q.kind = .arrived ∧ s.settled ∧ (s.rail k).state = .ready ∧ (s.channel k).speed = 0 ∧ s.calibrated
        k = true ∧ (s.rail k).reservation = .calibrated sp ∧ (s.rail k).pending = none ∧ (s.crane k).active = none ∧
        (s.crane k).standingYield = none ∧ (s.rail o).state = .ready ∧ (s.rail o).fireHold = false ∧ (s.fire
        (aisleOf k)).state = .normal ∧ s.calibrated o = true ∧ (s.rail o).pending = some u ∧ 1 ≤ u.speed ∧ u.speed ≤
        8191 ∧ (if isWest k then still.east < sp.east else sp.west < still.west) ∧ (¬ keeps (s.required o t))) ∧
    (∃ (s : State) (k : Crane) (q : Request) (u : Travel) (sp : Span),
      let o := otherCrane k
      let still : Span := ⟨s.posMm k - s.params.halfLength, s.posMm k + s.params.halfLength⟩
      let t : Travel := { u with speed := min u.speed (s.classCap o) }
      let reach : Int := s.params.gap + s.params.halfLength + (s.params.stopping t.speed : Int)
      let x : Int := if isWest k then still.east + reach else still.west - reach
      let keeps (r : Span) : Prop := if isWest k then still.east + s.params.gap ≤ r.west else r.east + s.params.gap ≤
        still.west
      let partly : Prop := keeps (s.required o ⟨x, t.speed⟩) ∧ (if isWest k then t.target < s.posMm o ∧ x < s.posMm o
        else s.posMm o < t.target ∧ s.posMm o < x) ∧ ∀ g, (s.rail o).granted = some g → if isWest k then x < g.target
        else g.target < x
      (∀ w, (s.channel k).envelope = some w → w = still) ∧ (¬ partly) ∧ s.hasRequest (.k k) q ∧ q.kind = .arrived ∧
        s.settled ∧ (s.rail k).state = .ready ∧ (s.channel k).speed = 0 ∧ s.calibrated k = true ∧
        (s.rail k).reservation = .calibrated sp ∧ (s.rail k).pending = none ∧ (s.crane k).active = none ∧
        (s.crane k).standingYield = none ∧ (s.rail o).state = .ready ∧ (s.rail o).fireHold = false ∧ (s.fire
        (aisleOf k)).state = .normal ∧ s.calibrated o = true ∧ (s.rail o).pending = some u ∧ 1 ≤ u.speed ∧ u.speed ≤
        8191 ∧ (if isWest k then still.east < sp.east else sp.west < still.west) ∧ (¬ keeps (s.required o t))) :=
  ⟨⟨req (.k 1) .arrived [] (pend 0 ⟨30000, 1000⟩ 0 (wide 1 20000 51200 (two 5000 50000))), 1, rq .arrived [], ⟨30000,
     1000⟩, ⟨20000, 51200⟩, all_some_of_none (by decide +kernel), all_some_of_none (by decide +kernel),
     by unfold State.hasRequest State.settled; dsimp only; decide +kernel⟩,
   ⟨req (.k 1) .arrived [] (pend 0 ⟨60000, 1000⟩ 0 (wide 1 20000 51200 (two 5000 50000))), 1, rq .arrived [], ⟨60000,
     1000⟩, ⟨20000, 51200⟩, all_some_of_none (by decide +kernel), ⟨by dsimp only; decide +kernel,
     by dsimp only; decide +kernel, all_some_of_none (by decide +kernel)⟩, all_some_of_none (by decide +kernel),
     by unfold State.hasRequest State.settled; dsimp only; decide +kernel⟩,
   ⟨req (.k 1) .arrived [] (pend 0 ⟨60000, 1000⟩ 0 (wide 1 6700 9140 (two 5000 7940))), 1, rq .arrived [], ⟨60000,
     1000⟩, ⟨6700, 9140⟩, all_some_of_none (by decide +kernel), fun h => absurd h.2.1.2
     (by dsimp only; decide +kernel), by unfold State.hasRequest State.settled; dsimp only; decide +kernel⟩⟩

theorem witness_DriveFaultStopsTheCrane :
    (∃ (s : State) (k : Crane) (q : Request), s.hasRequest (.k k) q ∧ q.kind = .driveFault ∧ s.settled ∧
      ((s.rail k).state = .ready ∨ (s.rail k).state = .unhomed ∨ (s.rail k).state = .parked ∨ (s.rail k).state =
      .silent) ∧ (s.rail k).fireHold = false) ∧
    (∃ (s : State) (k : Crane) (q : Request), s.hasRequest (.k k) q ∧ q.kind = .driveFault ∧ s.settled ∧
      ((s.rail k).state = .offline ∨ (s.rail k).state = .lost ∨ (s.rail k).state = .stopped)) :=
  ⟨⟨req (.k 1) .driveFault [9] (two 5000 50000), 1, rq .driveFault [9],
     by unfold State.hasRequest State.settled; decide +kernel⟩,
   ⟨req (.k 1) .driveFault [9] opn, 1, rq .driveFault [9], by unfold State.hasRequest State.settled; decide +kernel⟩⟩

theorem witness_RailRequestsRefused_RestartRefused :
    (∃ (s : State) (k : Crane) (q : Request), s.hasRequest (.k k) q ∧ q.kind = .restart ∧ ((s.rail k).state = .ready ∨
      (s.rail k).state = .unhomed ∨ (s.rail k).state = .parked)) ∧
    (∃ (s : State) (k : Crane) (q : Request), s.hasRequest (.k k) q ∧ q.kind = .restart ∧ (¬ ((s.rail k).state =
      .ready ∨ (s.rail k).state = .unhomed ∨ (s.rail k).state = .parked)) ∧ (s.channel k).speed ≠ 0) ∧
    (∃ (s : State) (k : Crane) (q : Request), (∀ x, (s.rail (otherCrane k)).reservation ≠ .homeSide x) ∧ s.hasRequest
      (.k k) q ∧ q.kind = .restart ∧ (¬ ((s.rail k).state = .ready ∨ (s.rail k).state = .unhomed ∨ (s.rail k).state =
      .parked)) ∧ (s.channel k).speed = 0 ∧ s.calibrated k = true ∧ s.calibrated (otherCrane k) = true ∧ (if isWest k
      then (s.edges (otherCrane k)).west < s.posMm k + s.params.halfLength + s.params.gap else s.posMm k -
      s.params.halfLength < (s.edges (otherCrane k)).east + s.params.gap)) :=
  ⟨⟨req (.k 1) .restart [] (rdy opn 1), 1, rq .restart [], by unfold State.hasRequest; decide +kernel⟩,
   ⟨req (.k 1) .restart [] (opn.modChannel 1 (fun c => { c with speed := 1 })), 1, rq .restart [],
     by unfold State.hasRequest; decide +kernel⟩,
   ⟨req (.k 1) .restart [] (rdy (two 5000 7899) 1 .stopped), 1, rq .restart [], (fun _ h => nomatch h),
     by unfold State.hasRequest; decide +kernel⟩⟩

theorem witness_RestartReturnsTheCrane :
    (∃ (s : State) (k : Crane) (q : Request), (∀ w, (s.channel k).envelope = some w → w = ((⟨s.posMm k -
      s.params.halfLength, s.posMm k + s.params.halfLength⟩ : Span))) ∧ s.hasRequest (.k k) q ∧ q.kind = .restart ∧
      s.settled ∧ ((s.rail k).state = .offline ∨ (s.rail k).state = .silent ∨ (s.rail k).state = .lost ∨
      (s.rail k).state = .stopped) ∧ (s.channel k).speed = 0 ∧ (s.rail (otherCrane k)).pending = none ∧
      (s.crane k).active = none ∧ (s.crane k).queue = [] ∧ s.calibrated k = true ∧ (s.otherCounts k = true → if isWest
      k then ((⟨s.posMm k - s.params.halfLength, s.posMm k + s.params.halfLength⟩ : Span)).east + s.params.gap ≤
      (s.edges (otherCrane k)).west else (s.edges (otherCrane k)).east + s.params.gap ≤ ((⟨s.posMm k -
      s.params.halfLength, s.posMm k + s.params.halfLength⟩ : Span)).west)) ∧
    (∃ (s : State) (k : Crane) (q : Request), ∃ x tid, s.hasRequest (.k k) q ∧ q.kind = .restart ∧ s.settled ∧
      ((s.rail k).state = .offline ∨ (s.rail k).state = .silent ∨ (s.rail k).state = .lost ∨ (s.rail k).state =
      .stopped) ∧ (s.channel k).speed = 0 ∧ (s.rail (otherCrane k)).pending = none ∧ (s.crane k).active = none ∧
      (s.crane k).queue = [] ∧ s.calibrated k = false ∧ (s.rail k).reservation = .homeSide x ∧ s.holdsKind k .home =
      false ∧ s.tasks.lowestFree 64 = some tid) :=
  ⟨⟨req (.k 1) .restart [] (rdy (two 5000 7900) 1 .stopped), 1, rq .restart [], all_some_of_none (by decide +kernel),
     by unfold State.hasRequest State.settled; decide +kernel⟩,
   ⟨req (.k 1) .restart [] opn, 1, rq .restart [], 0, 0, by unfold State.hasRequest State.settled; decide +kernel⟩⟩

theorem witness_LinkExpirySilencesOrLosesTheCrane :
    (∃ (s : State) (k : Crane), ((s.rail k).granted = none ∧ (s.channel k).speed = 0 ∧ ∀ sp, (s.rail k).reservation =
      .calibrated sp → sp = ⟨s.posMm k - s.params.halfLength, s.posMm k + s.params.halfLength⟩) ∧ s.inReset = false ∧
      s.settled ∧ (s.rail k).linkArmed = true ∧ (s.rail k).linkLeft = 0 ∧ ((s.rail k).state = .ready ∨
      (s.rail k).state = .unhomed)) ∧
    (∃ (s : State) (k : Crane), (¬ ((s.rail k).granted = none ∧ (s.channel k).speed = 0 ∧ ∀ sp, (s.rail k).reservation
      = .calibrated sp → sp = ⟨s.posMm k - s.params.halfLength, s.posMm k + s.params.halfLength⟩)) ∧ s.inReset = false
      ∧ s.settled ∧ (s.rail k).linkArmed = true ∧ (s.rail k).linkLeft = 0 ∧ ((s.rail k).state = .ready ∨
      (s.rail k).state = .unhomed)) ∧
    (∃ (s : State) (k : Crane), s.inReset = false ∧ s.settled ∧ (s.rail k).linkArmed = true ∧ (s.rail k).linkLeft = 0
      ∧ (¬ ((s.rail k).state = .ready ∨ (s.rail k).state = .unhomed))) :=
  ⟨⟨(two 5000 50000).modRail 1 (fun r => { r with linkArmed := true }), 1, ⟨by decide +kernel, by decide +kernel, fun
     sp h => (Reservation.calibrated.inj h).symm.trans (by decide +kernel)⟩, by unfold State.settled; decide +kernel⟩,
   ⟨((two 5000 50000).modChannel 1 (fun c => { c with speed := 1 })).modRail 1
     (fun r => { r with linkArmed := true }), 1, fun h => absurd h.2.1 (by decide +kernel),
     by unfold State.settled; decide +kernel⟩,
   ⟨(opn).modRail 1 (fun r => { r with linkArmed := true }), 1, by unfold State.settled; decide +kernel⟩⟩

theorem witness_QueriesReportTheRecords_CraneQueriesReport :
    (∃ (s : State) (q : Request) (k : Crane), s.hasRequest .c q ∧ q.kind = .queryCrane ∧ byteAt q.body 0 = k.val ∧
      byteAt q.body 1 = 0) ∧
    (∃ (s : State) (q : Request) (k : Crane), s.hasRequest .c q ∧ q.kind = .queryCrane ∧ byteAt q.body 0 = k.val ∧
      byteAt q.body 1 = 1) ∧
    (∃ (s : State) (q : Request) (k : Crane), s.hasRequest .c q ∧ q.kind = .queryCrane ∧ byteAt q.body 0 = k.val ∧
      byteAt q.body 1 = 2) ∧
    (∃ (s : State) (q : Request) (k : Crane), s.hasRequest .c q ∧ q.kind = .queryCrane ∧ byteAt q.body 0 = k.val ∧
      byteAt q.body 1 = 3) ∧
    (∃ (s : State) (q : Request) (k : Crane), s.hasRequest (.k k) q ∧ q.kind = .queryRail ∧ byteAt q.body 0 = 1) ∧
    (∃ (s : State) (q : Request) (k : Crane), s.hasRequest (.k k) q ∧ q.kind = .queryRail ∧ byteAt q.body 0 = 2) :=
  ⟨⟨req .c .queryCrane [3, 0] (opn), rq .queryCrane [3, 0], 3, by unfold State.hasRequest; decide +kernel⟩,
   ⟨req .c .queryCrane [3, 1] (opn), rq .queryCrane [3, 1], 3, by unfold State.hasRequest; decide +kernel⟩,
   ⟨req .c .queryCrane [3, 2] (opn), rq .queryCrane [3, 2], 3, by unfold State.hasRequest; decide +kernel⟩,
   ⟨req .c .queryCrane [3, 3] (opn), rq .queryCrane [3, 3], 3, by unfold State.hasRequest; decide +kernel⟩,
   ⟨req (.k 3) .queryRail [1] opn, rq .queryRail [1], 3, by unfold State.hasRequest; decide +kernel⟩,
   ⟨req (.k 3) .queryRail [2] opn, rq .queryRail [2], 3, by unfold State.hasRequest; decide +kernel⟩⟩

theorem witness_EncoderTransitionCounts :
    (∃ (s : State) (k : Crane) (a b : Bool), s.inReset = false ∧ s.settled ∧ ((s.params.edgeMode[k]) = 1 ∨
      (s.params.edgeMode[k]) = 2 ∨ (s.params.edgeMode[k]) = 4) ∧ (((s.channel k).phaseA = false ∧ (s.channel k).phaseB
      = false ∧ a = true ∧ b = false) ∨ ((s.channel k).phaseA = true ∧ (s.channel k).phaseB = false ∧ a = true ∧ b =
      true) ∨ ((s.channel k).phaseA = true ∧ (s.channel k).phaseB = true ∧ a = false ∧ b = true) ∨
      ((s.channel k).phaseA = false ∧ (s.channel k).phaseB = true ∧ a = false ∧ b = false)) ∧ ((s.params.edgeMode[k])
      = 4 ∨ ((s.params.edgeMode[k]) = 2 ∧ (s.channel k).phaseA ≠ a) ∨ ((s.params.edgeMode[k]) = 1 ∧
      (s.channel k).phaseA = false ∧ a = true)) ∧ s.params.inverted[k] = false ∧ ((s.channel k).state = .calibrated →
      -1000 ≤ (((s.channel k).counter + 1).toInt * (s.params.pitch[k] : Int)).fdiv 1000 ∧ (((s.channel k).counter +
      1).toInt * (s.params.pitch[k] : Int)).fdiv 1000 ≤ s.params.railLength[aisleOf k] + 1000)) ∧
    (∃ (s : State) (k : Crane) (a b : Bool), s.inReset = false ∧ s.settled ∧ ((s.params.edgeMode[k]) = 1 ∨
      (s.params.edgeMode[k]) = 2 ∨ (s.params.edgeMode[k]) = 4) ∧ (((s.channel k).phaseA = false ∧ (s.channel k).phaseB
      = false ∧ a = true ∧ b = false) ∨ ((s.channel k).phaseA = true ∧ (s.channel k).phaseB = false ∧ a = true ∧ b =
      true) ∨ ((s.channel k).phaseA = true ∧ (s.channel k).phaseB = true ∧ a = false ∧ b = true) ∨
      ((s.channel k).phaseA = false ∧ (s.channel k).phaseB = true ∧ a = false ∧ b = false)) ∧ ((s.params.edgeMode[k])
      = 4 ∨ ((s.params.edgeMode[k]) = 2 ∧ (s.channel k).phaseA ≠ a) ∨ ((s.params.edgeMode[k]) = 1 ∧
      (s.channel k).phaseA = false ∧ a = true)) ∧ s.params.inverted[k] = true ∧ ((s.channel k).state = .calibrated →
      -1000 ≤ (((s.channel k).counter - 1).toInt * (s.params.pitch[k] : Int)).fdiv 1000 ∧ (((s.channel k).counter -
      1).toInt * (s.params.pitch[k] : Int)).fdiv 1000 ≤ s.params.railLength[aisleOf k] + 1000)) ∧
    (∃ (s : State) (k : Crane) (a b : Bool), s.inReset = false ∧ s.settled ∧ ((s.params.edgeMode[k]) = 1 ∨
      (s.params.edgeMode[k]) = 2 ∨ (s.params.edgeMode[k]) = 4) ∧ (((s.channel k).phaseA = true ∧ (s.channel k).phaseB
      = false ∧ a = false ∧ b = false) ∨ ((s.channel k).phaseA = true ∧ (s.channel k).phaseB = true ∧ a = true ∧ b =
      false) ∨ ((s.channel k).phaseA = false ∧ (s.channel k).phaseB = true ∧ a = true ∧ b = true) ∨
      ((s.channel k).phaseA = false ∧ (s.channel k).phaseB = false ∧ a = false ∧ b = true)) ∧ ((s.params.edgeMode[k])
      = 4 ∨ ((s.params.edgeMode[k]) = 2 ∧ (s.channel k).phaseA ≠ a) ∨ ((s.params.edgeMode[k]) = 1 ∧
      (s.channel k).phaseA = false ∧ a = true)) ∧ s.params.inverted[k] = false ∧ ((s.channel k).state = .calibrated →
      -1000 ≤ (((s.channel k).counter - 1).toInt * (s.params.pitch[k] : Int)).fdiv 1000 ∧ (((s.channel k).counter -
      1).toInt * (s.params.pitch[k] : Int)).fdiv 1000 ≤ s.params.railLength[aisleOf k] + 1000)) ∧
    (∃ (s : State) (k : Crane) (a b : Bool), s.inReset = false ∧ s.settled ∧ ((s.params.edgeMode[k]) = 1 ∨
      (s.params.edgeMode[k]) = 2 ∨ (s.params.edgeMode[k]) = 4) ∧ (((s.channel k).phaseA = true ∧ (s.channel k).phaseB
      = false ∧ a = false ∧ b = false) ∨ ((s.channel k).phaseA = true ∧ (s.channel k).phaseB = true ∧ a = true ∧ b =
      false) ∨ ((s.channel k).phaseA = false ∧ (s.channel k).phaseB = true ∧ a = true ∧ b = true) ∨
      ((s.channel k).phaseA = false ∧ (s.channel k).phaseB = false ∧ a = false ∧ b = true)) ∧ ((s.params.edgeMode[k])
      = 4 ∨ ((s.params.edgeMode[k]) = 2 ∧ (s.channel k).phaseA ≠ a) ∨ ((s.params.edgeMode[k]) = 1 ∧
      (s.channel k).phaseA = false ∧ a = true)) ∧ s.params.inverted[k] = true ∧ ((s.channel k).state = .calibrated →
      -1000 ≤ (((s.channel k).counter + 1).toInt * (s.params.pitch[k] : Int)).fdiv 1000 ∧ (((s.channel k).counter +
      1).toInt * (s.params.pitch[k] : Int)).fdiv 1000 ≤ s.params.railLength[aisleOf k] + 1000)) ∧
    (∃ (s : State) (k : Crane) (a b : Bool), s.inReset = false ∧ s.settled ∧ ((s.params.edgeMode[k]) = 1 ∨
      (s.params.edgeMode[k]) = 2 ∨ (s.params.edgeMode[k]) = 4) ∧ ((((s.channel k).phaseA = false ∧
      (s.channel k).phaseB = false ∧ a = true ∧ b = false) ∨ ((s.channel k).phaseA = true ∧ (s.channel k).phaseB =
      false ∧ a = true ∧ b = true) ∨ ((s.channel k).phaseA = true ∧ (s.channel k).phaseB = true ∧ a = false ∧ b =
      true) ∨ ((s.channel k).phaseA = false ∧ (s.channel k).phaseB = true ∧ a = false ∧ b = false)) ∨
      (((s.channel k).phaseA = true ∧ (s.channel k).phaseB = false ∧ a = false ∧ b = false) ∨ ((s.channel k).phaseA =
      true ∧ (s.channel k).phaseB = true ∧ a = true ∧ b = false) ∨ ((s.channel k).phaseA = false ∧
      (s.channel k).phaseB = true ∧ a = true ∧ b = true) ∨ ((s.channel k).phaseA = false ∧ (s.channel k).phaseB =
      false ∧ a = false ∧ b = true))) ∧ (¬ ((s.params.edgeMode[k]) = 4 ∨ ((s.params.edgeMode[k]) = 2 ∧
      (s.channel k).phaseA ≠ a) ∨ ((s.params.edgeMode[k]) = 1 ∧ (s.channel k).phaseA = false ∧ a = true)))) :=
  ⟨⟨encSet 1 false false false (cal opn 1 65000), 1, true, false, by unfold State.settled; decide +kernel⟩,
   ⟨encSet 2 true false false (opn), 1, true, false, by unfold State.settled; decide +kernel⟩,
   ⟨encSet 4 false false false (cal opn 1 (-999)), 1, false, true, by unfold State.settled; decide +kernel⟩,
   ⟨encSet 4 true true true (opn), 1, true, false, by unfold State.settled; decide +kernel⟩,
   ⟨encSet 2 false true false (opn), 1, true, true, by unfold State.settled; decide +kernel⟩⟩

theorem witness_EncoderTransitionCounts_AQuadratureErrorFaultsTheChannel :
    (∃ (s : State) (k : Crane) (a b : Bool) (sp : Span), s.inReset = false ∧ s.settled ∧ (s.channel k).phaseA ≠ a ∧
      (s.channel k).phaseB ≠ b ∧ (s.channel k).state ≠ .faulted ∧ (s.rail k).state = .ready ∧ (s.rail k).reservation =
      .calibrated sp) :=
  ⟨two 5000 50000, 1, true, true, ⟨48800, 51200⟩, by unfold State.settled; decide +kernel⟩

theorem witness_ReferenceEdgeCalibratesOrChecks_ReferenceEdgeNotTaken :
    (∃ (s : State) (k : Crane) (level : Bool), s.inReset = false ∧ s.settled ∧ (level = false ∨ (s.channel k).refLevel
      = true ∨ (s.channel k).state = .faulted ∨ (s.channel k).direction ≠
      (if isWest k then Direction.west else Direction.east))) :=
  ⟨opn, 0, true, by unfold State.settled; decide +kernel⟩

theorem witness_ReferenceEdgeCalibratesOrChecks_ReferenceEdgeCalibrates :
    (∃ (s : State) (k : Crane), s.inReset = false ∧ s.settled ∧ (s.channel k).refLevel = false ∧ (s.channel k).state =
      .uncalibrated ∧ (s.channel k).direction = (if isWest k then Direction.west else Direction.east) ∧
      (s.channel k).envelope = none ∧ (s.rail k).pending = none ∧ (s.rail (otherCrane k)).pending = none ∧
      (((s.params.refCount[k]).toInt * (s.params.pitch[k] : Int)).fdiv 1000) ≥ -1000 ∧ (((s.params.refCount[k]).toInt
      * (s.params.pitch[k] : Int)).fdiv 1000) ≤ s.params.railLength[aisleOf k] + 1000 ∧ (s.rail k).state ≠ .offline ∧
      (s.rail k).state ≠ .lost) ∧
    (∃ (s : State) (k : Crane), s.inReset = false ∧ s.settled ∧ (s.channel k).refLevel = false ∧ (s.channel k).state =
      .uncalibrated ∧ (s.channel k).direction = (if isWest k then Direction.west else Direction.east) ∧
      (s.channel k).envelope = none ∧ (s.rail k).pending = none ∧ (s.rail (otherCrane k)).pending = none ∧
      (((s.params.refCount[k]).toInt * (s.params.pitch[k] : Int)).fdiv 1000) ≥ -1000 ∧ (((s.params.refCount[k]).toInt
      * (s.params.pitch[k] : Int)).fdiv 1000) ≤ s.params.railLength[aisleOf k] + 1000 ∧ (s.rail k).state = .offline) :=
  ⟨⟨homing 0 .uncalibrated (rdy opn 0 .unhomed), 0, by unfold State.settled; decide +kernel⟩,
   ⟨homing 0 .uncalibrated opn, 0, by unfold State.settled; decide +kernel⟩⟩

theorem witness_ReferenceEdgeCalibratesOrChecks_ReferenceEdgeChecksTheCount :
    (∃ (s : State) (k : Crane), s.inReset = false ∧ s.settled ∧ (s.channel k).refLevel = false ∧ (s.channel k).state =
      .calibrated ∧ (s.channel k).direction = (if isWest k then Direction.west else Direction.east) ∧
      ((((s.channel k).counter.toInt - (s.params.refCount[k]).toInt).natAbs * s.params.pitch[k]) : Int) ≤
      s.params.tRef * 1000 ∧ -1000 ≤ (((s.params.refCount[k]).toInt * (s.params.pitch[k] : Int)).fdiv 1000) ∧
      (((s.params.refCount[k]).toInt * (s.params.pitch[k] : Int)).fdiv 1000) ≤ s.params.railLength[aisleOf k] + 1000) ∧
    (∃ (s : State) (k : Crane), s.inReset = false ∧ s.settled ∧ (s.channel k).refLevel = false ∧ (s.channel k).state =
      .calibrated ∧ (s.channel k).direction = (if isWest k then Direction.west else Direction.east) ∧ s.params.tRef *
      1000 < ((((s.channel k).counter.toInt - (s.params.refCount[k]).toInt).natAbs * s.params.pitch[k]) : Int) ∧
      (s.rail k).state = .ready) :=
  ⟨⟨homing 0 .calibrated (two 20 50000), 0, by unfold State.settled; decide +kernel⟩,
   ⟨homing 0 .calibrated (two 21 50000), 0, by unfold State.settled; decide +kernel⟩⟩

theorem witness_ForkEdgeWritesTheCapture :
    (∃ (s : State) (k : Crane), s.inReset = false ∧ (s.channel k).forkLevel = false) ∧
    (∃ (s : State) (k : Crane), s.inReset = false ∧ (s.channel k).forkLevel = true) ∧
    (∃ (s : State) (k : Crane), s.inReset = false) :=
  ⟨⟨two 5000 50000, 1, by decide +kernel⟩,
   ⟨opn.modChannel 1 (fun c => { c with forkLevel := true }), 1, by decide +kernel⟩,
   ⟨opn, 1, by decide +kernel⟩⟩

theorem witness_WindowEndMeasures :
    (∃ (s : State) (k : Crane), s.inReset = false ∧ (s.channel k).windowLeft = 0 ∧ s.settled ∧ (s.fire
      (aisleOf k)).state ≠ .parking ∧ (s.channel k).state = .calibrated ∧ (s.rail k).state = .ready ∧ (s.edges k).east
      < s.posMm k + s.params.halfLength + 1) ∧
    (∃ (s : State) (k : Crane), s.inReset = false ∧ (s.channel k).windowLeft = 0 ∧ s.settled ∧ (s.fire
      (aisleOf k)).state ≠ .parking ∧ (s.channel k).state = .calibrated ∧ (s.edges k).west = s.posMm k -
      s.params.halfLength ∧ (s.edges k).east = s.posMm k + s.params.halfLength) :=
  ⟨⟨winEnd 7 (two 5000 50000), 1, by unfold State.settled; decide +kernel⟩,
   ⟨winEnd 0 (two 5000 50000), 1, by unfold State.settled; decide +kernel⟩⟩

theorem witness_WindowEndMeasures_AClearPlaneReleasesItsLine :
    (∃ (s : State) (k : Crane), s.inReset = false ∧ (s.channel k).windowLeft = 0 ∧ s.settled ∧ (s.fire
      (aisleOf k)).state = .parking) ∧
    (∃ (s : State) (k : Crane), s.inReset = false ∧ (s.channel k).windowLeft = 0 ∧ s.settled ∧ (s.fire
      (aisleOf k)).state = .parking) :=
  ⟨⟨winEnd 0 (fired .parking (planes false true false true (two 8000 50000))), 1,
     by unfold State.settled; decide +kernel⟩,
   ⟨winEnd 0 (fired .parking (planes false true false true (two 4000 50000))), 1,
     by unfold State.settled; decide +kernel⟩⟩

theorem witness_FireLinesRaiseTheAlarm_AFireLineWithoutAnEdge :
    (∃ (s : State) (line : FireLine) (active : Bool), s.inReset = false ∧ s.settled ∧ (∀ a : Aisle, active = false ∨
      (line = .fire0 ∧ a = 1) ∨ (line = .fire1 ∧ a = 0) ∨ s.alarm a = true ∨ (s.fire a).state = .parking ∨
      (s.fire a).state = .closing ∨ (s.fire a).state = .sealed)) ∧
    (∃ (s : State) (line : FireLine) (active : Bool), s.inReset = false ∧ s.settled ∧ (∀ a : Aisle, active = false ∨
      (line = .fire0 ∧ a = 1) ∨ (line = .fire1 ∧ a = 0) ∨ s.alarm a = true ∨ (s.fire a).state = .parking ∨
      (s.fire a).state = .closing ∨ (s.fire a).state = .sealed)) :=
  ⟨⟨opn, .fireW, false, by unfold State.settled; decide +kernel⟩,
   ⟨fired .closing opn, .fire0, true, by unfold State.settled; decide +kernel⟩⟩

theorem witness_FireLinesRaiseTheAlarm_AnAlarmEdgeParksTheAisle :
    (∃ (s : State) (line : FireLine) (a : Aisle), s.inReset = false ∧ s.settled ∧ s.alarm a = false ∧ (line = .fireW ∨
      (line = .fire0 ∧ a = 0) ∨ (line = .fire1 ∧ a = 1)) ∧ ((s.fire a).state = .normal ∨ (s.fire a).state =
      .reopening) ∧ (∃ k ∈ cranesOf a, (s.shutter k).holdOpen = true ∧ (s.shutter k).planeClear = false) ∧ (∀ k,
      (s.crane k).active = none) ∧ s.tablesWf ∧ s.tasks.entries.length ≤ 60) :=
  ⟨withQ ((planes false true true true (two 5000 50000)).setClaim 4 (clm .lend .presented 9 1)) 1 5 (tk 1 .fetch 3
    (some 9)), .fireW, 0, by unfold State.settled State.tablesWf; decide +kernel⟩

theorem witness_FireLinesRaiseTheAlarm_AnAlarmEdgePreempts :
    (∃ (s : State) (line : FireLine) (k : Crane) (old : Nat) (o : Task), s.inReset = false ∧ s.settled ∧ s.stackLaw ∧
      s.tasks.entries.length ≤ 60 ∧ s.alarm (aisleOf k) = false ∧ (line = .fireW ∨ (line = .fire0 ∧ aisleOf k = 0) ∨
      (line = .fire1 ∧ aisleOf k = 1)) ∧ ((s.fire (aisleOf k)).state = .normal ∨ (s.fire (aisleOf k)).state =
      .reopening) ∧ ((s.rail k).state = .ready ∨ (s.rail k).state = .unhomed) ∧ (s.crane k).stack.length < 4 ∧
      (s.crane k).active = some old ∧ s.task? old = some o ∧ (∀ e ∈ s.tasks.entries, e.2.crane = k → e.2.kind ≠ .park)
      ∧ ((s.crane k).undelivered = .push → o.kind = .fetch → s.backlog = [])) :=
  ⟨rdy (withA opn 1 5 (tk 1 .fetch 3 (some 9) .active)) 1, .fire0, 1, 5, tk 1 .fetch 3 (some 9) .active,
    by unfold State.stackLaw State.craneLaw State.holds State.classes State.settled; decide +kernel⟩

theorem witness_FireLinesRaiseTheAlarm_AnAlarmEdgeFindsNoRoom :
    (∃ (s : State) (line : FireLine) (k : Crane) (old : Nat) (o : Task), s.inReset = false ∧ s.settled ∧ s.stackLaw ∧
      s.tasks.entries.length ≤ 60 ∧ s.alarm (aisleOf k) = false ∧ (line = .fireW ∨ (line = .fire0 ∧ aisleOf k = 0) ∨
      (line = .fire1 ∧ aisleOf k = 1)) ∧ ((s.fire (aisleOf k)).state = .normal ∨ (s.fire (aisleOf k)).state =
      .reopening) ∧ ((s.rail k).state = .ready ∨ (s.rail k).state = .unhomed) ∧ (s.crane k).stack.length = 4 ∧
      (s.crane k).active = some old ∧ s.task? old = some o ∧ (∀ e ∈ s.tasks.entries, e.2.crane = k → e.2.kind ≠ .park)
      ∧ (s.crane k).roomRefusal = false) ∧
    (∃ (s : State) (line : FireLine) (k : Crane) (old : Nat) (o : Task), s.inReset = false ∧ s.settled ∧ s.stackLaw ∧
      s.tasks.entries.length ≤ 60 ∧ s.alarm (aisleOf k) = false ∧ (line = .fireW ∨ (line = .fire0 ∧ aisleOf k = 0) ∨
      (line = .fire1 ∧ aisleOf k = 1)) ∧ ((s.fire (aisleOf k)).state = .normal ∨ (s.fire (aisleOf k)).state =
      .reopening) ∧ ((s.rail k).state = .ready ∨ (s.rail k).state = .unhomed) ∧ (s.crane k).stack.length = 4 ∧
      (s.crane k).active = some old ∧ s.task? old = some o ∧ (∀ e ∈ s.tasks.entries, e.2.crane = k → e.2.kind ≠ .park)
      ∧ (s.crane k).roomRefusal = true) :=
  ⟨⟨fourDeep false, .fireW, 1, 5, tk 1 .home 1 none .active,
     by unfold State.stackLaw State.craneLaw State.holds State.classes State.settled; decide +kernel⟩,
   ⟨fourDeep true, .fire0, 1, 5, tk 1 .home 1 none .active,
     by unfold State.stackLaw State.craneLaw State.holds State.classes State.settled; decide +kernel⟩⟩

theorem witness_ShutterInputIsTaken :
    (∃ (s : State) (k : Crane) (input : ShutterInput) (level : Bool), s.inReset = false ∧ s.settled ∧ ((s.fire
      (aisleOf k)).state = .normal ∨ (s.fire (aisleOf k)).state = .parking)) ∧
    (∃ (s : State) (k : Crane) (input : ShutterInput) (level : Bool), s.inReset = false ∧ s.settled ∧ (s.fire
      (aisleOf k)).state = .closing ∧ (s.shutter k).isClosed = true) ∧
    (∃ (s : State) (k : Crane) (input : ShutterInput) (level : Bool), s.inReset = false ∧ s.settled ∧ (s.fire
      (aisleOf k)).state = .reopening ∧ ((s.shutter k).isOpen = true ∨ ¬ (∀ j ∈ cranesOf (aisleOf k), ((s.modShutter k
      (fun _ =>
      (((match input with | .openInput => { s.shutter k with openIn := level } | .closedInput => { s.shutter k with closedIn := level })
      : Shutter)))).shutter j).isOpen = true))) ∧
    (∃ (s : State) (k : Crane) (input : ShutterInput) (level : Bool), s.inReset = false ∧ s.settled ∧ (s.fire
      (aisleOf k)).state = .closing ∧ (s.shutter k).isClosed = false ∧ (∀ j ∈ cranesOf (aisleOf k), ((s.modShutter k
      (fun _ =>
      (((match input with | .openInput => { s.shutter k with openIn := level } | .closedInput => { s.shutter k with closedIn := level })
      : Shutter)))).shutter j).isClosed = true)) ∧
    (∃ (s : State) (k : Crane) (input : ShutterInput) (level : Bool), s.inReset = false ∧ s.settled ∧ (s.fire
      (aisleOf k)).state = .closing ∧ (s.shutter k).isClosed = false ∧ (¬ (∀ j ∈ cranesOf (aisleOf k), ((s.modShutter
      k (fun _ =>
      (((match input with | .openInput => { s.shutter k with openIn := level } | .closedInput => { s.shutter k with closedIn := level })
      : Shutter)))).shutter j).isClosed = true))) ∧
    (∃ (s : State) (k : Crane) (input : ShutterInput) (level : Bool), s.inReset = false ∧ s.settled ∧ (s.fire
      (aisleOf k)).state = .sealed ∧ (s.shutter k).isClosed = true ∧
      ((((match input with | .openInput => { s.shutter k with openIn := level } | .closedInput => { s.shutter k with closedIn := level })
      : Shutter)).isClosed = false)) ∧
    (∃ (s : State) (k : Crane) (input : ShutterInput) (level : Bool), s.inReset = false ∧ s.settled ∧ (s.fire
      (aisleOf k)).state = .sealed ∧ ((s.shutter k).isClosed = false ∨
      (((match input with | .openInput => { s.shutter k with openIn := level } | .closedInput => { s.shutter k with closedIn := level })
      : Shutter)).isClosed = true)) :=
  ⟨⟨opn, 1, .openInput, true, by unfold State.settled; decide +kernel⟩,
   ⟨fired .closing (shut opn), 1, .closedInput, false, by unfold State.settled; decide +kernel⟩,
   ⟨fired .reopening opn, 1, .openInput, false, by unfold State.settled; decide +kernel⟩,
   ⟨fired .closing (opn.modShutter 0 (fun x => { x with closedIn := true })), 1, .closedInput, true,
     by unfold State.settled; decide +kernel⟩,
   ⟨fired .closing opn, 1, .closedInput, true, by unfold State.settled; decide +kernel⟩,
   ⟨fired .sealed (shut opn), 1, .openInput, true, by unfold State.settled; decide +kernel⟩,
   ⟨fired .sealed opn, 1, .openInput, true, by unfold State.settled; decide +kernel⟩⟩

theorem witness_AnAisleReturnsToNormal :
    (∃ (s : State) (k : Crane) (input : ShutterInput) (level : Bool), s.inReset = false ∧ s.settled ∧ (s.fire
      (aisleOf k)).state = .reopening ∧ (s.shutter k).isOpen = false ∧ (∀ j ∈ cranesOf (aisleOf k), ((s.modShutter k
      (fun _ =>
      (((match input with | .openInput => { s.shutter k with openIn := level } | .closedInput => { s.shutter k with closedIn := level })
      : Shutter)))).shutter j).isOpen = true) ∧ (s.rail 0).state = .parked ∧ (s.rail 1).state = .ready) ∧
    (∃ (s : State) (k : Crane) (input : ShutterInput) (level : Bool), s.inReset = false ∧ s.settled ∧ (s.fire
      (aisleOf k)).state = .reopening ∧ (s.shutter k).isOpen = false ∧ (∀ j ∈ cranesOf (aisleOf k), ((s.modShutter k
      (fun _ =>
      (((match input with | .openInput => { s.shutter k with openIn := level } | .closedInput => { s.shutter k with closedIn := level })
      : Shutter)))).shutter j).isOpen = true) ∧ s.claim? 7 = some (clm .lend .held 8 0) ∧ 7 ∉ s.backlog) ∧
    (∃ (s : State) (k : Crane) (input : ShutterInput) (level : Bool), s.inReset = false ∧ s.settled ∧ (s.fire
      (aisleOf k)).state = .reopening ∧ (s.shutter k).isOpen = false ∧ (∀ j ∈ cranesOf (aisleOf k), ((s.modShutter k
      (fun _ =>
      (((match input with | .openInput => { s.shutter k with openIn := level } | .closedInput => { s.shutter k with closedIn := level })
      : Shutter)))).shutter j).isOpen = true) ∧ (s.rail 0).state = .unhomed ∧ s.calibrated 0 = false ∧
      (s.rail 1).state = .lost) :=
  ⟨⟨fired .reopening ((rdy (two 5000 50000) 0 .parked).modShutter 0 (fun x => { x with openIn := true })), 1,
     .openInput, true, by unfold State.settled; decide +kernel⟩,
   ⟨returning, 1, .openInput, true, by unfold State.settled; decide +kernel⟩,
   ⟨fired .reopening ((rdy (rdy opn 0 .unhomed) 1 .lost).modShutter 0 (fun x => { x with openIn := true })), 1,
     .openInput, true, by unfold State.settled; decide +kernel⟩⟩

theorem witness_AnAisleReturnsToNormal_TheReturnToNormalGivesTheWorkBack :
    (∃ (s : State) (k : Crane) (input : ShutterInput) (level : Bool), s.workLaws ∧ s.inReset = false ∧ s.settled ∧
      (s.fire (aisleOf k)).state = .reopening ∧ (s.shutter k).isOpen = false ∧ (∀ j ∈ cranesOf (aisleOf k),
      ((s.modShutter k (fun _ =>
      (((match input with | .openInput => { s.shutter k with openIn := level } | .closedInput => { s.shutter k with closedIn := level })
      : Shutter)))).shutter j).isOpen = true) ∧ s.task? 5 = some (tk 1 .park 0 none .active) ∧ s.task? 10 = some
      (tk 0 .park 0 none .active) ∧ (s.crane 1).active = some 5 ∧ (s.crane 1).stack = [6] ∧ s.task? 6 = some rO ∧ (∀ i
      ∈ (s.crane 1).queue, ∀ v ∈ s.task? i, 5 ≤ v.cls) ∧ (s.crane 0).active = some 10 ∧ (s.crane 0).stack = []) :=
  ⟨returning, 1, .openInput, true, returning_workLaws, by unfold State.settled; decide +kernel⟩

theorem witness_ShutterTimersExpire_ShutterHoldExpiryCloses :
    (∃ (s : State) (a : Aisle), s.inReset = false ∧ (s.fire a).state = .parking ∧ (s.fire a).hold = ⟨true, 0⟩ ∧ (¬ (∀
      k ∈ cranesOf a, (s.shutter k).isClosed = true))) ∧
    (∃ (s : State) (a : Aisle), s.inReset = false ∧ (s.fire a).state = .parking ∧ (s.fire a).hold = ⟨true, 0⟩ ∧ (∀ k ∈
      cranesOf a, (s.shutter k).isClosed = true)) :=
  ⟨⟨timed .parking ⟨true, 0⟩ ⟨false, 3⟩ (two 5000 50000), 0, by decide +kernel⟩,
   ⟨timed .parking ⟨true, 0⟩ ⟨false, 3⟩ (shut opn), 0, by decide +kernel⟩⟩

theorem witness_ShutterTimersExpire_ShutterConfirmExpiryFaults :
    (∃ (s : State) (a : Aisle), s.inReset = false ∧ (s.fire a).confirm = ⟨true, 0⟩ ∧ (s.fire a).state = .closing) ∧
    (∃ (s : State) (a : Aisle), s.inReset = false ∧ (s.fire a).confirm = ⟨true, 0⟩ ∧ (s.fire a).state = .reopening) :=
  ⟨⟨timed .closing ⟨false, 0⟩ ⟨true, 0⟩ opn, 0, by decide +kernel⟩,
   ⟨timed .reopening ⟨false, 0⟩ ⟨true, 0⟩ opn, 0, by decide +kernel⟩⟩

theorem witness_ResumeAisleReopens :
    (∃ (s : State) (q : Request), s.hasRequest .c q ∧ q.kind = .resumeAisle ∧ s.settled ∧ 1 < byteAt q.body 0) ∧
    (∃ (s : State) (q : Request), ∃ a : Aisle, s.hasRequest .c q ∧ q.kind = .resumeAisle ∧ s.settled ∧ byteAt q.body 0
      = a.val ∧ s.alarm a = true) ∧
    (∃ (s : State) (q : Request), ∃ a : Aisle, s.hasRequest .c q ∧ q.kind = .resumeAisle ∧ s.settled ∧ byteAt q.body 0
      = a.val ∧ s.alarm a = false ∧ ((s.fire a).state = .normal ∨ (s.fire a).state = .parking ∨ (s.fire a).state =
      .closing)) ∧
    (∃ (s : State) (q : Request), ∃ a : Aisle, s.hasRequest .c q ∧ q.kind = .resumeAisle ∧ s.settled ∧ byteAt q.body 0
      = a.val ∧ s.alarm a = false ∧ ((s.fire a).state = .sealed ∨ (s.fire a).state = .reopening) ∧ (¬ (∀ k ∈ cranesOf
      a, (s.shutter k).isOpen = true))) ∧
    (∃ (s : State) (q : Request), ∃ a : Aisle, s.hasRequest .c q ∧ q.kind = .resumeAisle ∧ s.settled ∧ byteAt q.body 0
      = a.val ∧ s.alarm a = false ∧ ((s.fire a).state = .sealed ∨ (s.fire a).state = .reopening) ∧ (∀ k ∈ cranesOf a,
      (s.shutter k).isOpen = true)) :=
  ⟨⟨req .c .resumeAisle [2] (opn), rq .resumeAisle [2], by unfold State.hasRequest State.settled; decide +kernel⟩,
   ⟨req .c .resumeAisle [1] ({ opn with fireLines := ⟨false, true, false⟩ }), rq .resumeAisle [1], 1,
     by unfold State.hasRequest State.settled; decide +kernel⟩,
   ⟨req .c .resumeAisle [0] (opn), rq .resumeAisle [0], 0, by unfold State.hasRequest State.settled; decide +kernel⟩,
   ⟨req .c .resumeAisle [0] (fired .sealed opn), rq .resumeAisle [0], 0,
     by unfold State.hasRequest State.settled; decide +kernel⟩,
   ⟨req .c .resumeAisle [0] (fired .reopening (planes false true false true opn)), rq .resumeAisle [0], 0,
     by unfold State.hasRequest State.settled; decide +kernel⟩⟩

theorem witness_ConfigureSetsParameters_ConfigureTakesAValue :
    (∃ (s : State) (q : Request), s.hasRequest .c q ∧ q.kind = .configure ∧ s.settled ∧ q.body.length = 7 ∧
      s.params.parkReach < s.params.parkClearance ∧ wordAt q.body 0 = 20 ∧ byteAt q.body 2 = 0) ∧
    (∃ (s : State) (q : Request), ∃ k : Crane, s.hasRequest .c q ∧ q.kind = .configure ∧ s.settled ∧ q.body.length = 7
      ∧ s.params.parkReach < s.params.parkClearance ∧ wordAt q.body 0 = 29 ∧ byteAt q.body 2 = k.val) :=
  ⟨⟨req .c .configure (cfg 20 0 201) (opn), rq .configure (cfg 20 0 201),
     by unfold State.hasRequest State.settled; decide +kernel⟩,
   ⟨req .c .configure (cfg 29 3 99) (opn), rq .configure (cfg 29 3 99), 3,
     by unfold State.hasRequest State.settled; decide +kernel⟩⟩

theorem witness_ConfigureSetsParameters_ConfigureRefused :
    (∃ (s : State) (q : Request), s.hasRequest .c q ∧ q.kind = .configure ∧ q.body.length = 7 ∧ ((wordAt q.body 0) = 0
      ∨ (wordAt q.body 0) = 14 ∨ (wordAt q.body 0) = 15 ∨ 38 < (wordAt q.body 0) ∨ (byteAt q.body 2) ≥ (if
      (wordAt q.body 0) ≤ 5 then 1 else if (wordAt q.body 0) ≤ 8 then 2 else if (wordAt q.body 0) ≤ 19 ∨
      (wordAt q.body 0) = 29 then 4 else 1))) ∧
    (∃ (s : State) (q : Request), s.hasRequest .c q ∧ q.kind = .configure ∧ q.body.length = 7 ∧ (¬ ((wordAt q.body 0)
      = 0 ∨ (wordAt q.body 0) = 14 ∨ (wordAt q.body 0) = 15 ∨ 38 < (wordAt q.body 0) ∨ (byteAt q.body 2) ≥ (if
      (wordAt q.body 0) ≤ 5 then 1 else if (wordAt q.body 0) ≤ 8 then 2 else if (wordAt q.body 0) ≤ 19 ∨
      (wordAt q.body 0) = 29 then 4 else 1))) ∧ s.wing = .opened ∧ (wordAt q.body 0) ≤ 13) :=
  ⟨⟨req .c .configure (cfg 29 4 7) (opn), rq .configure (cfg 29 4 7), by unfold State.hasRequest; decide +kernel⟩,
   ⟨req .c .configure (cfg 13 3 7) (opn), rq .configure (cfg 13 3 7), by unfold State.hasRequest; decide +kernel⟩⟩

theorem witness_ConfigureSetsParameters_ConfigureRunsTheConsistencyPass :
    (∃ (s : State) (q : Request) (w : Int), (10 ≤ w ∧ w ≤ (max 10 (min (signedAt q.body 3) 500)) ∧ (∀ k, ∀ j ∈
      cranesOf (aisleOf k), (w + s.params.halfLength) < ((s.params.parkPos[k] - s.params.planePos[j]).natAbs : Int)) ∧
      ∀ x, w < x → x ≤ (max 10 (min (signedAt q.body 3) 500)) → ¬ (∀ k, ∀ j ∈ cranesOf (aisleOf k),
      (x + s.params.halfLength) < ((s.params.parkPos[k] - s.params.planePos[j]).natAbs : Int))) ∧ s.hasRequest .c q ∧
      q.kind = .configure ∧ s.settled ∧ q.body.length = 7 ∧ s.params.parkReach < s.params.parkClearance ∧
      (wordAt q.body 0 = 22 ∧ byteAt q.body 2 = 0)) ∧
    (∃ (s : State) (q : Request) (w : Int), (10 ≤ w ∧ w ≤ (max 10 (min (signedAt q.body 3) 500)) ∧ (∀ k, ∀ j ∈
      cranesOf (aisleOf k), (w + s.params.halfLength) < ((s.params.parkPos[k] - s.params.planePos[j]).natAbs : Int)) ∧
      ∀ x, w < x → x ≤ (max 10 (min (signedAt q.body 3) 500)) → ¬ (∀ k, ∀ j ∈ cranesOf (aisleOf k),
      (x + s.params.halfLength) < ((s.params.parkPos[k] - s.params.planePos[j]).natAbs : Int))) ∧ s.hasRequest .c q ∧
      q.kind = .configure ∧ s.settled ∧ q.body.length = 7 ∧ s.params.parkReach < s.params.parkClearance ∧
      (wordAt q.body 0 = 22 ∧ byteAt q.body 2 = 0)) ∧
    (∃ (s : State) (q : Request) (w : Int), (200 ≤ w ∧ w ≤ (max 200 (min (signedAt q.body 3) 5000)) ∧ (∀ k, ∀ j ∈
      cranesOf (aisleOf k), (w + s.params.tPark) < ((s.params.parkPos[k] - s.params.planePos[j]).natAbs : Int)) ∧ ∀ x,
      w < x → x ≤ (max 200 (min (signedAt q.body 3) 5000)) → ¬ (∀ k, ∀ j ∈ cranesOf (aisleOf k), (x + s.params.tPark)
      < ((s.params.parkPos[k] - s.params.planePos[j]).natAbs : Int))) ∧ s.hasRequest .c q ∧ q.kind = .configure ∧
      s.settled ∧ q.body.length = 7 ∧ s.params.parkReach < s.params.parkClearance ∧
      (wordAt q.body 0 = 26 ∧ byteAt q.body 2 = 0)) ∧
    (∃ (s : State) (q : Request) (w : Int), (200 ≤ w ∧ w ≤ (max 200 (min (signedAt q.body 3) 5000)) ∧ (∀ k, ∀ j ∈
      cranesOf (aisleOf k), (w + s.params.tPark) < ((s.params.parkPos[k] - s.params.planePos[j]).natAbs : Int)) ∧ ∀ x,
      w < x → x ≤ (max 200 (min (signedAt q.body 3) 5000)) → ¬ (∀ k, ∀ j ∈ cranesOf (aisleOf k), (x + s.params.tPark)
      < ((s.params.parkPos[k] - s.params.planePos[j]).natAbs : Int))) ∧ s.hasRequest .c q ∧ q.kind = .configure ∧
      s.settled ∧ q.body.length = 7 ∧ s.params.parkReach < s.params.parkClearance ∧
      (wordAt q.body 0 = 26 ∧ byteAt q.body 2 = 0)) ∧
    (∃ (s : State) (q : Request) (w : Int), ∃ c, (c ≤ s.params.gap ∧ w = c ∨ s.params.gap < c ∧ w ≤ c ∧ (∀ g, (∃
      (a : Aisle) (west east : Span), (s.rail (westCrane a)).reservation = .calibrated west ∧ (s.rail
      (eastCrane a)).reservation = .calibrated east ∧ g = east.west - west.east) → w ≤ g) ∧ (w = c ∨ (∃ (a : Aisle)
      (west east : Span), (s.rail (westCrane a)).reservation = .calibrated west ∧ (s.rail (eastCrane a)).reservation =
      .calibrated east ∧ w = east.west - west.east))) ∧ s.hasRequest .c q ∧ q.kind = .configure ∧ s.settled ∧
      q.body.length = 7 ∧ s.params.parkReach < s.params.parkClearance ∧ c = max 100 (min (signedAt q.body 3) 5000) ∧
      (wordAt q.body 0 = 27 ∧ byteAt q.body 2 = 0)) ∧
    (∃ (s : State) (q : Request) (w : Int), ∃ c, (c ≤ s.params.gap ∧ w = c ∨ s.params.gap < c ∧ w ≤ c ∧ (∀ g, (∃
      (a : Aisle) (west east : Span), (s.rail (westCrane a)).reservation = .calibrated west ∧ (s.rail
      (eastCrane a)).reservation = .calibrated east ∧ g = east.west - west.east) → w ≤ g) ∧ (w = c ∨ (∃ (a : Aisle)
      (west east : Span), (s.rail (westCrane a)).reservation = .calibrated west ∧ (s.rail (eastCrane a)).reservation =
      .calibrated east ∧ w = east.west - west.east))) ∧ s.hasRequest .c q ∧ q.kind = .configure ∧ s.settled ∧
      q.body.length = 7 ∧ s.params.parkReach < s.params.parkClearance ∧ c = max 100 (min (signedAt q.body 3) 5000) ∧
      (wordAt q.body 0 = 27 ∧ byteAt q.body 2 = 0)) ∧
    (∃ (s : State) (q : Request) (w : Int), ∃ k : Crane, s.hasRequest .c q ∧ q.kind = .configure ∧ s.settled ∧
      q.body.length = 7 ∧ s.params.parkReach < s.params.parkClearance ∧ s.wing = .loading ∧ 0 ≤
      s.params.railLength[aisleOf k] ∧ (wordAt q.body 0 = 9 ∧ byteAt q.body 2 = k.val) ∧ w = (max 0 (min (max 0 (min
      (signedAt q.body 3) 200000)) s.params.railLength[aisleOf k]))) ∧
    (∃ (s : State) (q : Request) (w : Int), ∃ k : Crane, s.hasRequest .c q ∧ q.kind = .configure ∧ s.settled ∧
      q.body.length = 7 ∧ s.params.parkReach < s.params.parkClearance ∧ s.wing = .loading ∧ 0 ≤
      s.params.railLength[aisleOf k] ∧ (wordAt q.body 0 = 12 ∧ byteAt q.body 2 = k.val) ∧ w = min ((max 0 (min (max 0
      (min (signedAt q.body 3) 200000)) s.params.railLength[aisleOf k]))) s.params.tmax[k]) ∧
    (∃ (s : State) (q : Request) (w : Int), ∃ k : Crane, s.hasRequest .c q ∧ q.kind = .configure ∧ s.settled ∧
      q.body.length = 7 ∧ s.params.parkReach < s.params.parkClearance ∧ s.wing = .loading ∧ 0 ≤
      s.params.railLength[aisleOf k] ∧ (wordAt q.body 0 = 13 ∧ byteAt q.body 2 = k.val) ∧ w = max ((max 0 (min (max 0
      (min (signedAt q.body 3) 200000)) s.params.railLength[aisleOf k]))) s.params.tmin[k]) ∧
    (∃ (s : State) (q : Request) (w : Int), ∃ k : Crane, ((0 ≤ w ∧ w ≤ s.params.railLength[aisleOf k] ∧ ∀ j ∈ cranesOf
      (aisleOf k), s.params.halfLength + s.params.tPark < ((w - (fun j => s.params.parkPos[j]) j).natAbs : Int)) ∧ ∀
      x, (0 ≤ x ∧ x ≤ s.params.railLength[aisleOf k] ∧ ∀ j ∈ cranesOf (aisleOf k), s.params.halfLength +
      s.params.tPark < ((x - (fun j => s.params.parkPos[j]) j).natAbs : Int)) → ((w - (max 0 (min (max 0 (min
      (signedAt q.body 3) 200000)) s.params.railLength[aisleOf k]))).natAbs) < ((x - (max 0 (min (max 0 (min
      (signedAt q.body 3) 200000)) s.params.railLength[aisleOf k]))).natAbs) ∨ (((w - (max 0 (min (max 0 (min
      (signedAt q.body 3) 200000)) s.params.railLength[aisleOf k]))).natAbs) = ((x - (max 0 (min (max 0 (min
      (signedAt q.body 3) 200000)) s.params.railLength[aisleOf k]))).natAbs) ∧ w ≤ x)) ∧ s.hasRequest .c q ∧ q.kind =
      .configure ∧ s.settled ∧ q.body.length = 7 ∧ s.params.parkReach < s.params.parkClearance ∧ s.wing = .loading ∧ 0
      ≤ s.params.railLength[aisleOf k] ∧ (wordAt q.body 0 = 10 ∧ byteAt q.body 2 = k.val)) ∧
    (∃ (s : State) (q : Request) (w : Int), ∃ k : Crane, ((0 ≤ w ∧ w ≤ s.params.railLength[aisleOf k] ∧ ∀ j ∈ cranesOf
      (aisleOf k), s.params.halfLength + s.params.tPark < ((w - (fun j => s.params.planePos[j]) j).natAbs : Int)) ∧ ∀
      x, (0 ≤ x ∧ x ≤ s.params.railLength[aisleOf k] ∧ ∀ j ∈ cranesOf (aisleOf k), s.params.halfLength +
      s.params.tPark < ((x - (fun j => s.params.planePos[j]) j).natAbs : Int)) → ((w - (max 0 (min (max 0 (min
      (signedAt q.body 3) 200000)) s.params.railLength[aisleOf k]))).natAbs) < ((x - (max 0 (min (max 0 (min
      (signedAt q.body 3) 200000)) s.params.railLength[aisleOf k]))).natAbs) ∨ (((w - (max 0 (min (max 0 (min
      (signedAt q.body 3) 200000)) s.params.railLength[aisleOf k]))).natAbs) = ((x - (max 0 (min (max 0 (min
      (signedAt q.body 3) 200000)) s.params.railLength[aisleOf k]))).natAbs) ∧ w ≤ x)) ∧ s.hasRequest .c q ∧ q.kind =
      .configure ∧ s.settled ∧ q.body.length = 7 ∧ s.params.parkReach < s.params.parkClearance ∧ s.wing = .loading ∧ 0
      ≤ s.params.railLength[aisleOf k] ∧ (wordAt q.body 0 = 11 ∧ byteAt q.body 2 = k.val)) ∧
    (∃ (s : State) (q : Request) (w : Int), ∃ k : Crane, (∀ x, ¬ (0 ≤ x ∧ x ≤ s.params.railLength[aisleOf k] ∧ ∀ j ∈
      cranesOf (aisleOf k), s.params.halfLength + s.params.tPark < ((x - (fun j => s.params.parkPos[j]) j).natAbs :
      Int))) ∧ s.hasRequest .c q ∧ q.kind = .configure ∧ s.settled ∧ q.body.length = 7 ∧ s.params.parkReach <
      s.params.parkClearance ∧ s.wing = .loading ∧ 0 ≤ s.params.railLength[aisleOf k] ∧
      (wordAt q.body 0 = 10 ∧ byteAt q.body 2 = k.val)) ∧
    (∃ (s : State) (q : Request) (w : Int), ∃ k : Crane, (∀ x, ¬ (0 ≤ x ∧ x ≤ s.params.railLength[aisleOf k] ∧ ∀ j ∈
      cranesOf (aisleOf k), s.params.halfLength + s.params.tPark < ((x - (fun j => s.params.planePos[j]) j).natAbs :
      Int))) ∧ s.hasRequest .c q ∧ q.kind = .configure ∧ s.settled ∧ q.body.length = 7 ∧ s.params.parkReach <
      s.params.parkClearance ∧ s.wing = .loading ∧ 0 ≤ s.params.railLength[aisleOf k] ∧
      (wordAt q.body 0 = 11 ∧ byteAt q.body 2 = k.val)) :=
  ⟨⟨req .c .configure (cfg 22 0 500) (opn), rq .configure (cfg 22 0 500), 500, ⟨by decide +kernel, by decide +kernel,
     by decide +kernel, fun x h1 h2 h => absurd (lt_of_lt_of_le h1 h2) (by decide +kernel)⟩,
     by unfold State.hasRequest State.settled; decide +kernel⟩,
   ⟨req .c .configure (cfg 22 0 500) ({ opn with params := { opn.params with halfLength := 1900 } }), rq .configure
     (cfg 22 0 500), 99, ⟨by decide +kernel, by decide +kernel, by decide +kernel, fun x h1 _ h => far_tPark x h1 (h 0
     0 (by decide))⟩, by unfold State.hasRequest State.settled; decide +kernel⟩,
   ⟨req .c .configure (cfg 26 0 1949) (opn), rq .configure (cfg 26 0 1949), 1949, ⟨by decide +kernel,
     by decide +kernel, by decide +kernel, fun x h1 h2 h => absurd (lt_of_lt_of_le h1 h2) (by decide +kernel)⟩,
     by unfold State.hasRequest State.settled; decide +kernel⟩,
   ⟨req .c .configure (cfg 26 0 5000) (opn), rq .configure (cfg 26 0 5000), 1949, ⟨by decide +kernel,
     by decide +kernel, by decide +kernel, fun x h1 _ h => far_half x h1 (h 0 0 (by decide))⟩,
     by unfold State.hasRequest State.settled; decide +kernel⟩,
   ⟨req .c .configure (cfg 27 0 300) (opn), rq .configure (cfg 27 0 300), 300, 300, Or.inl (by decide +kernel),
     by unfold State.hasRequest State.settled; decide +kernel⟩,
   ⟨req .c .configure (cfg 27 0 5000) (two 5000 9000), rq .configure (cfg 27 0 5000), 1600, 5000, Or.inr
     ⟨by decide +kernel, by decide +kernel, smallest_gap, Or.inr ⟨0, ⟨3800, 6200⟩, ⟨7800, 10200⟩, rfl, rfl,
     by decide⟩⟩, by unfold State.hasRequest State.settled; decide +kernel⟩,
   ⟨req .c .configure (cfg 9 2 70000) (State.reset), rq .configure (cfg 9 2 70000), 64000, 2,
     by unfold State.hasRequest State.settled; decide +kernel⟩,
   ⟨req .c .configure (cfg 12 1 63000) (State.reset), rq .configure (cfg 12 1 63000), 62800, 1,
     by unfold State.hasRequest State.settled; decide +kernel⟩,
   ⟨req .c .configure (cfg 13 1 5) (State.reset), rq .configure (cfg 13 1 5), 1200, 1,
     by unfold State.hasRequest State.settled; decide +kernel⟩,
   ⟨req .c .configure (cfg 10 0 6000) (State.reset), rq .configure (cfg 10 0 6000), 4749, 0, ⟨by decide +kernel, fun x
     hx => nearest_6000 x (hx.2.2 0 (by decide))⟩, by unfold State.hasRequest State.settled; decide +kernel⟩,
   ⟨req .c .configure (cfg 11 0 4000) (State.reset), rq .configure (cfg 11 0 4000), 2749, 0, ⟨by decide +kernel, fun x
     hx => nearest_4000 x (hx.2.2 0 (by decide))⟩, by unfold State.hasRequest State.settled; decide +kernel⟩,
   ⟨req .c .configure (cfg 10 0 700) (crowded 5000 1000), rq .configure (cfg 10 0 700), 0, 0, fun x hx => none_clear x
     hx.1 hx.2.1 (hx.2.2 0 (by decide)), by unfold State.hasRequest State.settled; decide +kernel⟩,
   ⟨req .c .configure (cfg 11 0 700) (crowded 1000 5000), rq .configure (cfg 11 0 700), 0, 0, fun x hx => none_clear x
     hx.1 hx.2.1 (hx.2.2 0 (by decide)), by unfold State.hasRequest State.settled; decide +kernel⟩⟩

theorem witness_ConfigureSetsParameters_ConfigureSetsTheGeometry :
    (∃ (s : State) (q : Request) (w : Int) (a : Aisle), (∀ x, (∃ k ∈ cranesOf a, x = s.params.stationPos[k] ∨ x =
      s.params.planePos[k] ∨ x = s.params.parkPos[k] ∨ x = s.params.tmax[k]) → x ≤ w) ∧ (w = (max 1000 (min
      (signedAt q.body 3) 200000)) ∨ (∃ k ∈ cranesOf a, w = s.params.stationPos[k] ∨ w = s.params.planePos[k] ∨ w =
      s.params.parkPos[k] ∨ w = s.params.tmax[k])) ∧ s.hasRequest .c q ∧ q.kind = .configure ∧ s.settled ∧
      q.body.length = 7 ∧ s.params.parkReach < s.params.parkClearance ∧ s.wing = .loading ∧
      (wordAt q.body 0 = 8 ∧ byteAt q.body 2 = a.val) ∧ (max 1000 (min (signedAt q.body 3) 200000)) ≤ w) ∧
    (∃ (s : State) (q : Request) (w : Int) (a : Aisle), (∀ x, (∃ k ∈ cranesOf a, x = s.params.stationPos[k] ∨ x =
      s.params.planePos[k] ∨ x = s.params.parkPos[k] ∨ x = s.params.tmax[k]) → x ≤ w) ∧ (w = (max 1000 (min
      (signedAt q.body 3) 200000)) ∨ (∃ k ∈ cranesOf a, w = s.params.stationPos[k] ∨ w = s.params.planePos[k] ∨ w =
      s.params.parkPos[k] ∨ w = s.params.tmax[k])) ∧ s.hasRequest .c q ∧ q.kind = .configure ∧ s.settled ∧
      q.body.length = 7 ∧ s.params.parkReach < s.params.parkClearance ∧ s.wing = .loading ∧
      (wordAt q.body 0 = 8 ∧ byteAt q.body 2 = a.val) ∧ (max 1000 (min (signedAt q.body 3) 200000)) ≤ w) ∧
    (∃ (s : State) (q : Request) (w : Int) (a : Aisle), s.hasRequest .c q ∧ q.kind = .configure ∧ s.settled ∧
      q.body.length = 7 ∧ s.params.parkReach < s.params.parkClearance ∧ s.wing = .loading ∧
      (wordAt q.body 0 = 5 ∧ byteAt q.body 2 = 0) ∧ w = max 4 (min (signedAt q.body 3) 64)) ∧
    (∃ (s : State) (q : Request) (w : Int) (a : Aisle), s.hasRequest .c q ∧ q.kind = .configure ∧ s.settled ∧
      q.body.length = 7 ∧ s.params.parkReach < s.params.parkClearance ∧ s.wing = .loading ∧
      (wordAt q.body 0 = 6 ∧ byteAt q.body 2 = a.val) ∧ w = max 0 (min (signedAt q.body 3) 200000)) ∧
    (∃ (s : State) (q : Request) (w : Int) (a : Aisle), s.hasRequest .c q ∧ q.kind = .configure ∧ s.settled ∧
      q.body.length = 7 ∧ s.params.parkReach < s.params.parkClearance ∧ s.wing = .loading ∧
      (wordAt q.body 0 = 7 ∧ byteAt q.body 2 = a.val) ∧ w = max 300 (min (signedAt q.body 3) 3000)) :=
  ⟨⟨req .c .configure (cfg 8 0 1000) (State.reset), rq .configure (cfg 8 0 1000), 62800, 0,
     by rintro x ⟨k, hk, rfl | rfl | rfl | rfl⟩ <;> revert k <;> decide, Or.inr ⟨1, by decide, Or.inr (Or.inr
     (Or.inr rfl))⟩, by unfold State.hasRequest State.settled; decide +kernel⟩,
   ⟨req .c .configure (cfg 8 1 64000) (State.reset), rq .configure (cfg 8 1 64000), 64000, 1,
     by rintro x ⟨k, hk, rfl | rfl | rfl | rfl⟩ <;> revert k <;> decide, Or.inl (by decide +kernel),
     by unfold State.hasRequest State.settled; decide +kernel⟩,
   ⟨req .c .configure (cfg 5 0 3) (State.reset), rq .configure (cfg 5 0 3), 4, 0,
     by unfold State.hasRequest State.settled; decide +kernel⟩,
   ⟨req .c .configure (cfg 6 1 (-5)) (State.reset), rq .configure (cfg 6 1 (-5)), 0, 1,
     by unfold State.hasRequest State.settled; decide +kernel⟩,
   ⟨req .c .configure (cfg 7 1 5000) (State.reset), rq .configure (cfg 7 1 5000), 3000, 1,
     by unfold State.hasRequest State.settled; decide +kernel⟩⟩

theorem witness_ConfigureSetsParameters_ConfigureOfAChannel :
    (∃ (s : State) (q : Request) (k : Crane) (w : Int), s.hasRequest .c q ∧ q.kind = .configure ∧ s.settled ∧
      q.body.length = 7 ∧ s.params.parkReach < s.params.parkClearance ∧ byteAt q.body 2 = k.val ∧ wordAt q.body 0 = 16
      ∧ w = max 1 (min (signedAt q.body 3) 4000) ∧ (s.channel k).state ≠ .calibrated) ∧
    (∃ (s : State) (q : Request) (k : Crane) (w : Int), s.hasRequest .c q ∧ q.kind = .configure ∧ s.settled ∧
      q.body.length = 7 ∧ s.params.parkReach < s.params.parkClearance ∧ byteAt q.body 2 = k.val ∧ wordAt q.body 0 = 16
      ∧ w = max 1 (min (signedAt q.body 3) 4000) ∧ (s.rail k).reservation = .calibrated ⟨3800, 6200⟩ ∧ (¬ (w =
      (s.params.pitch[k] : Int))) ∧ (s.channel k).state = .calibrated ∧ (s.rail k).state = .ready) ∧
    (∃ (s : State) (q : Request) (k : Crane) (w : Int), s.hasRequest .c q ∧ q.kind = .configure ∧ s.settled ∧
      q.body.length = 7 ∧ s.params.parkReach < s.params.parkClearance ∧ byteAt q.body 2 = k.val ∧ wordAt q.body 0 = 17
      ∧ w = (if (signedAt q.body 3) ≤ 1 then 1 else if (signedAt q.body 3) ≤ 3 then 2 else 4) ∧ (s.channel k).state ≠
      .calibrated) ∧
    (∃ (s : State) (q : Request) (k : Crane) (w : Int), s.hasRequest .c q ∧ q.kind = .configure ∧ s.settled ∧
      q.body.length = 7 ∧ s.params.parkReach < s.params.parkClearance ∧ byteAt q.body 2 = k.val ∧ wordAt q.body 0 = 17
      ∧ w = (if (signedAt q.body 3) ≤ 1 then 1 else if (signedAt q.body 3) ≤ 3 then 2 else 4) ∧ (s.rail k).reservation
      = .calibrated ⟨3800, 6200⟩ ∧ (¬ (w = (s.params.edgeMode[k] : Int))) ∧ (s.channel k).state = .calibrated ∧
      (s.rail k).state = .ready) ∧
    (∃ (s : State) (q : Request) (k : Crane) (w : Int), s.hasRequest .c q ∧ q.kind = .configure ∧ s.settled ∧
      q.body.length = 7 ∧ s.params.parkReach < s.params.parkClearance ∧ byteAt q.body 2 = k.val ∧ wordAt q.body 0 = 18
      ∧ w = (if (signedAt q.body 3) ≤ 0 then 0 else 1) ∧ (s.channel k).state ≠ .calibrated) ∧
    (∃ (s : State) (q : Request) (k : Crane) (w : Int), s.hasRequest .c q ∧ q.kind = .configure ∧ s.settled ∧
      q.body.length = 7 ∧ s.params.parkReach < s.params.parkClearance ∧ byteAt q.body 2 = k.val ∧ wordAt q.body 0 = 18
      ∧ w = (if (signedAt q.body 3) ≤ 0 then 0 else 1) ∧ (s.rail k).reservation = .calibrated ⟨3800, 6200⟩ ∧ (¬
      (w = 1 ↔ s.params.inverted[k] = true)) ∧ (s.channel k).state = .calibrated ∧ (s.rail k).state = .ready) ∧
    (∃ (s : State) (q : Request) (k : Crane) (w : Int), s.hasRequest .c q ∧ q.kind = .configure ∧ s.settled ∧
      q.body.length = 7 ∧ s.params.parkReach < s.params.parkClearance ∧ byteAt q.body 2 = k.val ∧ wordAt q.body 0 = 19
      ∧ w = (signedAt q.body 3) ∧ (s.channel k).state ≠ .calibrated) :=
  ⟨⟨req .c .configure (cfg 16 0 0) (opn), rq .configure (cfg 16 0 0), 0, 1,
     by unfold State.hasRequest State.settled; decide +kernel⟩,
   ⟨req .c .configure (cfg 16 0 0) (two 5000 50000), rq .configure (cfg 16 0 0), 0, 1,
     by unfold State.hasRequest State.settled; decide +kernel⟩,
   ⟨req .c .configure (cfg 17 0 3) (opn), rq .configure (cfg 17 0 3), 0, 2,
     by unfold State.hasRequest State.settled; decide +kernel⟩,
   ⟨req .c .configure (cfg 17 0 3) (two 5000 50000), rq .configure (cfg 17 0 3), 0, 2,
     by unfold State.hasRequest State.settled; decide +kernel⟩,
   ⟨req .c .configure (cfg 18 0 9) (opn), rq .configure (cfg 18 0 9), 0, 1,
     by unfold State.hasRequest State.settled; decide +kernel⟩,
   ⟨req .c .configure (cfg 18 0 9) (two 5000 50000), rq .configure (cfg 18 0 9), 0, 1,
     by unfold State.hasRequest State.settled; decide +kernel⟩,
   ⟨req .c .configure (cfg 19 0 (-7)) (opn), rq .configure (cfg 19 0 (-7)), 0, -7,
     by unfold State.hasRequest State.settled; decide +kernel⟩⟩

theorem witness_ConfigureRebuildsTheLanes :
    (∃ (s : State) (q : Request), ∃ w, s.hasRequest .c q ∧ q.kind = .configure ∧ s.settled ∧ q.body.length = 7 ∧
      s.params.parkReach < s.params.parkClearance ∧ s.wing = .loading ∧ s.bins.wf = true ∧ byteAt q.body 2 = 0 ∧
      wordAt q.body 0 = 1 ∧ w = max 1 (min (signedAt q.body 3) 64) ∧ w.toNat ≠ s.params.bays) ∧
    (∃ (s : State) (q : Request), ∃ w, s.hasRequest .c q ∧ q.kind = .configure ∧ s.settled ∧ q.body.length = 7 ∧
      s.params.parkReach < s.params.parkClearance ∧ s.wing = .loading ∧ s.bins.wf = true ∧ byteAt q.body 2 = 0 ∧
      wordAt q.body 0 = 2 ∧ w = max 1 (min (signedAt q.body 3) 8) ∧ w.toNat ≠ s.params.levels) ∧
    (∃ (s : State) (q : Request), ∃ w, s.hasRequest .c q ∧ q.kind = .configure ∧ s.settled ∧ q.body.length = 7 ∧
      s.params.parkReach < s.params.parkClearance ∧ s.wing = .loading ∧ s.bins.wf = true ∧ byteAt q.body 2 = 0 ∧
      wordAt q.body 0 = 3 ∧ w = max 1 (min (signedAt q.body 3) 4) ∧ w.toNat ≠ s.params.laneDepth) ∧
    (∃ (s : State) (q : Request), ∃ w, s.hasRequest .c q ∧ q.kind = .configure ∧ s.settled ∧ q.body.length = 7 ∧
      s.params.parkReach < s.params.parkClearance ∧ s.wing = .loading ∧ s.bins.wf = true ∧ byteAt q.body 2 = 0 ∧
      wordAt q.body 0 = 4 ∧ w = max 20 (min (signedAt q.body 3) 250) ∧ w.toNat < s.params.capacity) :=
  ⟨⟨req .c .configure (cfg 1 0 65) (put (store State.reset 3 9) 1 0 4), rq .configure (cfg 1 0 65), 64,
     by unfold State.hasRequest State.settled; decide +kernel⟩,
   ⟨req .c .configure (cfg 2 0 0) (put (store State.reset 3 9) 1 0 4), rq .configure (cfg 2 0 0), 1,
     by unfold State.hasRequest State.settled; decide +kernel⟩,
   ⟨req .c .configure (cfg 3 0 5) (put (store State.reset 3 9) 1 0 4), rq .configure (cfg 3 0 5), 4,
     by unfold State.hasRequest State.settled; decide +kernel⟩,
   ⟨req .c .configure (cfg 4 0 99) (put (store State.reset 3 9) 1 0 4), rq .configure (cfg 4 0 99), 99,
     by unfold State.hasRequest State.settled; decide +kernel⟩⟩

theorem witness_ConfigureRebuildsTheLanes_ConfigureTakesAFrame :
    (∃ (s : State) (q : Request) (n : Nat),
      let rows : List (Nat × Int × Int × (Params → Int) × (Params → Int → Params)) := [(20, 1, 200, fun p => p.tRef,
        fun p w => { p with tRef := w }), (21, 5, 200, fun p => p.tPick, fun p w => { p with tPick := w }), (23, 4,
        32, fun p => p.window, fun p w => { p with window := w.toNat }), (24, 200, 4000, fun p => p.brake, fun p w =>
        { p with brake := w.toNat }), (25, 0, 500, fun p => p.reaction, fun p w => { p with reaction := w.toNat }),
        (28, 0, 20000, fun p => p.slip, fun p w => { p with slip := w }), (30, 100, 6000, fun p => p.vFire, fun p w =>
        { p with vFire := w.toNat }), (31, 50, 1000, fun p => p.vCreep, fun p w => { p with vCreep := w.toNat }), (32,
        50, 2000, fun p => p.linkTime, fun p w => { p with linkTime := w.toNat }), (33, 5, 120, fun p =>
        p.shutterHold, fun p w => { p with shutterHold := w.toNat }), (34, 5, 60, fun p => p.shutterConfirm, fun p w
        => { p with shutterConfirm := w.toNat }), (35, 60, 3600, fun p => p.dwell, fun p w =>
        { p with dwell := w.toNat }), (36, 0, 255, fun p => p.weights.travel, fun p w => { p with weights :=
        { p.weights with travel := w.toNat } }), (37, 0, 255, fun p => p.weights.level, fun p w => { p with weights :=
        { p.weights with level := w.toNat } }), (38, 0, 255, fun p => p.weights.depth, fun p w => { p with weights :=
        { p.weights with depth := w.toNat } })]
      let id (j : Nat) : Nat := wordAt q.body (7 * j)
      s.hasRequest .c q ∧ q.kind = .configure ∧ s.settled ∧ 1 ≤ n ∧ n ≤ 8 ∧ q.body.length = 7 * n ∧ s.params.parkReach
        < s.params.parkClearance ∧ (∀ j < n, (∃ row ∈ rows, row.1 = id j) ∧ byteAt q.body (7 * j + 2) = 0)) ∧
    (∃ (s : State) (q : Request) (n : Nat),
      let rows : List (Nat × Int × Int × (Params → Int) × (Params → Int → Params)) := [(20, 1, 200, fun p => p.tRef,
        fun p w => { p with tRef := w }), (21, 5, 200, fun p => p.tPick, fun p w => { p with tPick := w }), (23, 4,
        32, fun p => p.window, fun p w => { p with window := w.toNat }), (24, 200, 4000, fun p => p.brake, fun p w =>
        { p with brake := w.toNat }), (25, 0, 500, fun p => p.reaction, fun p w => { p with reaction := w.toNat }),
        (28, 0, 20000, fun p => p.slip, fun p w => { p with slip := w }), (30, 100, 6000, fun p => p.vFire, fun p w =>
        { p with vFire := w.toNat }), (31, 50, 1000, fun p => p.vCreep, fun p w => { p with vCreep := w.toNat }), (32,
        50, 2000, fun p => p.linkTime, fun p w => { p with linkTime := w.toNat }), (33, 5, 120, fun p =>
        p.shutterHold, fun p w => { p with shutterHold := w.toNat }), (34, 5, 60, fun p => p.shutterConfirm, fun p w
        => { p with shutterConfirm := w.toNat }), (35, 60, 3600, fun p => p.dwell, fun p w =>
        { p with dwell := w.toNat }), (36, 0, 255, fun p => p.weights.travel, fun p w => { p with weights :=
        { p.weights with travel := w.toNat } }), (37, 0, 255, fun p => p.weights.level, fun p w => { p with weights :=
        { p.weights with level := w.toNat } }), (38, 0, 255, fun p => p.weights.depth, fun p w => { p with weights :=
        { p.weights with depth := w.toNat } })]
      let id (j : Nat) : Nat := wordAt q.body (7 * j)
      s.hasRequest .c q ∧ q.kind = .configure ∧ s.settled ∧ 1 ≤ n ∧ n ≤ 8 ∧ q.body.length = 7 * n ∧ s.params.parkReach
        < s.params.parkClearance ∧ (∀ j < n, (∃ row ∈ rows, row.1 = id j) ∧ byteAt q.body (7 * j + 2) = 0)) :=
  ⟨⟨req .c .configure (cfg 20 0 5 ++ cfg 35 0 1 ++ cfg 20 0 201) (opn), rq .configure
     (cfg 20 0 5 ++ cfg 35 0 1 ++ cfg 20 0 201), 3,
     by unfold State.hasRequest State.settled; dsimp only; decide +kernel⟩,
   ⟨req .c .configure (cfg 20 0 1 ++ cfg 20 0 200) (opn), rq .configure (cfg 20 0 1 ++ cfg 20 0 200), 2,
     by unfold State.hasRequest State.settled; dsimp only; decide +kernel⟩⟩

theorem witness_ConfigureRebuildsTheLanes_ConfigureTakesAPair :
    (∃ (s : State) (q : Request) (first : Bool) (w x : Int), ∃ t b : Int, (w ≤ t ∧ x = b ∧ (∀ k, ∀ c ∈ cranesOf
      (aisleOf k), (w + b) < ((s.params.parkPos[k] - s.params.planePos[c]).natAbs : Int)) ∧ 10 ≤ w ∧ (∀ y, w < y → y ≤
      t → ¬ (∀ k, ∀ c ∈ cranesOf (aisleOf k), (y + b) < ((s.params.parkPos[k] - s.params.planePos[c]).natAbs : Int)))
      ∨ w = 10 ∧ ¬ (∀ k, ∀ c ∈ cranesOf (aisleOf k), (10 + b) < ((s.params.parkPos[k] - s.params.planePos[c]).natAbs :
      Int)) ∧ 200 ≤ x ∧ x ≤ b ∧ (∀ k, ∀ c ∈ cranesOf (aisleOf k), (10 + x) <
      ((s.params.parkPos[k] - s.params.planePos[c]).natAbs : Int)) ∧ ∀ y, x < y → y ≤ b → ¬ (∀ k, ∀ c ∈ cranesOf
      (aisleOf k), (10 + y) < ((s.params.parkPos[k] - s.params.planePos[c]).natAbs : Int))) ∧ s.hasRequest .c q ∧
      q.kind = .configure ∧ s.settled ∧ q.body.length = 14 ∧ s.params.parkReach < s.params.parkClearance ∧ t = max 10
      (min (signedAt q.body ((if first then 0 else 7) + 3)) 500) ∧ b = max 200 (min (signedAt q.body
      ((if first then 7 else 0) + 3)) 5000) ∧ (wordAt q.body (if first then 0 else 7) = 22 ∧ byteAt q.body
      ((if first then 0 else 7) + 2) = 0 ∧ wordAt q.body (if first then 7 else 0) = 26 ∧ byteAt q.body
      ((if first then 7 else 0) + 2) = 0)) ∧
    (∃ (s : State) (q : Request) (first : Bool) (w x : Int), ∃ t b : Int, (w ≤ t ∧ x = b ∧ (∀ k, ∀ c ∈ cranesOf
      (aisleOf k), (w + b) < ((s.params.parkPos[k] - s.params.planePos[c]).natAbs : Int)) ∧ 10 ≤ w ∧ (∀ y, w < y → y ≤
      t → ¬ (∀ k, ∀ c ∈ cranesOf (aisleOf k), (y + b) < ((s.params.parkPos[k] - s.params.planePos[c]).natAbs : Int)))
      ∨ w = 10 ∧ ¬ (∀ k, ∀ c ∈ cranesOf (aisleOf k), (10 + b) < ((s.params.parkPos[k] - s.params.planePos[c]).natAbs :
      Int)) ∧ 200 ≤ x ∧ x ≤ b ∧ (∀ k, ∀ c ∈ cranesOf (aisleOf k), (10 + x) <
      ((s.params.parkPos[k] - s.params.planePos[c]).natAbs : Int)) ∧ ∀ y, x < y → y ≤ b → ¬ (∀ k, ∀ c ∈ cranesOf
      (aisleOf k), (10 + y) < ((s.params.parkPos[k] - s.params.planePos[c]).natAbs : Int))) ∧ s.hasRequest .c q ∧
      q.kind = .configure ∧ s.settled ∧ q.body.length = 14 ∧ s.params.parkReach < s.params.parkClearance ∧ t = max 10
      (min (signedAt q.body ((if first then 0 else 7) + 3)) 500) ∧ b = max 200 (min (signedAt q.body
      ((if first then 7 else 0) + 3)) 5000) ∧ (wordAt q.body (if first then 0 else 7) = 22 ∧ byteAt q.body
      ((if first then 0 else 7) + 2) = 0 ∧ wordAt q.body (if first then 7 else 0) = 26 ∧ byteAt q.body
      ((if first then 7 else 0) + 2) = 0)) ∧
    (∃ (s : State) (q : Request) (first : Bool) (w x : Int), ∃ k : Crane, s.hasRequest .c q ∧ q.kind = .configure ∧
      s.settled ∧ q.body.length = 14 ∧ s.params.parkReach < s.params.parkClearance ∧ s.wing = .loading ∧ 0 ≤
      (s.params.railLength[aisleOf k]) ∧ (wordAt q.body (if first then 0 else 7) = 12 ∧ byteAt q.body
      ((if first then 0 else 7) + 2) = k.val ∧ wordAt q.body (if first then 7 else 0) = 13 ∧ byteAt q.body
      ((if first then 7 else 0) + 2) = k.val) ∧ w = (max 0 (min (max 0 (min (signedAt q.body ((if first then 0 else 7)
      + 3)) 200000)) (s.params.railLength[aisleOf k]))) ∧ x = max ((max 0 (min (max 0 (min (signedAt q.body
      ((if first then 7 else 0) + 3)) 200000)) (s.params.railLength[aisleOf k])))) w) ∧
    (∃ (s : State) (q : Request) (first : Bool) (w x : Int), ∃ k : Crane, s.hasRequest .c q ∧ q.kind = .configure ∧
      s.settled ∧ q.body.length = 14 ∧ s.params.parkReach < s.params.parkClearance ∧ s.wing = .loading ∧ 0 ≤
      (s.params.railLength[aisleOf k]) ∧ (wordAt q.body (if first then 0 else 7) = 12 ∧ byteAt q.body
      ((if first then 0 else 7) + 2) = k.val ∧ wordAt q.body (if first then 7 else 0) = 13 ∧ byteAt q.body
      ((if first then 7 else 0) + 2) = k.val) ∧ w = (max 0 (min (max 0 (min (signedAt q.body ((if first then 0 else 7)
      + 3)) 200000)) (s.params.railLength[aisleOf k]))) ∧ x = max ((max 0 (min (max 0 (min (signedAt q.body
      ((if first then 7 else 0) + 3)) 200000)) (s.params.railLength[aisleOf k])))) w) ∧
    (∃ (s : State) (q : Request) (first : Bool) (w x : Int), ∃ k : Crane,
      let P := s.params
      let i := if first then 0 else 7
      let j := if first then 7 else 0
      let v := signedAt q.body (i + 3)
      let u := signedAt q.body (j + 3)
      let pair (id inst id' inst' : Nat) : Prop := wordAt q.body i = id ∧ byteAt q.body (i + 2) = inst ∧ wordAt q.body
        j = id' ∧ byteAt q.body (j + 2) = inst'
      let inside (len y : Int) : Int := max 0 (min (max 0 (min y 200000)) len)
      let clear (len z : Int) (centres : List Int) : Prop := 0 ≤ z ∧ z ≤ len ∧ ∀ m ∈ centres, P.halfLength + P.tPark <
        ((z - m).natAbs : Int)
      let nearest (len c y : Int) (centres : List Int) : Prop := clear len y centres ∧ ∀ z, clear len z centres →
        (y - c).natAbs < (z - c).natAbs ∨ ((y - c).natAbs = (z - c).natAbs ∧ y ≤ z)
      let L := P.railLength[aisleOf k]
      nearest L (inside L v) w (((cranesOf (aisleOf k)).filter (· ≠ k)).map (fun c => P.parkPos[c])) ∧ nearest L
        (inside L u) x ((cranesOf (aisleOf k)).map (fun c => (P.planePos.set k w)[c])) ∧ s.hasRequest .c q ∧ q.kind =
        .configure ∧ s.settled ∧ q.body.length = 14 ∧ s.params.parkReach < s.params.parkClearance ∧ s.wing = .loading
        ∧ 0 ≤ L ∧ pair 10 k.val 11 k.val) ∧
    (∃ (s : State) (q : Request) (first : Bool) (w x : Int), ∃ k : Crane, s.hasRequest .c q ∧ q.kind = .configure ∧
      s.settled ∧ q.body.length = 14 ∧ s.params.parkReach < s.params.parkClearance ∧ s.wing = .loading ∧ 0 ≤
      (s.params.railLength[aisleOf k]) ∧ (wordAt q.body (if first then 0 else 7) = 8 ∧ byteAt q.body
      ((if first then 0 else 7) + 2) = (aisleOf k).val ∧ wordAt q.body (if first then 7 else 0) = 9 ∧ byteAt q.body
      ((if first then 7 else 0) + 2) = k.val) ∧ max 1000 (min (signedAt q.body ((if first then 0 else 7) + 3)) 200000)
      ≤ w ∧ (∀ c ∈ cranesOf (aisleOf k), (c ≠ k → s.params.stationPos[c] ≤ w) ∧ s.params.planePos[c] ≤ w ∧
      s.params.parkPos[c] ≤ w ∧ s.params.tmax[c] ≤ w) ∧ (w = max 1000 (min (signedAt q.body ((if first then 0 else 7)
      + 3)) 200000) ∨ ∃ c ∈ cranesOf (aisleOf k), (c ≠ k ∧ w = s.params.stationPos[c]) ∨ w = s.params.planePos[c] ∨ w
      = s.params.parkPos[c] ∨ w = s.params.tmax[c]) ∧ x = (max 0 (min (max 0 (min (signedAt q.body
      ((if first then 7 else 0) + 3)) 200000)) w))) ∧
    (∃ (s : State) (q : Request) (first : Bool) (w x : Int), ∃ k : Crane, s.hasRequest .c q ∧ q.kind = .configure ∧
      s.settled ∧ q.body.length = 14 ∧ s.params.parkReach < s.params.parkClearance ∧ s.wing = .loading ∧ 0 ≤
      (s.params.railLength[aisleOf k]) ∧ (wordAt q.body (if first then 0 else 7) = 8 ∧ byteAt q.body
      ((if first then 0 else 7) + 2) = (aisleOf k).val ∧ wordAt q.body (if first then 7 else 0) = 9 ∧ byteAt q.body
      ((if first then 7 else 0) + 2) = k.val) ∧ max 1000 (min (signedAt q.body ((if first then 0 else 7) + 3)) 200000)
      ≤ w ∧ (∀ c ∈ cranesOf (aisleOf k), (c ≠ k → s.params.stationPos[c] ≤ w) ∧ s.params.planePos[c] ≤ w ∧
      s.params.parkPos[c] ≤ w ∧ s.params.tmax[c] ≤ w) ∧ (w = max 1000 (min (signedAt q.body ((if first then 0 else 7)
      + 3)) 200000) ∨ ∃ c ∈ cranesOf (aisleOf k), (c ≠ k ∧ w = s.params.stationPos[c]) ∨ w = s.params.planePos[c] ∨ w
      = s.params.parkPos[c] ∨ w = s.params.tmax[c]) ∧ x = (max 0 (min (max 0 (min (signedAt q.body
      ((if first then 7 else 0) + 3)) 200000)) w))) :=
  ⟨⟨req .c .configure (cfg 22 0 500 ++ cfg 26 0 1600) (opn), rq .configure (cfg 22 0 500 ++ cfg 26 0 1600), true, 399,
     1600, 500, 1600, Or.inl ⟨by decide +kernel, by decide +kernel, by decide +kernel, by decide +kernel, fun x h _ f
     => far_pair_tPark x h (f 0 0 (by decide))⟩, by unfold State.hasRequest State.settled; decide +kernel⟩,
   ⟨req .c .configure (cfg 26 0 5000 ++ cfg 22 0 500) (opn), rq .configure (cfg 26 0 5000 ++ cfg 22 0 500), false, 10,
     1989, 500, 5000, Or.inr ⟨by decide +kernel, by decide +kernel, by decide +kernel, by decide +kernel,
     by decide +kernel, fun x h _ f => far_pair_half x h (f 0 0 (by decide))⟩,
     by unfold State.hasRequest State.settled; decide +kernel⟩,
   ⟨req .c .configure (cfg 13 1 62000 ++ cfg 12 1 63000) (State.reset), rq .configure
     (cfg 13 1 62000 ++ cfg 12 1 63000), false, 63000, 63000, 1,
     by unfold State.hasRequest State.settled; decide +kernel⟩,
   ⟨req .c .configure (cfg 12 1 100 ++ cfg 13 1 62000) (State.reset), rq .configure (cfg 12 1 100 ++ cfg 13 1 62000),
     true, 100, 62000, 1, by unfold State.hasRequest State.settled; decide +kernel⟩,
   ⟨req .c .configure (cfg 10 0 6000 ++ cfg 11 0 6000) (State.reset), rq .configure (cfg 10 0 6000 ++ cfg 11 0 6000),
     true, 6000, 4749, 0, ⟨by decide +kernel, fun x _ => nearest_self x⟩, ⟨by decide +kernel, fun x hx => nearest_6000
     x (hx.2.2 6000 (by decide))⟩, by unfold State.hasRequest State.settled; dsimp only; decide +kernel⟩,
   ⟨req .c .configure (cfg 9 0 70000 ++ cfg 8 0 1000) (State.reset), rq .configure (cfg 9 0 70000 ++ cfg 8 0 1000),
     false, 62800, 62800, 0, by unfold State.hasRequest State.settled; decide +kernel⟩,
   ⟨req .c .configure (cfg 8 1 63000 ++ cfg 9 3 70000) (State.reset), rq .configure (cfg 8 1 63000 ++ cfg 9 3 70000),
     true, 63000, 63000, 3, by unfold State.hasRequest State.settled; decide +kernel⟩⟩

theorem witness_WingRestartClearsTheWork :
    (∃ (s : State) (q : Request), s.hasRequest .c q ∧ q.kind = .wingRestart ∧ s.wing = .loading) ∧
    (∃ (s : State) (q : Request), s.hasRequest .c q ∧ q.kind = .wingRestart ∧ (∃ e ∈ s.tasks.entries, e.2.state =
      .active ∨ e.2.state = .suspended) ∧ s.wing = .opened) ∧
    (∃ (s : State) (q : Request), s.hasRequest .c q ∧ q.kind = .wingRestart ∧
      (∃ e ∈ s.bins.entries, ∃ k, e.2.place = .onCrane k) ∧ s.wing = .opened) ∧
    (∃ (s : State) (q : Request), s.hasRequest .c q ∧ q.kind = .wingRestart ∧ s.wing = .opened ∧ s.settled ∧
      s.tablesWf ∧ (∀ k, (s.crane k).active = none ∧ (s.crane k).stack = []) ∧ (∀ e ∈ s.tasks.entries, e.2.state ≠
      .active ∧ e.2.state ≠ .suspended) ∧ (∀ e ∈ s.bins.entries, ∀ k, e.2.place ≠ .onCrane k)) :=
  ⟨⟨req .c .wingRestart [] (State.reset), rq .wingRestart [], by unfold State.hasRequest; decide +kernel⟩,
   ⟨req .c .wingRestart [] (withA opn 1 5 (tk 1 .stow 3 (some 9) .active)), rq .wingRestart [],
     by unfold State.hasRequest; decide +kernel⟩,
   ⟨req .c .wingRestart [] (opn.setBin 9 (bin (.onCrane 1))), rq .wingRestart [],
     by unfold State.hasRequest; decide +kernel⟩,
   ⟨req .c .wingRestart [] (withQ (put opn 1 0 9) 1 5 (tk 1 .stow 4 (some 9))), rq .wingRestart [],
     by unfold State.hasRequest State.settled State.tablesWf; decide +kernel⟩⟩

theorem witness_HoldOpenLawIsKept :
    (∃ s t : State, step s = .next t ∧ s.holdOpenLaw) ∧
    (∃ s t : State, step s = .next t ∧ (s.shutter 1).holdOpen = true ∧ (t.shutter 1).holdOpen = false) ∧
    (∃ s t : State, step s = .next t ∧ (s.shutter 0).holdOpen = true ∧ (t.shutter 0).holdOpen = false) ∧
    (∃ s t : State, step s = .next t ∧ (s.shutter 0).holdOpen = true ∧ (t.shutter 0).holdOpen = false) ∧
    (∃ s t : State, step s = .next t ∧ (s.shutter 0).holdOpen = false ∧ (t.shutter 0).holdOpen = true) :=
  ⟨⟨{ State.reset with pending := [.resetAssert] }, _, rfl, by unfold State.holdOpenLaw; decide +kernel⟩,
   ⟨{ winEnd 0 (fired .parking (planes false true false true (two 4000 50000))) with pending := [.windowEnd 1] }, _,
     rfl, by decide +kernel⟩,
   ⟨{ planes true true false true opn with pending := [.fireLineSettled .fireW true] }, _, rfl, by decide +kernel⟩,
   ⟨{ timed .parking ⟨true, 0⟩ ⟨false, 3⟩ opn with pending := [.shutterHoldExpiry 0] }, _, rfl, by decide +kernel⟩,
   ⟨{ req .c .resumeAisle [0] (fired .sealed (planes true false false false opn)) with pending := [.resumeAisle] }, _,
     rfl, by decide +kernel⟩⟩

theorem witness_TablesStayCanonical :
    (∃ s t : State, step s = .next t ∧ s.tablesWf) :=
  ⟨{ State.reset with pending := [.resetAssert] }, _, rfl, by unfold State.tablesWf; decide +kernel⟩

theorem witness_OverrunAndFormLawsAreKept :
    (∃ s t : State, step s = .next t ∧ s.formLaw ∧ s.overrunLaw) :=
  ⟨{ State.reset with pending := [.resetAssert] }, _, rfl, by unfold State.formLaw State.overrunLaw; decide +kernel⟩

theorem witness_SweepBufferAndTestsStayBounded :
    (∃ s t : State, step s = .next t ∧ s.sweepLaw ∧ s.settled) :=
  ⟨{ State.reset with pending := [.resetAssert] }, _, rfl, by unfold State.settled State.sweepLaw; decide +kernel⟩

theorem witness_TaskLawsAreKept :
    (∃ s t : State, s.workLaws ∧ step s = .next t) :=
  ⟨waiting, _, waiting_workLaws, rfl⟩

theorem witness_BinLawsAreKept_UnitsLawIsKept :
    (∃ s t : State, s.workLaws ∧ step s = .next t) :=
  ⟨waiting, _, waiting_workLaws, rfl⟩

theorem witness_StationLawIsKept :
    (∃ s t : State, s.workLaws ∧ step s = .next t) :=
  ⟨waiting, _, waiting_workLaws, rfl⟩

theorem witness_BinLawsAreKept_PlaceLawIsKept :
    (∃ s t : State, s.tablesWf ∧ s.placeLaw ∧ step s = .next t) :=
  ⟨waiting, _, waiting_workLaws.1, waiting_workLaws.2.2.2.1, rfl⟩

theorem witness_OverrunAndFormLawsAreKept_SeparationLawIsKept :
    (∃ s t : State, s.formLaw ∧ s.separationLaw ∧ step s = .next t) :=
  ⟨twoWaiting, _, (by unfold State.formLaw; decide +kernel), two_separated, rfl⟩

/-! ### Well-formedness refuses an ill-formed term -/

theorem test_wellFormed_refuses_dwell_number : (Instr.dwellExpiry 128).wellFormed = false := by decide
theorem test_wellFormed_takes_dwell_number : (Instr.dwellExpiry 127).wellFormed = true := by decide

/-! ### Single steps: the expected values are the manual's -/

/-- The state after a step. -/
def run (c : Instr) (s : State) : State :=
  match step { s with pending := [c] } with
  | .next t => t
  | _ => s
/-- The status that a port's slot holds. -/
def status (p : Port) (s : State) : Option Nat :=
  match (s.port p).slot with
  | .holding r => some r.status.code
  | .inFlight _ => none
/-- The body that a port's slot holds. -/
def body (p : Port) (s : State) : List Byte :=
  match (s.port p).slot with
  | .holding r => r.body
  | .inFlight _ => []

/-- R173: every STOP line is asserted and every attention line released while reset is held. -/
theorem test_reset_assert : (run .resetAssert (two 5000 50000)).stopLine 0 = true := by decide +kernel
/-- R170: a reset gives C its default 100. -/
theorem test_reset_release :
    (run (.resetRelease Pins.idle) { opn with params := { opn.params with capacity := 200 } }).params.capacity = 100 := by
  decide +kernel
/-- R153: the frame chosen while a request is in flight is NOT_READY (5). -/
theorem test_transaction_start :
    (((run (.transactionStart .c) (req .c .place [] opn)).port .c).transaction.map (fun t => t.sent.status.code))
      = some 5 := by decide +kernel
/-- R155: an unknown kind is BAD_FRAME (6). -/
theorem test_transaction_end_bad : status .c (run (.transactionEnd .c (frame [200, 9, 0])) (inTx .c)) = some 6 := by
  decide +kernel
/-- R155: a K port kind at port C is NOT_PERMITTED (7). -/
theorem test_transaction_end_kind : status .c (run (.transactionEnd .c (frame [80, 9, 0])) (inTx .c)) = some 7 := by
  decide +kernel
/-- R165: SET MASK with a bit past the last kind is OUT_OF_RANGE (18). -/
theorem test_set_mask : status .c (run (.setMask .c) (req .c .setMask [0, 2] opn)) = some 18 := by decide +kernel
/-- R166: reading the notices clears them. -/
theorem test_read_notices :
    ((run (.readNotices .c) (req .c .readNotices [] (latchC .dwell opn))).port .c).latch = 0 := by decide +kernel
/-- R170: a T_ref above its range is taken at 200 with CLAMPED (2). -/
theorem test_configure : (run .configure (req .c .configure (cfg 20 0 900) opn)).params.tRef = 200 := by decide +kernel
/-- R108, R170, R171: one frame that shortens L of aisle 0 to 30,000 and writes P of crane 1. From its west edge 38,800 and S = 2,000
the channel fault gives X = 36,800, which the same frame takes into [0, L]. -/
theorem test_configure_limit :
    ((run .configure (req .c .configure (cfg 8 0 30000 ++ cfg 16 1 60 ++ cfg 9 1 28000 ++ cfg 10 1 26000 ++ cfg 11 1 24000
      ++ cfg 13 0 28800 ++ cfg 13 1 28800)
      (cal (rdy State.reset 1) 1 40000))).rail 1).reservation = .homeSide 30000 := by decide +kernel
/-- R12: the first listed bin lies at the front. -/
theorem test_load_lane :
    ((run .loadLane (req .c .loadLane [0, 0, 0, 0, 5, 3, 2, 9, 0, 10, 8, 0, 20] State.reset)).lane 0).contents = [9, 8] := by
  decide +kernel
/-- R13: a fill above C is clamped at C. -/
theorem test_load_station :
    ((run .loadStation (req .c .loadStation [2, 1, 9, 0, 5, 120] State.reset)).bin? 9).map Bin.fill = some 100 := by
  decide +kernel
/-- R14: OPEN WING outside LOADING is WING_STATE (8). -/
theorem test_open_wing : status .c (run .openWing (req .c .openWing [] opn)) = some 8 := by decide +kernel
/-- R15: a bin registered at a station has a STOW. -/
theorem test_register_bin :
    ((run .registerBin (req .c .registerBin [9, 0, 0, 20, 2, 1] opn)).task? 0).map Task.kind = some .stow := by
  decide +kernel
/-- R16: a removed bin is ABSENT. -/
theorem test_remove_bin : (run .removeBin (req .c .removeBin [9, 0] (put opn 2 1 9))).bin? 9 = none := by decide +kernel
/-- R18: an ABSENT bin is answered with place 0 in an OPEN wing (1). -/
theorem test_query_bin : (body .c (run .queryBin (req .c .queryBin [9, 0] opn))).take 2 = [1, 0] := by decide +kernel
/-- R19: lane 1535 is the last of the wing. -/
theorem test_query_lane : (body .c (run .queryLane (req .c .queryLane [1, 1, 47, 7] opn))).take 2 = [255, 5] := by
  decide +kernel
/-- R22: a station set closed is CLOSED. -/
theorem test_station : ((run .station (req .c .station [3, 1, 7] opn)).station 3).state = .closed := by decide +kernel
/-- R29: a RETURN claim reserves its units. -/
theorem test_claim :
    ((run .claim (req .c .claim (cb 1 0 9 2) (put opn 2 1 9))).bin? 9).map Bin.reserved = some 5 := by decide +kernel
/-- R35: a TAKEN item above the fill leaves 0. -/
theorem test_pick : ((run .pick (req .c .pick [3, 0, 0] (pres .lend 4))).bin? 9).map Bin.fill = some 0 := by
  decide +kernel
/-- R36: a count above C − reserved is CLAMPED (2). -/
theorem test_count : status .c (run .count (req .c .count [3, 96] (pres .audit 50))) = some 2 := by decide +kernel
/-- R38: RELEASE makes the claim DONE. -/
theorem test_release :
    ((run .release (req .c .release [3] (pres .lend 50))).claim? 3).map Claim.state = some .done := by decide +kernel
/-- R40: CANCEL makes the claim CANCELLED. -/
theorem test_cancel :
    ((run .cancel (req .c .cancel [3] (pres .lend 50))).claim? 3).map Claim.state = some .cancelled := by decide +kernel
/-- R44: a read final claim's entry is free. -/
theorem test_query_claim :
    (run .queryClaim (req .c .queryClaim [3, 0] (opn.setClaim 3 (clm .lend .done 9 2)))).claim? 3 = none := by
  decide +kernel
/-- R44: the item numbers are answered after their count. -/
theorem test_query_claim_items :
    body .c (run .queryClaimItems (req .c .queryClaim [3, 1] (pres .lend 50))) = [1, 77, 0, 0, 0] := by decide +kernel
/-- R44: CHANGED CLAIMS clears the flag it reports. -/
theorem test_changed_claims :
    ((run .changedClaims (req .c .changedClaims [] (opn.setClaim 3 { clm .lend .done 9 2 with unseen := true }))).claim?
      3).map Claim.unseen = some false := by decide +kernel
/-- R52: a PLACE above C is OUT_OF_RANGE (18). -/
theorem test_place : status .c (run .place (req .c .place [2, 101, 0, 1, 2, 3, 4] opn)) = some 18 := by decide +kernel
/-- R47: a bin standing at the station costs 0. -/
theorem test_search_visit : (run .searchVisit (searching 9 none (put opn 1 0 9))).search.best = some (9, 0) := by
  decide +kernel
/-- R56: no best ends the search with NO_PLACE and FULL. -/
theorem test_pass_completion :
    (run .passCompletion (searching 8192 none opn)).search.result = some ⟨some .full, none, none, none, none⟩ := by
  decide +kernel
/-- R57: a running search is answered with state 1. -/
theorem test_query_place : (body .c (run .queryPlace (req .c .queryPlace [] (searching 9 none opn)))).take 2 = [1, 1] := by
  decide +kernel
/-- R143: last below first is OUT_OF_RANGE (18). -/
theorem test_sweep : status .c (run .sweep (req .c .sweep [3, 0, 2, 0] opn)) = some 18 := by decide +kernel
/-- R144: a visit clears the reference flag. -/
theorem test_sweep_visit :
    ((run .sweepVisit (swept .running 10 9 0 (put opn 1 0 9))).bin? 9).map Bin.reference = some false := by decide +kernel
/-- R146: an emptied PAUSED sweep runs again. -/
theorem test_query_sweep :
    (run .querySweep (req .c .querySweep [] (swept .paused 10 8 12 opn))).sweep.state = .running := by decide +kernel
/-- R146, R157: one entry returned, none left, and the list of one entry with its flags in bits 13 and 14. -/
theorem test_query_sweep_list :
    (body .c (run .querySweep (req .c .querySweep [] (swept .running 10 8 1 opn)))).drop 11 = [1, 0, 1, 0, 96, 7] := by
  decide +kernel
/-- R147: with no sweep there is NO_SUCH (9). -/
theorem test_cancel_sweep : status .c (run .cancelSweep (req .c .cancelSweep [] opn)) = some 9 := by decide +kernel
/-- R149: the lane and its bin take the key. -/
theorem test_set_lane_keys :
    ((run .setLaneKeys (req .c .setLaneKeys [3, 0, 3, 0, 7] (store opn 3 8))).bin? 8).map Bin.key = some 7 := by
  decide +kernel
/-- R61: with no active task the first field of the task part is 255. -/
theorem test_query_crane_task : (body .c (run .queryCraneTask (req .c .queryCrane [1, 0] opn))).take 1 = [255] := by
  decide +kernel
/-- R102: an UNCALIBRATED channel is answered with 0. -/
theorem test_query_crane_channel :
    (body .c (run .queryCraneChannel (req .c .queryCrane [1, 1] opn))).take 1 = [0] := by decide +kernel
/-- R122: a READY crane is answered with 2. -/
theorem test_query_crane_rail :
    (body .c (run .queryCraneRail (req .c .queryCrane [1, 2] (rdy opn 1)))).take 1 = [2] := by decide +kernel
/-- R126: an aisle in SEALED is answered with 3. -/
theorem test_query_crane_fire :
    (body .c (run .queryCraneFire (req .c .queryCrane [1, 3] (fired .sealed opn)))).take 1 = [3] := by decide +kernel
/-- R137: an aisle in NORMAL cannot be resumed: WING_STATE (8). -/
theorem test_resume_aisle : status .c (run .resumeAisle (req .c .resumeAisle [0] opn)) = some 8 := by decide +kernel
/-- R160: WING RESTART in LOADING is WING_STATE (8). -/
theorem test_wing_restart : status .c (run .wingRestart (req .c .wingRestart [] State.reset)) = some 8 := by decide +kernel
/-- R64: the first queued task becomes ACTIVE. -/
theorem test_next_step :
    ((run (.nextStep 2) (req (.k 2) .nextStep [] (rdy (withQ (put opn 2 1 9) 2 5 (tk 2 .stow 4 (some 9))) 2))).crane
      2).active = some 5 := by decide +kernel
/-- R69: a PICKED bin is on the fork. -/
theorem test_picked :
    (run (.picked 1) (req (.k 1) .picked [9, 0] (cap (withA (store opn 20 9 [4]) 1 5 tP) 1 5400))).fork 1 = some 9 := by
  decide +kernel
/-- R70: a capture 31 mm from the lane is a MISMATCH (19). -/
theorem test_set_down :
    status (.k 2) (run (.setDown 2) (req (.k 2) .setDown [] (cap (withA (opn.setBin 9 (bin (.onCrane 2))) 2 5 (tA .set))
      2 7769))) = some 19 := by decide +kernel
/-- R113: a travel that meets the other crane's reservation stops short with CLAMPED (2). -/
theorem test_grant : status (.k 0) (run (.grant 0) (req (.k 0) .grant (gb 60000 1000) (two 5000 12000))) = some 2 := by
  decide +kernel
/-- R115: ARRIVED while the last window shows a speed is MOVING (20). -/
theorem test_arrived :
    status (.k 1) (run (.arrived 1) (req (.k 1) .arrived [] ((rdy opn 1).modChannel 1 (fun c => { c with speed := 1 }))))
      = some 20 := by decide +kernel
/-- R112, R115: a crane that stands past its inner edge is given no rail beyond it by ARRIVED. -/
theorem test_arrived_keeps_the_edge :
    (run (.arrived 0) (req (.k 0) .arrived [] (wide 0 3000 6100 (two 5000 50000)))).edges 0 = ⟨3800, 6100⟩ := by
  decide +kernel
/-- R121: a drive fault stops a READY crane. -/
theorem test_drive_fault : (run (.driveFault 1) (req (.k 1) .driveFault [9] (rdy opn 1))).stopLine 1 = true := by
  decide +kernel
/-- R120: RESTART of a READY crane is BUSY (11). -/
theorem test_restart : status (.k 1) (run (.restart 1) (req (.k 1) .restart [] (rdy opn 1))) = some 11 := by
  decide +kernel
/-- R102: a CALIBRATED channel is answered with 1. -/
theorem test_query_rail_channel :
    (body (.k 1) (run (.queryRailChannel 1) (req (.k 1) .queryRail [1] (two 5000 50000)))).take 1 = [1] := by decide +kernel
/-- R122: an OFFLINE crane is answered with 0. -/
theorem test_query_rail_rail :
    (body (.k 1) (run (.queryRailRail 1) (req (.k 1) .queryRail [2] opn))).take 1 = [0] := by decide +kernel
/-- R87: 00 to 10 counts forward. -/
theorem test_encoder_transition : ((run (.encoderTransition 1 true false) opn).channel 1).counter = 1 := by
  decide +kernel
/-- R94: the reference edge of a crane moving home loads ref_count and calibrates the channel. -/
theorem test_reference_edge :
    ((run (.referenceEdge 0 true) (homing 0 .uncalibrated opn)).channel 0).state = .calibrated := by decide +kernel
/-- R96: a rising edge of FORK writes the pick capture. -/
theorem test_fork_edge : ((run (.forkEdge 1 true) (two 5000 50000)).channel 1).pick = ⟨50000, true⟩ := by decide +kernel
/-- R98: 20 counts of 50 µm in 10 ms are 100 mm/s. -/
theorem test_window_end : ((run (.windowEnd 1) (winEnd 20 opn)).channel 1).speed = 100 := by decide +kernel
/-- R119: a READY crane that stands still becomes SILENT. -/
theorem test_link_expiry :
    ((run (.linkExpiry 1) ((two 5000 50000).modRail 1 (fun r => { r with linkArmed := true }))).rail 1).state = .silent := by
  decide +kernel
/-- R42: an expired dwell makes the claim EXPIRED. -/
theorem test_dwell_expiry : ((run (.dwellExpiry 3) (pres .lend 50)).claim? 3).map Claim.state = some .expired := by
  decide +kernel
/-- R127: FIREW parks both aisles. -/
theorem test_fire_line : ((run (.fireLineSettled .fireW true) opn).fire 1).state = .parking := by decide +kernel
/-- R136: a shutter that leaves the closed condition in SEALED is a fault. -/
theorem test_shutter_input :
    ((run (.shutterInputSettled 1 .openInput true) (fired .sealed (shut opn))).shutter 1).fault = true := by decide +kernel
/-- R133: the end of the hold time leads to CLOSING. -/
theorem test_shutter_hold_expiry :
    ((run (.shutterHoldExpiry 0) (timed .parking ⟨true, 0⟩ ⟨false, 0⟩ opn)).fire 0).state = .closing := by decide +kernel
/-- R135: the end of the confirm time leads to SEALED with the open shutter faulted. -/
theorem test_shutter_confirm_expiry :
    ((run (.shutterConfirmExpiry 0) (timed .closing ⟨false, 0⟩ ⟨true, 0⟩ opn)).shutter 0).fault = true := by decide +kernel
/-- R66: a PARK that was queued before its park position moved travels to the new one. -/
theorem test_park_destination :
    ((run (.nextStep 2) (req (.k 2) .nextStep [] (rdy (withQ opn 2 5 { tk 2 .park 0 none with dest := some (.rail 1) })
      2 .unhomed))).task? 5).bind Task.dest = some (.rail 6000) := by decide +kernel

end Sys2Proof.Tests
end

section
/-!
The step laws of the work (R5, R8, R32, R37, R64, R75) are not kept from every state that meets them: three states, each met by
every law, and one step of each that breaks one.
-/
namespace Sys2Proof.Machine

/-! ### States that meet every law of the work, and a step that breaks one -/

/-- A PARK of crane 0 with nothing else planned. -/
def park0 (st : TaskState) : Task := { Task.new 0 .park 0 .travel with state := st }

/-- Crane 0, in an aisle in PARKING, with a PARK on its stack and another one in its queue, and a NEXT STEP to take. -/
def twoParks : State :=
  { State.reset with
    pending := [.nextStep 0]
    fires := #v[⟨.parking, ⟨true, 30000⟩, ⟨false, 0⟩⟩, .reset]
    rails := State.reset.rails.set 0 { Rail.reset 64000 with state := .ready }
    tasks := ⟨[(1, park0 .suspended), (2, park0 .queued)]⟩
    cranes := State.reset.cranes.set 0 { CraneTasks.reset with queue := [2], stack := [1] }
    portK := State.reset.portK.set 0 { PortBlock.reset with slot := .inFlight ⟨.nextStep, 0, []⟩ } }

theorem mem_nil_elim {α : Type} {P : α → Prop} : ∀ x ∈ ([] : List α), P x :=
  fun _ h => (List.not_mem_nil h).elim

/-- A state that lists no lane and no bin, and no bin at a station, keeps each stored bin in its place. -/
theorem placeLaw_of_empty {s : State} (hl : s.lanes = ⟨[]⟩) (hb : ∀ b r i, s.bin? b = some r → r.place ≠ .stored i)
    (hs : ∀ (k : Crane) (p : Pos), (s.station k).bins[p] = none) : s.placeLaw := by
  have hlane : ∀ i, (s.lane i).contents = [] := fun i => by
    simp [State.lane, hl, Table.find?, lookupEntry, Params.resetLane]
  refine ⟨fun i => ⟨by simp [hlane], fun b => ⟨by simp [hlane], ?_⟩⟩, fun k p b h => by simp [hs] at h⟩
  rintro ⟨r, hr, hp⟩
  exact absurd hp (hb b r i hr)

theorem twoParks_workLaws : twoParks.workLaws :=
  ⟨by unfold State.tablesWf; decide +kernel, by unfold State.stackLaw State.craneLaw State.holds; decide +kernel,
    ⟨fun _ => ⟨Nat.zero_le 3, rfl⟩, by decide +kernel, by decide +kernel⟩,
    placeLaw_of_empty rfl (fun _ _ _ h => nomatch h) (by decide +kernel),
    ⟨mem_nil_elim, mem_nil_elim⟩,
    ⟨by unfold State.serves; decide +kernel, List.nodup_nil, mem_nil_elim⟩,
    ⟨by decide +kernel, by decide +kernel, mem_nil_elim, by decide +kernel, fun e he => by
      obtain rfl | rfl : e = (1, park0 .suspended) ∨ e = (2, park0 .queued) := by
        simpa using (show e ∈ [(1, park0 .suspended), (2, park0 .queued)] from he)
      all_goals exact ⟨nofun, nofun⟩⟩,
    mem_nil_elim⟩

/-- The state after its NEXT STEP. -/
def twoParksNext : State := take (.k 0) .nextStep anyBody (serveNextStep 0) { twoParks with pending := [] }

theorem step_twoParks : step twoParks = .next twoParksNext := rfl

/-- Dispatch makes the queued PARK active over the suspended one, and both are of class 0. -/
theorem classes_twoParksNext :
    twoParksNext.classes ((twoParksNext.crane 0).active.toList ++ (twoParksNext.crane 0).stack) = [0, 0] := by
  decide +kernel

end Sys2Proof.Machine

open Sys2Proof.Machine in
/-- Refutes O56: the laws do not keep a crane from a second PARK. With one PARK suspended and none active, NEXT STEP in an
aisle out of NORMAL dispatches the other, and the classes of active task and stack are 0 and 0, which do not rise. -/
theorem not_taskLawsAreKept : ¬ Obligations.TaskLawsAreKept := by
  unfold Obligations.TaskLawsAreKept
  intro h
  obtain ⟨⟨-, hcranes, -⟩, -⟩ := h twoParks twoParksNext twoParks_workLaws step_twoParks
  obtain ⟨-, -, -, hrise, -⟩ := hcranes 0
  rw [classes_twoParksNext] at hrise
  exact absurd hrise (by decide)

namespace Sys2Proof.Machine

/-- A bin of key 0 with 50 units. -/
def plainBin (place : BinPlace) (chain : List Nat) : Bin := ⟨place, 0, 50, 0, false, false, false, chain⟩

/-- The wing in LOADING with the bin 9 in lane 0, and a search for 10 units whose last bin has been visited, with the bin 9
as its best. -/
def searchInLoading : State :=
  { State.reset with
    pending := [.passCompletion]
    lanes := ⟨[(0, ⟨0, 3, [9], 0⟩)]⟩
    bins := ⟨[(9, plainBin (.stored 0) [])]⟩
    search := ⟨.running, some ⟨0, 10, 0, 5⟩, 1, 8192, some (9, 65535), ⟨1, 4, 40⟩, none⟩ }

theorem searchInLoading_lane (i : Nat) : searchInLoading.lane i = if i = 0 then ⟨0, 3, [9], 0⟩ else ⟨0, 3, [], 0⟩ := by
  show (lookupEntry i [(0, (⟨0, 3, [9], 0⟩ : Lane))]).getD ⟨0, 3, [], 0⟩ = _
  by_cases h : i = 0 <;> simp [lookupEntry, h]

theorem searchInLoading_bin (b : Nat) :
    searchInLoading.bin? b = if b = 9 then some (plainBin (.stored 0) []) else none := by
  show lookupEntry b [(9, plainBin (.stored 0) [])] = _
  by_cases h : b = 9 <;> simp [lookupEntry, h]

theorem searchInLoading_placeLaw : searchInLoading.placeLaw := by
  refine ⟨fun i => ⟨?_, fun b => ?_⟩, by decide +kernel⟩
  · rw [searchInLoading_lane]; split <;> simp
  · rw [searchInLoading_lane, searchInLoading_bin]
    by_cases hi : i = 0 <;> by_cases hb : b = 9 <;> simp [hi, hb, plainBin, eq_comm]

theorem searchInLoading_workLaws : searchInLoading.workLaws :=
  ⟨by unfold State.tablesWf; decide +kernel, by unfold State.stackLaw State.craneLaw State.holds; decide +kernel,
    ⟨fun i => by rw [searchInLoading_lane]; split <;> exact ⟨by decide, rfl⟩, mem_nil_elim, by decide +kernel⟩,
    searchInLoading_placeLaw,
    ⟨by unfold State.binLaw; decide +kernel, mem_nil_elim⟩,
    ⟨mem_nil_elim, List.nodup_nil, mem_nil_elim⟩,
    ⟨mem_nil_elim, mem_nil_elim, by decide +kernel, mem_nil_elim, mem_nil_elim⟩,
    mem_nil_elim⟩

/-- The state after its PASS COMPLETION. -/
def searchInLoadingNext : State := completePass ⟨0, 10, 0, 5⟩ { searchInLoading with pending := [] }

theorem step_searchInLoading : step searchInLoading = .next searchInLoadingNext := rfl

/-- The search has created a live claim, and the wing is still in LOADING. -/
theorem claim_searchInLoadingNext :
    searchInLoadingNext.wing = .loading ∧ ∃ e ∈ searchInLoadingNext.claims.entries, e.2.state.live = true := by
  decide +kernel

/-- Crane 0 carries the bin 9 at the SET of a STOW that names station 0 as its destination, while a FETCH of the same bin
waits in its queue for the claim 4, and a SET DOWN to take at the station. -/
def stowAtStation : State :=
  { State.reset with
    pending := [.setDown 0]
    wing := .opened
    bins := ⟨[(9, plainBin (.onCrane 0) [4])]⟩
    claims := ⟨[(4, ⟨.lend, false, 3, 9, 0, .queued, 0, none, 0, [⟨77, 5, .pending⟩], false, some 6⟩)]⟩
    tasks := ⟨[(5, { Task.new 0 .stow 4 .set with bin := some 9, dest := some (.station 0), state := .active }),
      (6, { Task.new 0 .fetch 3 .pick with bin := some 9, claim := some 4 })]⟩
    cranes := State.reset.cranes.set 0 { CraneTasks.reset with active := some 5, queue := [6] }
    channels := State.reset.channels.set 0 { State.reset.channel 0 with setDown := ⟨2000, true⟩ }
    portK := State.reset.portK.set 0 { PortBlock.reset with slot := .inFlight ⟨.setDown, 0, []⟩ } }

theorem stowAtStation_bin {b : Nat} {r : Bin} (h : stowAtStation.bin? b = some r) : r = plainBin (.onCrane 0) [4] := by
  change lookupEntry b [(9, plainBin (.onCrane 0) [4])] = some r at h
  simp only [lookupEntry] at h
  split at h <;> simp_all

theorem stowAtStation_workLaws : stowAtStation.workLaws :=
  ⟨by unfold State.tablesWf; decide +kernel, by unfold State.stackLaw State.craneLaw State.holds; decide +kernel,
    ⟨fun _ => ⟨Nat.zero_le 3, rfl⟩, by decide +kernel, by decide +kernel⟩,
    placeLaw_of_empty rfl (fun b r i h => by simp [stowAtStation_bin h, plainBin]) (by decide +kernel),
    by unfold State.unitsLaw State.binLaw; decide +kernel,
    ⟨by unfold State.serves; decide +kernel, List.nodup_nil, mem_nil_elim⟩,
    ⟨by decide +kernel, by decide +kernel, by decide +kernel, by decide +kernel, by decide +kernel⟩,
    by unfold State.stationLaw; decide +kernel⟩

/-- The state after its SET DOWN. -/
def stowAtStationNext : State := take (.k 0) .setDown anyBody (serveSetDown 0) { stowAtStation with pending := [] }

theorem step_stowAtStation : step stowAtStation = .next stowAtStationNext := rfl

/-- The hand-on has presented the claim, and the FETCH still names it. -/
theorem fetch_stowAtStationNext :
    (∃ e ∈ stowAtStationNext.tasks.entries, e.2.claim = some 4)
      ∧ ∀ x ∈ stowAtStationNext.claim? 4, x.state = .presented := by
  decide +kernel

end Sys2Proof.Machine

open Sys2Proof.Machine

/-- Refutes O57: the laws do not say that a search runs only in an OPEN wing. A search that a wing in LOADING is left with
completes its pass and creates a live RETURN claim there, which the reserved-units law excludes. -/
theorem not_binLawsAreKept : ¬ Obligations.BinLawsAreKept := by
  unfold Obligations.BinLawsAreKept
  rintro ⟨h, -⟩
  obtain ⟨-, hlive⟩ := h searchInLoading searchInLoadingNext searchInLoading_workLaws step_searchInLoading
  obtain ⟨hwing, e, he, hl⟩ := claim_searchInLoadingNext
  obtain ⟨hopen, -⟩ := hlive e he hl
  exact absurd (hwing.symm.trans hopen) (by decide)

/-- Refutes O58: the laws do not keep the destination of a STOW in a lane. A STOW that sets its bin down at the station hands
it on to the head claim, which is PRESENTED while the FETCH that serves it still waits in the queue. -/
theorem not_stationLawIsKept : ¬ Obligations.StationLawIsKept := by
  unfold Obligations.StationLawIsKept
  intro h
  obtain ⟨⟨hserves, -⟩, -⟩ := h stowAtStation stowAtStationNext stowAtStation_workLaws step_stowAtStation
  obtain ⟨⟨e, he, hc⟩, hshown⟩ := fetch_stowAtStationNext
  obtain ⟨hclaim, -⟩ := hserves e he
  obtain ⟨-, x, hx, -, hwaits, -⟩ := hclaim 4 hc
  rw [hshown x hx] at hwaits
  exact absurd hwaits (by decide)
end

section
/-!
Every step keeps the tables canonical (log 4). What the rail units, the channels, the fire sequencers, the audit unit and the
ports can do is said once, as in `TaskSteps` and `ClaimSteps`: each of their operations is a chain of primitive updates.
-/
namespace Sys2Proof.Machine

/-- A relation that the primitive updates of every block satisfy. -/
structure WingSteps (R : State → State → Prop) : Prop extends ClaimSteps R where
  rail : ∀ s k f, R s (s.modRail k f)
  channel : ∀ s k f, R s (s.modChannel k f)
  shutter : ∀ s k f, R s (s.modShutter k f)
  fire : ∀ s a f, R s (s.modFire a f)
  port : ∀ s p f, R s (s.modPort p f)
  search : ∀ s x, R s { s with search := x }
  sweep : ∀ s x, R s { s with sweep := x }
  fireLines : ∀ s x, R s { s with fireLines := x }
  wing : ∀ s x, R s { s with wing := x }
  dropBin : ∀ s b, R s (s.dropBin b)
  dropClaim : ∀ s id, R s { s with claims := s.claims.erase id }

@[simp] theorem reply_state (st : Status) (body : List Byte) (s : State) : (reply st body s).state = s := rfl

@[simp] theorem refuse_state (st : Status) (s : State) : (refuse st s).state = s := rfl

namespace WingSteps

variable {R : State → State → Prop} (h : WingSteps R)
include h

theorem take {p kind form serve} (hs : ∀ body s, R s (serve body s).state) (s) : R s (take p kind form serve s) := by
  unfold Machine.take
  split
  · exact h.trans (hs ..) (h.port ..)
  · exact h.refl _

/-! ### Cranes and rails -/

theorem modRailStop (k f s) : R s (modRailStop k f s) := TaskSteps.iff_ite (h.trans (h.rail ..) (h.latchK ..)) (h.rail ..)

theorem changeRail (k f s) : R s (changeRail k f s) := by
  unfold Machine.changeRail
  extract_lets s1 st s2
  have h1 : R s s1 := h.modRailStop ..
  exact h.trans (TaskSteps.iff_ite (h.trans h1 (h.markDue ..)) h1) (h.readyIfNewlyEligible ..)

theorem stopCrane (k cause s) : R s (stopCrane k cause s) := by
  have hstop (f) : R s (Machine.latchCraneFault k (Machine.changeRail k f s)) :=
    h.trans (h.changeRail ..) (h.latchCraneFault ..)
  unfold Machine.stopCrane
  split
  all_goals first | exact hstop _ | exact h.refl _

theorem overrunCheck (k s) : R s (overrunCheck k s) := TaskSteps.iff_ite (h.stopCrane ..) (h.refl _)

theorem armLink (k s) : R s (armLink k s) := h.rail ..

theorem armIfTravel (k t s) : R s (armIfTravel k t s) := TaskSteps.iff_ite (h.armLink ..) (h.refl _)

theorem giveTravel (k t p s) : R s (giveTravel k t p s) := h.rail ..

theorem evaluatePending (k s) : R s (evaluatePending k s).1 := by
  have hgive (t p) : R s (Machine.overrunCheck k (latchK k .grantExtended
      (Machine.armIfTravel k t (Machine.giveTravel k t p s)))) :=
    h.trans (h.trans (h.giveTravel ..) (h.armIfTravel ..)) (h.trans (h.latchK ..) (h.overrunCheck ..))
  unfold Machine.evaluatePending
  split
  · split
    · split
      · exact hgive ..
      · split
        · exact hgive ..
        · exact h.refl _
      · exact h.refl _
    · exact h.refl _
  · exact h.refl _

theorem placeYield (k y s) : R s (placeYield k y s) := by
  unfold Machine.placeYield
  refine h.trans (h.trans (h.rail s k (fun r => { r with pending := none })) ?_) (h.latchK ..)
  split
  · exact h.modTask ..
  · exact h.crane ..

theorem arbiter (a s) : R s (arbiter a s) := by
  unfold Machine.arbiter
  extract_lets first second r1 r2 s2 winner
  have hr : R s r2.1 := h.trans (h.evaluatePending ..) (h.evaluatePending ..)
  refine TaskSteps.iff_ite ?_ hr
  split
  · exact h.trans hr (h.placeYield ..)
  · exact hr

theorem arbiterIfBack (k old s) : R s (arbiterIfBack k old s) := TaskSteps.iff_ite (h.arbiter ..) (h.refl _)

theorem railCalibrated (k s) : R s (railCalibrated k s) := by
  unfold Machine.railCalibrated
  split
  · exact h.refl _
  · exact h.refl _
  · exact h.trans (h.rail ..) (h.trans (h.overrunCheck ..) (h.arbiterIfBack ..))

theorem channelFaulted (k cause s) : R s (channelFaulted k cause s) :=
  h.trans (h.channel ..) (h.trans (h.rail ..) (h.stopCrane ..))

/-! ### The crane reports -/

theorem mismatch (k s) : R s (mismatch k s).state := h.trans (h.stopCrane ..) (h.settle ..)

theorem serveNextStep (k body s) : R s (serveNextStep k body s).state := by
  unfold Machine.serveNextStep
  extract_lets s1 s2
  have h1 : R s s1 := h.trans (h.trans (h.releaseKept ..) (h.setMarker ..)) (h.takeWork ..)
  rw [reply_state]
  exact h.trans h1 (h.trans (h.settle ..) (h.deliver ..))

theorem servePicked (k body s) : R s (servePicked k body s).state := by
  unfold Machine.servePicked
  extract_lets b
  split
  · exact h.trans (h.channel ..) (h.mismatch ..)
  · rename_i push s1 s2 _ id t _
    extract_lets t2
    split
    · have h2 : R s s2 := h.trans (h.channel ..) (TaskSteps.iff_ite (h.reversePush ..) (h.refl _))
      exact h.trans h2 (h.trans (h.applyPick ..) (h.settle ..))
    · exact h.trans (h.channel ..) (h.mismatch ..)

theorem serveSetDown (k body s) : R s (serveSetDown k body s).state := by
  unfold Machine.serveSetDown
  split
  · exact h.trans (h.channel ..) (h.mismatch ..)
  · split
    · rename_i b d _ _
      extract_lets s1 s2
      have h2 : R s s2 := by
        refine h.trans (h.channel s k _ : R s s1) ?_
        cases d with
        | lane i => exact h.setDownInLane ..
        | station p => exact h.setDownAtStation ..
        | rail mm => exact h.refl _
      exact h.trans h2 (h.trans (h.readyIfNewlyQueued ..) (h.trans (h.markDue ..) (h.settle ..)))
    · exact h.trans (h.channel ..) (h.mismatch ..)

/-! ### The rail requests and the link timer -/

theorem grantCalibrated (k t s) : R s (grantCalibrated k t s) := by
  unfold Machine.grantCalibrated
  split
  · exact h.trans (h.giveTravel ..) (h.armIfTravel ..)
  · exact h.trans (h.trans (h.giveTravel ..) (h.rail ..)) (h.armIfTravel ..)
  · exact h.rail ..

theorem afterGrant (k old j s) : R s (afterGrant k old j s) :=
  h.trans (h.overrunCheck ..) (TaskSteps.iff_ite (h.arbiter ..) (h.refl _))

theorem serveGrant (k body s) : R s (serveGrant k body s).state := by
  unfold Machine.serveGrant
  extract_lets asked
  split
  · exact h.refl _
  · split
    · exact h.trans (h.grantCalibrated ..) (h.trans (h.afterGrant ..) (h.settle ..))
    · exact h.trans (h.rail ..) (h.armLink ..)

theorem clearYield (k s) : R s (clearYield k s) := by
  unfold Machine.clearYield
  split
  · exact h.modTask ..
  · exact h.crane ..

theorem completeHome (k s) : R s (completeHome k s) := by
  unfold Machine.completeHome
  extract_lets s1
  have h1 : R s s1 := by
    unfold s1
    split
    · exact h.completeTask ..
    · exact h.refl _
  exact TaskSteps.iff_ite (h.trans h1 (h.changeRail ..)) h1

theorem handOver (k s) : R s (handOver k s) := by
  unfold Machine.handOver
  extract_lets home s1
  have h1 : R s s1 := TaskSteps.iff_ite (h.clearYield ..) (h.refl _)
  exact TaskSteps.iff_ite (h.trans h1 (h.completeHome ..)) (TaskSteps.iff_ite (h.trans h1 (h.changeRail ..)) h1)

theorem serveArrived (k body s) : R s (serveArrived k body s).state := by
  have hgo : R s (settle (Machine.arbiterIfBack k (s.edges k) (Machine.overrunCheck k (Machine.handOver k
      (trimReservation k s))))) :=
    h.trans (h.rail ..) (h.trans (h.trans (h.handOver ..) (h.overrunCheck ..))
      (h.trans (h.arbiterIfBack ..) (h.settle ..)))
  unfold Machine.serveArrived
  split
  · exact h.refl _
  · exact h.refl _
  · exact h.refl _
  · split
    · exact h.refl _
    · exact hgo

theorem serveDriveFault (k body s) : R s (serveDriveFault k body s).state :=
  h.trans (h.rail ..) (h.trans (h.stopCrane ..) (h.settle ..))

theorem admitHome (k s) : R s (admitHome k s) := TaskSteps.iff_ite (h.refl _) (h.admitTask ..)

theorem admitPark (k s) : R s (admitPark k s) := TaskSteps.iff_ite (h.refl _) (h.admitTask ..)

theorem restartCrane (k s) : R s (restartCrane k s) := by
  unfold Machine.restartCrane
  extract_lets old s1 s2 s3 s4
  have h2 : R s s2 := h.trans (h.channel ..) (TaskSteps.iff_ite (h.refl _) (h.admitHome ..))
  have h3 : R s s3 := h.trans h2 (h.changeRail ..)
  exact h.trans (TaskSteps.iff_ite (h.trans h3 (h.overrunCheck ..)) h3) (h.arbiterIfBack ..)

theorem serveRestart (k body s) : R s (serveRestart k body s).state := by
  unfold Machine.serveRestart
  split
  · exact h.refl _
  · exact h.trans (h.restartCrane ..) (h.settle ..)

theorem linkExpired (k s) : R s (linkExpired k s) := by
  unfold Machine.linkExpired
  extract_lets r silent
  clear_value silent
  cases silent with
  | some f => exact TaskSteps.iff_ite (h.changeRail ..) (h.trans (h.changeRail ..) (h.latchCraneFault ..))
  | none => exact h.rail ..

/-! ### The fire sequencers -/

theorem modShutters (a f s) : R s (modShutters a f s) := h.forCranes (fun _ _ => h.shutter ..) _ _

theorem enterSealed (a s) : R s (enterSealed a s) :=
  h.trans (h.fire ..) (h.forCranes (fun _ _ => h.modRailStop ..) _ _)

theorem enterClosing (a s) : R s (enterClosing a s) := by
  unfold Machine.enterClosing
  extract_lets s1 s2
  have h2 : R s s2 := h.trans (h.modShutters ..) (h.fire ..)
  exact TaskSteps.iff_ite (h.trans h2 (h.enterSealed ..)) h2

theorem closeIfReleased (a s) : R s (closeIfReleased a s) := TaskSteps.iff_ite (h.enterClosing ..) (h.refl _)

theorem releaseClear (a s) : R s (releaseClear a s) :=
  TaskSteps.iff_ite (h.trans (h.modShutters ..) (h.closeIfReleased ..)) (h.refl _)

theorem evaluatePlanes (a s) : R s (evaluatePlanes a s) :=
  h.trans (h.forCranes (fun _ _ => h.shutter ..) _ _) (h.releaseClear ..)

theorem shutStation (k s) : R s (shutStation k s) :=
  h.trans (h.station ..) (h.forIds (fun _ _ => h.touchClaim ..) _ _)

theorem closeFetches (k s) : R s (closeFetches k s) := h.forIds (fun _ _ => h.blockTask ..) _ _

theorem latchFire (a s) : R s (latchFire a s) := h.trans (h.sources ..) (h.latchC ..)

theorem latchShutterFault (a s) : R s (latchShutterFault a s) := h.trans (h.sources ..) (h.latchC ..)

theorem enterParking (a s) : R s (enterParking a s) :=
  h.trans (h.trans (h.trans (h.fire ..) (h.forCranes h.shutStation _ _))
      (h.trans (h.forCranes h.closeFetches _ _) (h.forCranes h.admitPark _ _)))
    (h.trans (h.trans (h.fire ..) (h.releaseClear ..))
      (h.trans (h.latchFire ..) (h.forCranes (fun _ _ => h.latchK ..) _ _)))

theorem alarmEdge (a s) : R s (alarmEdge a s) := by
  unfold Machine.alarmEdge
  split
  · exact h.enterParking ..
  · exact h.enterParking ..
  all_goals exact h.refl _

theorem alarmEdges (old s) : R s (alarmEdges old s) :=
  have one (a : Aisle) (s : State) : R s (if !old.alarm a && s.alarm a then Machine.alarmEdge a s else s) :=
    TaskSteps.iff_ite (h.alarmEdge ..) (h.refl _)
  h.trans (one 0 s) (one 1 _)

theorem reopenCrane (k s) : R s (reopenCrane k s) := by
  unfold Machine.reopenCrane
  extract_lets uncalibrated s1 s2
  have h1 : R s s1 := TaskSteps.iff_ite (h.stopCrane ..) (h.refl _)
  exact h.trans (TaskSteps.iff_ite (h.trans h1 (h.changeRail ..)) h1) (h.modRailStop ..)

theorem completeParks (k s) : R s (completeParks k s) :=
  h.trans (h.forIds h.completeTask _ _) (h.trans (h.popStack ..) (h.markDue ..))

theorem reopenStation (k s) : R s (reopenStation k s) :=
  h.trans (h.station ..) (h.forIds (fun _ _ => h.touchClaim ..) _ _)

theorem enterNormal (a s) : R s (enterNormal a s) :=
  h.trans (h.trans (h.trans (h.fire ..) (h.modShutters ..))
      (h.trans (h.forCranes h.reopenCrane _ _) (h.forCranes h.completeParks _ _)))
    (h.trans (h.reexamine ..)
      (h.trans (h.forCranes (fun _ _ => h.readyIfNewlyEligible ..) _ _) (h.forCranes h.reopenStation _ _)))

theorem shutterChanged (k c s) : R s (shutterChanged k c s) := by
  unfold Machine.shutterChanged
  extract_lets a
  split
  · exact TaskSteps.iff_ite (h.enterSealed ..) (h.refl _)
  · exact TaskSteps.iff_ite (h.trans (h.shutter ..) (h.latchShutterFault ..)) (h.refl _)
  · exact TaskSteps.iff_ite (h.enterNormal ..) (h.refl _)
  · exact h.refl _
  · exact h.refl _

theorem faultShutters (a ok s) : R s (faultShutters a ok s) := h.trans (h.modShutters ..) (h.latchShutterFault ..)

theorem resumeAisle (a s) : R s (resumeAisle a s) := by
  unfold Machine.resumeAisle
  extract_lets s1 s2
  have h2 : R s s2 := h.trans (h.modShutters ..) (h.fire ..)
  exact TaskSteps.iff_ite (h.trans h2 (h.enterNormal ..)) h2

theorem serveResumeAisle (body s) : R s (serveResumeAisle body s).state := by
  unfold Machine.serveResumeAisle
  split
  · exact h.refl _
  · split
    · exact h.refl _
    · split
      · exact h.refl _
      · exact h.refl _
      · exact h.refl _
      · exact h.trans (h.resumeAisle ..) (h.settle ..)
      · exact h.trans (h.resumeAisle ..) (h.settle ..)

/-! ### The channels -/

theorem plausibleCheck (k s) : R s (plausibleCheck k s) := TaskSteps.iff_ite (h.channelFaulted ..) (h.refl _)

theorem takeTransition (k a b s) : R s (takeTransition k a b s) := by
  unfold Machine.takeTransition
  extract_lets c s1 s2
  refine TaskSteps.iff_ite (h.refl _) (TaskSteps.iff_ite ?_ ?_)
  · exact TaskSteps.iff_ite (h.channel ..) (h.trans (h.channel ..) (h.channelFaulted ..))
  · exact TaskSteps.iff_ite (h.trans (h.channel ..) (h.plausibleCheck ..)) (h.channel ..)

theorem calibrate (k s) : R s (calibrate k s) :=
  h.trans (h.channel ..) (TaskSteps.iff_ite (h.channelFaulted ..) (h.trans (h.latchK ..) (h.railCalibrated ..)))

theorem checkReference (k s) : R s (checkReference k s) :=
  h.trans (h.channel ..) (TaskSteps.iff_ite (h.trans (h.channel ..) (h.plausibleCheck ..)) (h.channelFaulted ..))

theorem referenceEdge (k s) : R s (referenceEdge k s) := by
  unfold Machine.referenceEdge
  split
  · split
    · exact h.calibrate ..
    · exact h.checkReference ..
    · exact h.refl _
  · exact h.refl _

/-! ### Claims, searches, sweeps and notices -/

theorem modClaim (s id f) : R s (s.modClaim id f) := by
  unfold State.modClaim
  split
  · exact h.claim ..
  · exact h.refl _

theorem serveReadNotices (p body s) : R s (serveReadNotices p body s).state := by
  cases p with
  | c => exact h.trans (h.port s .c _) (h.sources ..)
  | k k =>
    unfold Machine.serveReadNotices
    rw [reply_state]
    exact h.port ..

theorem serveSetMask (p body s) : R s (serveSetMask p body s).state := by
  unfold Machine.serveSetMask
  extract_lets m
  split
  · exact h.refl _
  · rw [reply_state]
    exact h.port ..

theorem serveChangedClaims (body s) : R s (serveChangedClaims body s).state := h.forIds (fun _ _ => h.modClaim ..) _ _

theorem serveClaim (body s) : R s (serveClaim body s).state := by
  unfold Machine.serveClaim
  extract_lets b items
  repeat' split
  all_goals first | exact h.refl _ | exact h.trans (h.createClaim ..) (h.settle ..)

theorem servePick (body s) : R s (servePick body s).state := by
  unfold Machine.servePick
  extract_lets id i o
  repeat' split
  all_goals first | exact h.refl _ | exact h.trans (h.modBin ..) (h.touchClaim ..)

theorem serveCount (body s) : R s (serveCount body s).state := by
  unfold Machine.serveCount
  extract_lets id f
  repeat' split
  all_goals first | exact h.refl _ | exact h.bin ..

theorem serveRelease (body s) : R s (serveRelease body s).state := by
  unfold Machine.serveRelease
  extract_lets id
  split
  · exact h.refl _
  · exact h.trans (h.endPresented ..) (h.settle ..)

theorem serveCancel (body s) : R s (serveCancel body s).state := by
  unfold Machine.serveCancel
  extract_lets id
  split
  · exact h.refl _
  · split
    · exact h.refl _
    · exact h.trans (h.endPresented ..) (h.settle ..)
    · exact h.trans (h.cancelWaiting ..) (h.settle ..)

theorem serveQueryClaim (fields bad body s) : R s (serveQueryClaim fields bad body s).state := by
  unfold Machine.serveQueryClaim
  extract_lets id
  split
  · exact h.refl _
  · split
    · exact h.refl _
    · exact TaskSteps.iff_ite (h.claim ..) (h.dropClaim ..)

theorem servePlace (body s) : R s (servePlace body s).state := by
  unfold Machine.servePlace
  split
  · exact h.search ..
  · exact h.refl _
  · exact h.refl _

theorem endSearch (r s) : R s (endSearch r s) := h.trans (h.search ..) (h.latchC ..)

theorem placeWinner (q winner present s) : R s (placeWinner q winner present s) := by
  unfold Machine.placeWinner
  extract_lets b
  split
  · exact h.trans (h.trans (h.modBin ..) (h.touchClaim ..)) (h.endSearch ..)
  · split
    · exact h.trans (h.trans (h.createClaim ..) (h.settle ..)) (h.endSearch ..)
    · exact h.endSearch ..

theorem completePass (q s) : R s (completePass q s) := by
  unfold Machine.completePass
  refine TaskSteps.iff_ite (h.endSearch ..) ?_
  split
  · exact h.endSearch ..
  · extract_lets passes
    split
    · exact h.placeWinner ..
    · exact TaskSteps.iff_ite (h.search ..) (h.endSearch ..)

theorem serveSweep (body s) : R s (serveSweep body s).state := by
  unfold Machine.serveSweep
  extract_lets first last
  repeat' split
  all_goals first | exact h.refl _ | exact h.sweep ..

theorem visitSweepBin (s) : R s (visitSweepBin s) := by
  unfold Machine.visitSweepBin
  extract_lets b s1
  have h1 : R s s1 := by
    unfold s1
    split
    · exact h.trans (h.bin ..) (h.sweep ..)
    · exact h.refl _
  exact h.trans h1 (h.sweep ..)

theorem afterVisit (s) : R s (afterVisit s) :=
  TaskSteps.iff_ite (h.trans (h.sweep ..) (h.latchC ..)) (TaskSteps.iff_ite (h.trans (h.sweep ..) (h.latchC ..)) (h.refl _))

theorem serveQuerySweep (body s) : R s (serveQuerySweep body s).state := by
  unfold Machine.serveQuerySweep
  extract_lets w
  split
  · exact h.refl _
  · exact h.sweep ..

theorem serveCancelSweep (body s) : R s (serveCancelSweep body s).state := by
  unfold Machine.serveCancelSweep
  extract_lets w
  split
  · exact h.refl _
  · exact h.sweep ..

theorem rekeyRun (key l n m s) : R s (rekeyRun key l n m s).1 := by
  induction l generalizing n m s with
  | nil => exact h.refl _
  | cons i rest ih =>
    unfold Machine.rekeyRun
    split
    · exact h.refl _
    · exact h.trans (h.trans (h.lane ..) (h.forIds (fun _ _ => h.modBin ..) _ _)) (ih ..)

theorem serveSetLaneKeys (body s) : R s (serveSetLaneKeys body s).state := by
  unfold Machine.serveSetLaneKeys
  extract_lets first last key
  split
  · exact h.refl _
  · rename_i r lanes s1 _
    have hr : R s r.1 := h.rekeyRun ..
    exact h.trans (TaskSteps.iff_ite hr (h.trans hr (h.reexamine ..))) (h.settle ..)

/-! ### The directory -/

theorem stowStations (s) : R s (stowStations s) := by
  have one (k : Crane) (p : Pos) (s : State) : R s (match (s.station k).bins[p] with
      | some b => Machine.admitStow b k p 4 s
      | none => s) := by
    split
    · exact h.admitStow ..
    · exact h.refl _
  exact h.forCranes (fun k s => h.trans (one k 0 s) (one k 1 _)) _ _

theorem serveLoadStation (body s) : R s (serveLoadStation body s).state := by
  unfold Machine.serveLoadStation
  extract_lets b key fill
  split
  · exact h.refl _
  · split
    · rename_i k p _ _
      extract_lets here s1 s2
      have h1 : R s s1 := by
        unfold s1
        clear_value here
        cases here with
        | some x => exact h.trans (h.dropBin ..) (h.station ..)
        | none => exact h.refl _
      have h2 : R s s2 := h.trans (h.bin ..) (h.station ..)
      repeat' split
      all_goals first | exact h1 | exact h.refl _ | exact h2
    · exact h.refl _

theorem serveOpenWing (body s) : R s (serveOpenWing body s).state := by
  unfold Machine.serveOpenWing
  split
  · exact h.refl _
  · split
    · exact h.refl _
    · rw [reply_state]
      exact h.trans (h.wing ..) (h.trans (h.stowStations ..) (h.settle ..))

theorem serveRegisterBin (body s) : R s (serveRegisterBin body s).state := by
  unfold Machine.serveRegisterBin
  extract_lets b key fill
  repeat' split
  all_goals first
    | exact h.refl _
    | exact h.trans (h.trans (h.bin ..) (h.station ..)) (h.trans (h.admitStow ..) (h.settle ..))

theorem serveRemoveBin (body s) : R s (serveRemoveBin body s).state := by
  have hend (o : Option Nat) : R s (o.elim s (fun id => Machine.endTask id s)) := by
    cases o with
    | none => exact h.refl _
    | some id => exact h.endTask ..
  unfold Machine.serveRemoveBin
  extract_lets b
  repeat' split
  all_goals first
    | exact h.refl _
    | exact h.trans (h.trans (hend _) (h.dropBin ..)) (h.trans (h.station ..) (h.trans (h.positionFreed ..) (h.settle ..)))

theorem serveStation (body s) : R s (serveStation body s).state := by
  unfold Machine.serveStation
  extract_lets setting
  repeat' split
  all_goals first | exact h.refl _ | (dsimp only [reply_state]; exact h.station ..)

end WingSteps

end Sys2Proof.Machine
end

section
/-!
What a step can do, said once: a relation that the primitive updates of every block satisfy, and the five meanings that write a
table or a record whole, holds across every step. The canonical form of the tables is such a relation (log 4).
-/
namespace Sys2Proof.Machine

/-- A relation that the primitive updates satisfy, and the meanings that are no chain of them. -/
structure StepRules (R : State → State → Prop) : Prop extends WingSteps R where
  pending : ∀ s x, R s { s with pending := x }
  tick : ∀ s, R s (tick s)
  hold : ∀ s x y, R s { s with inReset := true, portC := x, portK := y }
  release : ∀ pins s, R s { settle (alarmEdges { State.afterReset pins with fireLines := ⟨false, false, false⟩ }
    (State.afterReset pins)) with pending := s.pending }
  loadLane : ∀ body s, R s (serveLoadLane body s).state
  configure : ∀ body s, R s (serveConfigure body s).state
  wingRestart : ∀ body s, R s (serveWingRestart body s).state

namespace StepRules

variable {R : State → State → Prop} (h : StepRules R)
include h

theorem directoryTakes (kind s) : R s (directoryTakes kind s) := by
  unfold Machine.directoryTakes
  split
  · exact h.take h.loadLane _
  · exact h.take h.serveLoadStation _
  · exact h.take h.serveOpenWing _
  · exact h.take h.serveRegisterBin _
  · exact h.take h.serveRemoveBin _
  · refine h.take (fun body s => ?_) _
    unfold serveQueryBin
    extract_lets b
    split <;> exact h.refl _
  · refine h.take (fun body s => ?_) _
    unfold serveQueryLane
    extract_lets aisle side bay level
    split <;> exact h.refl _
  · exact h.refl _

theorem validFrame (p kind s) : R s (validFrame p kind s) := by
  unfold Machine.validFrame
  split
  · exact h.refl _
  · extract_lets s1
    have h1 : R s s1 := h.rail ..
    exact TaskSteps.iff_ite (h.trans h1 (h.trans (h.changeRail ..) (h.settle ..))) h1

theorem takeFrame (p bytes s) : R s (takeFrame p bytes s) := by
  unfold Machine.takeFrame
  extract_lets kindByte tag len body hold
  have hh : ∀ st s, R s (hold st s) := fun st s => h.port ..
  split
  · exact hh ..
  · split
    · exact hh ..
    · exact TaskSteps.iff_ite (hh ..) (TaskSteps.iff_ite (hh ..) (TaskSteps.iff_ite (h.trans (h.validFrame ..) (hh ..))
        (h.trans (h.trans (h.validFrame ..) (h.port ..)) (h.directoryTakes ..))))

theorem transactionEnd (p bytes s) :
    R s (if s.inReset then s else match (s.port p).transaction with
      | none => s
      | some tr =>
        let s := s.modPort p (fun b => { b with transaction := none })
        if bytes.length = 64 ∧ tr.wasHolding = true then Machine.takeFrame p bytes s else s) := by
  refine TaskSteps.iff_ite (h.refl _) ?_
  split
  · exact h.refl _
  · exact TaskSteps.iff_ite (h.trans (h.port ..) (h.takeFrame ..)) (h.port ..)

theorem queryCrane (part bad body s) : R s (serveQueryCrane part bad body s).state := by
  unfold serveQueryCrane
  repeat' split
  all_goals exact h.refl _

theorem queryRail (part bad body s) : R s (serveQueryRail part bad body s).state := by
  unfold serveQueryRail
  split <;> exact h.refl _

/-- Every command is a chain of these updates. -/
theorem exec {c : Instr} {s t : State} (hc : exec c s = .next t) : R s t := by
  have hite {c : Prop} [Decidable c] {s t : State} (ht : R s t) : R s (if c then t else s) :=
    TaskSteps.iff_ite ht (h.refl s)
  have hite' {c : Prop} [Decidable c] {s t : State} (ht : R s t) : R s (if c then s else t) :=
    TaskSteps.iff_ite (h.refl s) ht
  cases c <;> obtain rfl := Host.Outcome.next.inj hc
  case resetAssert => exact h.hold ..
  case resetRelease => exact h.release ..
  case transactionStart => exact hite' (h.port ..)
  case transactionEnd => exact h.transactionEnd ..
  case readNotices => exact h.take (h.serveReadNotices _) _
  case setMask => exact h.take (h.serveSetMask _) _
  case configure => exact h.take h.configure _
  case loadLane => exact h.take h.loadLane _
  case loadStation => exact h.take h.serveLoadStation _
  case openWing => exact h.take h.serveOpenWing _
  case registerBin => exact h.take h.serveRegisterBin _
  case removeBin => exact h.take h.serveRemoveBin _
  case queryBin => exact h.directoryTakes .queryBin s
  case queryLane => exact h.directoryTakes .queryLane s
  case station => exact h.take h.serveStation _
  case claim => exact h.take h.serveClaim _
  case pick => exact h.take h.servePick _
  case count => exact h.take h.serveCount _
  case release => exact h.take h.serveRelease _
  case cancel => exact h.take h.serveCancel _
  case queryClaim => exact h.take (fun _ => h.serveQueryClaim _ _ _) _
  case queryClaimItems => exact h.take (fun _ => h.serveQueryClaim _ _ _) _
  case changedClaims => exact h.take h.serveChangedClaims _
  case place => exact h.take h.servePlace _
  case searchVisit =>
    split
    · exact hite (h.search ..)
    · exact h.refl _
  case passCompletion =>
    split
    · exact hite (h.completePass ..)
    · exact h.refl _
  case queryPlace => exact h.take (fun _ s => h.refl s) _
  case sweep => exact h.take h.serveSweep _
  case sweepVisit => exact hite (h.trans (h.visitSweepBin ..) (h.afterVisit ..))
  case querySweep => exact h.take h.serveQuerySweep _
  case cancelSweep => exact h.take h.serveCancelSweep _
  case setLaneKeys => exact h.take h.serveSetLaneKeys _
  case queryCraneTask => exact h.take (fun _ => h.queryCrane _ _ _) _
  case queryCraneChannel => exact h.take (h.queryCrane _ _) _
  case queryCraneRail => exact h.take (h.queryCrane _ _) _
  case queryCraneFire => exact h.take (h.queryCrane _ _) _
  case resumeAisle => exact h.take h.serveResumeAisle _
  case wingRestart => exact h.take h.wingRestart _
  case nextStep => exact h.take (h.serveNextStep _) _
  case picked => exact h.take (h.servePicked _) _
  case setDown => exact h.take (h.serveSetDown _) _
  case grant => exact h.take (h.serveGrant _) _
  case arrived => exact h.take (h.serveArrived _) _
  case driveFault => exact h.take (h.serveDriveFault _) _
  case restart => exact h.take (h.serveRestart _) _
  case queryRailChannel => exact h.take (h.queryRail _ _) _
  case queryRailRail => exact h.take (fun _ => h.queryRail _ _ _) _
  case encoderTransition => exact hite' (h.trans (h.takeTransition ..) (h.settle ..))
  case referenceEdge =>
    refine hite' ?_
    exact TaskSteps.iff_ite (h.trans (h.channel ..) (h.trans (h.referenceEdge ..) (h.settle ..))) (h.channel ..)
  case forkEdge => exact hite' (h.channel ..)
  case windowEnd =>
    exact hite (h.trans (h.trans (h.channel ..) (h.channel ..))
      (h.trans (h.trans (h.overrunCheck ..) (h.evaluatePlanes ..)) (h.settle ..)))
  case linkExpiry => exact hite (h.trans (h.linkExpired ..) (h.settle ..))
  case dwellExpiry =>
    split
    · exact hite (h.trans (h.trans (h.endPresented ..) (h.settle ..)) (h.latchC ..))
    · exact h.refl _
  case fireLineSettled => exact hite' (h.trans (h.fireLines ..) (h.trans (h.alarmEdges ..) (h.settle ..)))
  case shutterInputSettled =>
    refine hite' ?_
    exact TaskSteps.iff_ite (h.shutter ..) (h.trans (h.shutter ..) (h.trans (h.shutterChanged ..) (h.settle ..)))
  case shutterHoldExpiry =>
    exact hite (h.trans (h.trans (h.modShutters ..) (h.forCranes (fun _ _ => hite' (h.modRailStop ..)) _ _))
      (h.enterClosing ..))
  case shutterConfirmExpiry =>
    refine hite ?_
    split
    · exact h.trans (h.faultShutters ..) (h.enterSealed ..)
    · exact h.trans (h.faultShutters ..) (h.fire ..)
    all_goals exact h.refl _

/-- Every step is a chain of these updates. -/
theorem step {s t : State} (hs : step s = .next t) : R s t := by
  unfold Machine.step at hs
  split at hs
  · obtain rfl := Host.Outcome.next.inj hs
    exact h.tick s
  · exact h.trans (h.pending s _) (h.exec hs)

end StepRules

end Sys2Proof.Machine
end

section
namespace Sys2Proof.Machine

/-! ### The canonical form of the tables -/

/-- The relation "canonical tables stay canonical". -/
def KeepsTables (s t : State) : Prop := s.tablesWf → t.tablesWf

/-- A lane write keeps the tables canonical (log 4). -/
theorem keepsTables_setLane (s : State) (i : Nat) (l : Lane) : KeepsTables s (s.setLane i l) := by
  rintro ⟨hl, hb, hc, ht, hd⟩
  obtain ⟨hl', hd'⟩ := State.setLane_canonical i l hl hd
  exact ⟨hl', hb, hc, ht, hd'⟩

theorem keepsTables_setBin (s : State) (b : Nat) (r : Bin) : KeepsTables s (s.setBin b r) :=
  fun ⟨hl, hb, hc, ht, hd⟩ => ⟨hl, Table.wf_insert hb b r, hc, ht, hd⟩

theorem keepsTables_dropBin (s : State) (b : Nat) : KeepsTables s (s.dropBin b) :=
  fun ⟨hl, hb, hc, ht, hd⟩ => ⟨hl, Table.wf_erase hb b, hc, ht, hd⟩

/-- No update of a block but those of tables touches a table. -/
theorem keepsTables_wingSteps : WingSteps KeepsTables where
  refl _ := id
  trans h g := g ∘ h
  claim s id c := fun ⟨hl, hb, hc, ht, hd⟩ => ⟨hl, hb, Table.wf_insert hc id c, ht, hd⟩
  task s id t := fun ⟨hl, hb, hc, ht, hd⟩ => ⟨hl, hb, hc, Table.wf_insert ht id t, hd⟩
  drop s id := fun ⟨hl, hb, hc, ht, hd⟩ => ⟨hl, hb, hc, Table.wf_erase ht id, hd⟩
  crane _ _ _ := id
  latchC _ _ := id
  latchK _ _ _ := id
  sources _ _ := id
  due _ _ := id
  backlog _ _ := id
  incoming s i _ := keepsTables_setLane s i _
  promises _ _ _ := id
  bin := keepsTables_setBin
  lane s i _ := keepsTables_setLane s i _
  station _ _ _ := id
  rail _ _ _ := id
  channel _ _ _ := id
  shutter _ _ _ := id
  fire _ _ _ := id
  port s p f := by cases p <;> exact id
  search _ _ := id
  sweep _ _ := id
  fireLines _ _ := id
  wing _ _ := id
  dropBin := keepsTables_dropBin
  dropClaim s id := fun ⟨hl, hb, hc, ht, hd⟩ => ⟨hl, hb, Table.wf_erase hc id, ht, hd⟩

theorem keepsTables_loadLane (body : List Byte) (s : State) : KeepsTables s (serveLoadLane body s).state := by
  have h := keepsTables_wingSteps
  have hfold (i key : Nat) (l : List (Nat × Nat)) (s : State) : KeepsTables s
      (l.foldl (fun s e => s.setBin e.1 (Bin.entering (.stored i) key (s.clampFill e.2))) s) := by
    induction l generalizing s with
    | nil => exact id
    | cons e t ih => exact h.trans (keepsTables_setBin s e.1 _) (ih _)
  unfold serveLoadLane
  extract_lets aisle side bay level key depth entries ids
  split
  · exact id
  · split
    · exact id
    · split
      · exact id
      · exact h.trans (h.trans (h.forIds (fun b s => keepsTables_dropBin s b) _ _) (keepsTables_setLane _ _ _)) (hfold _ _ _ _)

theorem keepsTables_changeLimits (l : List ConfigEntry) (f : Crane → Reservation → Reservation) (s : State) :
    KeepsTables s (changeLimits l f s) :=
  keepsTables_wingSteps.forCranes (fun k s => TaskSteps.iff_ite (keepsTables_wingSteps.rail s k _) id) _ _

/-- New parameters empty the lane table wherever the reset lane changes (R6). -/
theorem keepsTables_takeParams (l : List ConfigEntry) (new : Params) (s : State) : KeepsTables s (takeParams l new s) := by
  have h := keepsTables_wingSteps
  have hrebuild : KeepsTables s (rebuildLanes s.params { s with params := new }) := by
    rintro ⟨hl, hb, hc, ht, hd⟩
    unfold rebuildLanes
    split
    · exact ⟨rfl, Table.wf_filter hb _, hc, ht, nofun⟩
    · rename_i hsame
      simp only [ne_eq, not_or, not_not] at hsame
      obtain ⟨-, -, hdepth⟩ := hsame
      have he : new.resetLane = s.params.resetLane := by simp [Params.resetLane, hdepth]
      exact ⟨hl, hb, hc, ht, fun e he' => he ▸ hd e he'⟩
  have hclamp (old : Params) (s : State) : KeepsTables s (clampFills old s) := by
    unfold clampFills
    split
    · exact fun ⟨hl, hb, hc, ht, hd⟩ => ⟨hl, (Table.wf_map _ _).trans hb, hc, ht, hd⟩
    · exact id
  have hfault (old : Params) (s : State) : KeepsTables s (faultReconfigured old s) :=
    h.forCranes (fun k s => TaskSteps.iff_ite (h.channelFaulted k _ s) id) _ _
  have hlimits (old : Params) (s : State) : KeepsTables s (moveLimits l old s) := keepsTables_changeLimits l _ s
  have hbounds (s : State) : KeepsTables s (boundLimits l s) := keepsTables_changeLimits l _ s
  unfold takeParams
  exact h.trans (h.trans hrebuild (hclamp _ _)) (h.trans (h.trans (hlimits _ _) (hfault _ _)) (hbounds _))

theorem keepsTables_configure (body : List Byte) (s : State) : KeepsTables s (serveConfigure body s).state := by
  unfold serveConfigure
  extract_lets l
  split
  · exact id
  · split
    · exact id
    · split
      · exact id
      · exact keepsTables_wingSteps.trans (keepsTables_takeParams l _ s) (keepsTables_wingSteps.settle _)

theorem keepsTables_clearWing (s : State) : KeepsTables s (clearWing s) := by
  have h := keepsTables_wingSteps
  have hclear (s : State) : KeepsTables s (clearBins s) :=
    fun ⟨hl, hb, hc, ht, hd⟩ => ⟨hl, (Table.wf_map _ _).trans hb, hc, ht, hd⟩
  have hlanes (s : State) : KeepsTables s (clearLanes s) := h.forIds (fun i s => h.lane s i _) _ _
  intro hs
  obtain ⟨hl, hb, -, -, hd⟩ := hlanes _ (hclear { s with search := Search.reset, sweep := Sweep.reset } hs)
  exact ⟨hl, hb, rfl, rfl, hd⟩

/-- The admissions after a restart are chains of the task unit's updates (R85). -/
theorem WingSteps.admitAfterRestart {R : State → State → Prop} (h : WingSteps R) (s : State) :
    R s (admitAfterRestart s) :=
  h.trans (h.trans (h.forCranes (fun _ _ => TaskSteps.iff_ite (h.admitHome ..) (h.refl _)) _ _)
    (h.forCranes (fun _ _ => TaskSteps.iff_ite (h.refl _) (h.admitPark ..)) _ _)) (h.stowStations _)

theorem keepsTables_wingRestart (body : List Byte) (s : State) : KeepsTables s (serveWingRestart body s).state := by
  have h := keepsTables_wingSteps
  unfold serveWingRestart
  split
  · exact id
  · rw [reply_state]
    exact h.trans (keepsTables_clearWing s) (h.trans (h.admitAfterRestart _) (h.settle _))

theorem keepsTables_stepRules : StepRules KeepsTables where
  toWingSteps := keepsTables_wingSteps
  pending _ _ := id
  tick s := by
    unfold tick
    split
    · exact id
    · exact fun ⟨hl, hb, hc, ht, hd⟩ => ⟨hl, hb, (Table.wf_map _ _).trans hc, ht, hd⟩
  hold _ _ _ := id
  release pins _ _ :=
    keepsTables_wingSteps.trans (keepsTables_wingSteps.alarmEdges _ (State.afterReset pins))
      (keepsTables_wingSteps.settle _) ⟨rfl, rfl, rfl, rfl, nofun⟩
  loadLane := keepsTables_loadLane
  configure := keepsTables_configure
  wingRestart := keepsTables_wingRestart

end Sys2Proof.Machine

open Sys2Proof.Machine

/-- Settles O53: every update of a table is a write, an erasure, a filter or a change of records, and each keeps the
canonical form. -/
theorem tablesStayCanonical : Obligations.TablesStayCanonical := by
  unfold Obligations.TablesStayCanonical
  intro s t hs hstep
  exact keepsTables_stepRules.step hstep hs
end

section
namespace Sys2Proof.Machine

/-! ### The reset state -/

theorem reset_workLaws : State.reset.workLaws :=
  ⟨⟨rfl, rfl, rfl, rfl, nofun⟩,
    by unfold State.stackLaw State.craneLaw State.holds; decide +kernel,
    ⟨fun _ => ⟨Nat.zero_le 3, rfl⟩, mem_nil_elim, by decide +kernel⟩,
    placeLaw_of_empty rfl (fun _ _ _ h => nomatch h) (by decide +kernel),
    ⟨mem_nil_elim, mem_nil_elim⟩, ⟨mem_nil_elim, List.nodup_nil, mem_nil_elim⟩,
    ⟨mem_nil_elim, mem_nil_elim, mem_nil_elim, mem_nil_elim, mem_nil_elim⟩, mem_nil_elim⟩

/-- No crane is CALIBRATED at reset (R108). -/
theorem reset_reservation (k : Crane) (sp : Span) : (State.reset.rail k).reservation ≠ .calibrated sp := by
  fin_cases k <;> exact nofun

end Sys2Proof.Machine

open Sys2Proof.Machine

/-- Settles O60: the tables are empty, and the four cranes, stations and fire records are checked one by one. -/
theorem resetMeetsTheLaws : Obligations.ResetMeetsTheLaws := by
  unfold Obligations.ResetMeetsTheLaws
  refine ⟨⟨rfl, rfl, rfl, rfl, nofun⟩, ?_, ?_, ?_, ?_, ?_, reset_workLaws,
    fun k sp h => absurd h (reset_reservation k sp), fun a west east h => absurd h (reset_reservation _ west)⟩
  · unfold State.holdOpenLaw; decide +kernel
  · unfold State.formLaw; decide +kernel
  · unfold State.overrunLaw; decide +kernel
  · exact ⟨Nat.zero_le 32, nofun⟩
  · unfold State.settled; decide +kernel
end

section
namespace Sys2Proof.Machine

/-! ### Numbers in a request body -/

@[simp] theorem craneOf_val (k : Crane) : craneOf k.val = some k := dif_pos k.isLt

@[simp] theorem posOf_val (p : Pos) : posOf p.val = some p := dif_pos p.isLt

/-- A request row takes the request in flight and answers with what its block serves (R154). -/
theorem take_eq_answered {s : State} {p : Port} {q : Request} {kind : Kind} {form : List Byte → Bool}
    {serve : List Byte → State → Reply} {u : State} {st : Status} {body : List Byte} (h : s.hasRequest p q)
    (hk : q.kind = kind) (hf : form q.body = true) (hs : serve q.body s = reply st body u) :
    take p kind form serve s = u.answered p q st body := by
  subst hk
  rw [take_of_request h hf, hs, answer_eq]
  rfl

/-! ### The parts of a response (R157, log 13) -/

theorem placeResult_fields (r : PlaceResult) : r.fields = put8 (if r.reason = none then 0 else 1)
    ++ put8? (r.reason.map NoPlaceReason.code) ++ put16? r.bin ++ put8? r.claim ++ put16? r.cost
    ++ put8? (r.appended.map (fun a => if a = true then 0 else 1)) := by
  unfold PlaceResult.fields
  cases r.reason <;> simp

/-- QUERY BIN of an ABSENT bin (R18). -/
theorem serveQueryBin_absent {s : State} {body : List Byte} (hle : wordAt body 0 ≤ 8191)
    (hb : s.bin? (wordAt body 0) = none) : serveQueryBin body s = reply .ok
      (put8 s.wing.code ++ [0, 255, 255, 255, 255, 255, 255, 255, 255, 255, 255, 0, 0, 0, 0, 0, 0, 0, 0, 0]) s := by
  unfold serveQueryBin
  rw [if_neg (by omega), hb]
  rfl

/-- The place fields of a QUERY BIN response, from the place code to the station position (R18). -/
def State.placeFields (s : State) (b : Nat) : BinPlace → List Byte
  | .stored i => [1] ++ put16 i ++ putLaneAddr s.params i ++ put8 ((s.lane i).contents.idxOf b + 1) ++ [255, 255, 255]
  | .onCrane k => [2, 255, 255, 255, 255, 255, 255, 255] ++ put8 k.val ++ [255, 255]
  | .atStation k p => [3, 255, 255, 255, 255, 255, 255, 255, 255] ++ put8 k.val ++ put8 p.val

/-- QUERY BIN of a present bin (R18). -/
theorem serveQueryBin_present {s : State} {body : List Byte} {r : Bin} (hle : wordAt body 0 ≤ 8191)
    (hb : s.bin? (wordAt body 0) = some r) : serveQueryBin body s = reply .ok
      (put8 s.wing.code ++ s.placeFields (wordAt body 0) r.place
        ++ put8 r.key ++ put8 r.fill ++ put8 r.reserved ++ put8 (s.params.capacity - r.fill - r.reserved)
        ++ putFlag r.reference ++ putFlag r.change ++ putFlag r.anomaly ++ put8 r.chain.length
        ++ put8 (r.chain.take 16).length ++ (r.chain.take 16).flatMap put8) s := by
  unfold serveQueryBin
  rw [if_neg (by omega), hb]
  obtain ⟨place, key, fill, reserved, reference, change, anomaly, chain⟩ := r
  cases place <;>
    simp [State.placeFields, putList, State.freeUnits, Lane.depthOf, put8?, put16?, putNoLaneAddr, put8, put16]

/-- QUERY LANE of a configured lane (R19). -/
theorem serveQueryLane_eq {s : State} {body : List Byte} (h0 : byteAt body 0 ≤ 1) (h1 : byteAt body 1 ≤ 1)
    (h2 : byteAt body 2 < s.params.bays) (h3 : byteAt body 3 < s.params.levels) :
    let i := s.params.laneIndex (byteAt body 0) (byteAt body 1) (byteAt body 2) (byteAt body 3)
    let l := s.lane i
    serveQueryLane body s = reply .ok
      (put16 i ++ put8 l.key ++ put8 l.depth ++ put8 l.contents.length ++ put8 l.incoming
        ++ put8 (l.depth - l.contents.length - l.incoming) ++ put8 l.contents.length
        ++ l.contents.flatMap (fun b => put16 b ++ put8 ((s.bin? b).elim 0 Bin.fill))
        ++ put8 s.wing.code ++ put16 (4 * s.params.bays * s.params.levels) ++ put16 s.totalSlots
        ++ put16 s.presentCount ++ put8 s.params.reserve ++ putInt s.headroom) s := by
  unfold serveQueryLane
  dsimp only
  rw [if_neg (by omega)]
  simp [putList, Params.laneCount]

theorem serveQueryCrane_eq {s : State} {body : List Byte} {k : Crane} (part : State → Crane → List Byte)
    (hk : byteAt body 0 = k.val) : serveQueryCrane part false body s = reply .ok (part s k) s := by
  simp [serveQueryCrane, hk]

end Sys2Proof.Machine

open Sys2Proof.Machine

/-- Settles O14, query by query: each serves its record's part on the state as it stands. -/
theorem queriesReportTheRecords : Obligations.QueriesReportTheRecords := by
  unfold Obligations.QueriesReportTheRecords
  refine ⟨⟨?bin, ?lane⟩, ?place, ?crane, ?rail⟩
  case bin =>
    intro s q h hk hle
    refine ⟨fun hb => ?_, fun r hb => ?_⟩
    · exact congrArg _ (take_eq_answered h hk rfl (serveQueryBin_absent hle hb))
    · refine (congrArg _ (take_eq_answered h hk rfl (serveQueryBin_present hle hb))).trans ?_
      cases r.place <;> rfl
  case lane =>
    intro s q h hk h0 h1 h2 h3
    exact congrArg _ (take_eq_answered h hk rfl (serveQueryLane_eq h0 h1 h2 h3))
  case place =>
    intro s q pr h hk hpr
    refine ⟨fun hs => ?_, fun r hs hr => ?_⟩
    · refine congrArg _ (take_eq_answered h hk rfl ?_)
      simp [serveQueryPlace, hs, hpr, requestFields, PlaceRequest.fields, SearchState.code, put8]
    · refine congrArg _ (take_eq_answered h hk rfl ?_)
      simp [serveQueryPlace, hs, hpr, hr, requestFields, PlaceRequest.fields, SearchState.code, placeResult_fields, put8]
  case crane =>
    intro s q k h hk h0
    refine ⟨fun h1 => ?_, fun h1 => ?_, fun h1 => ?_, fun h1 => ?_⟩
    · refine congrArg _ (take_eq_answered h hk (by simp [cranePart, h1]) ?_)
      simp [cranePart, h1, serveQueryCrane_eq _ h0]
    all_goals exact congrArg _ (take_eq_answered h hk (by simp [cranePart, h1]) (serveQueryCrane_eq _ h0))
  case rail =>
    intro s q k h hk
    refine ⟨fun h0 => ?_, fun h0 => ?_⟩
    · refine congrArg _ (take_eq_answered h hk ?_ ?_)
      · simp [railPartField, h0]
      · rfl
    · refine congrArg _ (take_eq_answered h hk ?_ ?_) <;> simp [railPartField, h0, serveQueryRail]
end

section
namespace Sys2Proof.Machine

/-! ### The bins of a table after the directory's writes -/

theorem State.bin?_setBin (s : State) (b c : Nat) (r : Bin) :
    (s.setBin b r).bin? c = if c = b then some r else s.bin? c := Table.find?_insert ..

theorem State.bin?_dropBin (s : State) (b c : Nat) :
    (s.dropBin b).bin? c = if c = b then none else s.bin? c := Table.find?_erase ..

/-- Dropping bins leaves the others as they are. -/
theorem bin?_dropBins (l : List Nat) (s : State) (c : Nat) :
    (forIds l (fun b s => s.dropBin b) s).bin? c = if c ∈ l then none else s.bin? c := by
  unfold forIds
  induction l generalizing s with
  | nil => simp
  | cons b t ih =>
    rw [List.foldl_cons, ih, State.bin?_dropBin]
    by_cases ht : c ∈ t <;> by_cases hb : c = b <;> simp [ht, hb]

/-- Dropping bins changes the bin table alone. -/
theorem dropBins_eq (l : List Nat) (s : State) :
    forIds l (fun b s => s.dropBin b) s = { s with bins := (forIds l (fun b s => s.dropBin b) s).bins } := by
  unfold forIds
  induction l generalizing s with
  | nil => rfl
  | cons b t ih => rw [List.foldl_cons, ih]; rfl

/-- The listed contents of LOAD LANE, as records (R12). -/
def enterBins (i key : Nat) (l : List (Nat × Nat)) (s : State) : State :=
  l.foldl (fun s e => s.setBin e.1 (Bin.entering (.stored i) key (s.clampFill e.2))) s

/-- Entering bins changes the bin table alone. -/
theorem enterBins_eq (i key : Nat) (l : List (Nat × Nat)) (s : State) :
    enterBins i key l s = { s with bins := (enterBins i key l s).bins } := by
  unfold enterBins
  induction l generalizing s with
  | nil => rfl
  | cons e t ih => rw [List.foldl_cons, ih]; rfl

theorem bin?_enterBins_other {i key : Nat} {l : List (Nat × Nat)} {s : State} {c : Nat} (hc : c ∉ l.map Prod.fst) :
    (enterBins i key l s).bin? c = s.bin? c := by
  unfold enterBins
  induction l generalizing s with
  | nil => rfl
  | cons e t ih =>
    simp only [List.map_cons, List.mem_cons, not_or] at hc
    rw [List.foldl_cons, ih hc.2, State.bin?_setBin_other _ hc.1]

/-- Each listed bin of a list without repetition enters with its own clamped fill. -/
theorem bin?_enterBins_mem {i key : Nat} {l : List (Nat × Nat)} {s : State} (hl : (l.map Prod.fst).Nodup)
    {e : Nat × Nat} (he : e ∈ l) :
    (enterBins i key l s).bin? e.1 = some (Bin.entering (.stored i) key (s.clampFill e.2)) := by
  induction l generalizing s with
  | nil => exact absurd he (List.not_mem_nil)
  | cons d t ih =>
    simp only [List.map_cons, List.nodup_cons] at hl
    change (enterBins i key t (s.setBin d.1 _)).bin? e.1 = _
    rcases List.mem_cons.mp he with rfl | ht
    · rw [bin?_enterBins_other hl.1, State.bin?_setBin_self]
    · rw [ih hl.2 ht]; rfl

theorem State.lane_of_lanes_eq {s t : State} (hl : t.lanes = s.lanes) (hp : t.params = s.params) (i : Nat) :
    t.lane i = s.lane i := by simp [State.lane, hl, hp]

theorem dropBins_lane (l : List Nat) (s : State) (j : Nat) :
    (forIds l (fun b s => s.dropBin b) s).lane j = s.lane j := by
  have h := dropBins_eq l s
  exact State.lane_of_lanes_eq (congrArg State.lanes h) (congrArg State.params h) j

theorem enterBins_lane (i key : Nat) (l : List (Nat × Nat)) (s : State) (j : Nat) :
    (enterBins i key l s).lane j = s.lane j := by
  have h := enterBins_eq i key l s
  exact State.lane_of_lanes_eq (congrArg State.lanes h) (congrArg State.params h) j

/-! ### LOAD LANE (R12) -/

/-- The state that an accepted LOAD LANE leaves (R12). -/
def loadedLane (i key depth : Nat) (entries : List (Nat × Nat)) (s : State) : State :=
  let ids := entries.map Prod.fst
  enterBins i key entries
    ((forIds ((s.lane i).contents.filter (fun b => !ids.contains b)) (fun b s => s.dropBin b) s).setLane i
      { s.lane i with key := key, depth := depth, contents := ids })

/-- LOAD LANE changes the lane table and the bin table alone. -/
theorem loadedLane_eq (i key depth : Nat) (entries : List (Nat × Nat)) (s : State) :
    loadedLane i key depth entries s = { s with
      lanes := (loadedLane i key depth entries s).lanes, bins := (loadedLane i key depth entries s).bins } := by
  unfold loadedLane
  dsimp only
  rw [enterBins_eq, dropBins_eq]
  rfl

theorem loadedLane_lane (i key depth : Nat) (entries : List (Nat × Nat)) (s : State) (j : Nat) :
    (loadedLane i key depth entries s).lane j =
      if j = i then { s.lane i with key := key, depth := depth, contents := entries.map Prod.fst } else s.lane j := by
  unfold loadedLane
  extract_lets ids
  rw [enterBins_lane, State.lane_setLane, dropBins_lane]

theorem bin?_loadedLane_mem {i key depth : Nat} {entries : List (Nat × Nat)} {s : State}
    (hl : (entries.map Prod.fst).Nodup) {e : Nat × Nat} (he : e ∈ entries) :
    (loadedLane i key depth entries s).bin? e.1 = some (Bin.entering (.stored i) key (min e.2 s.params.capacity)) := by
  unfold loadedLane
  extract_lets ids
  rw [bin?_enterBins_mem hl he, State.clampFill, State.setLane_params, congrArg State.params (dropBins_eq ..)]

theorem bin?_loadedLane_other {i key depth : Nat} {entries : List (Nat × Nat)} {s : State} {b : Nat}
    (hb : b ∉ entries.map Prod.fst) :
    (loadedLane i key depth entries s).bin? b = if b ∈ (s.lane i).contents then none else s.bin? b := by
  unfold loadedLane
  dsimp only
  rw [bin?_enterBins_other hb]
  show (forIds _ (fun b s => s.dropBin b) s).bin? b = _
  rw [bin?_dropBins]
  simp [hb]

/-- LOAD LANE with good fields and no bin of another place is carried out (R12). -/
theorem serveLoadLane_eq {s : State} {body : List Byte} (hw : s.wing = .loading) (h0 : byteAt body 0 ≤ 1)
    (h1 : byteAt body 1 ≤ 1) (h2 : byteAt body 2 < s.params.bays) (h3 : byteAt body 3 < s.params.levels)
    (h4 : byteAt body 4 ≤ 7) (h5 : 1 ≤ byteAt body 5) (h5' : byteAt body 5 ≤ 4)
    (hlen : (laneEntries body).length ≤ byteAt body 5) (hids : ∀ b ∈ (laneEntries body).map Prod.fst, b ≤ 8191)
    (hnd : ((laneEntries body).map Prod.fst).Nodup)
    (hplace : ∀ b ∈ (laneEntries body).map Prod.fst, ∀ r, s.bin? b = some r → r.place = .stored
      (s.params.laneIndex (byteAt body 0) (byteAt body 1) (byteAt body 2) (byteAt body 3))) :
    let i := s.params.laneIndex (byteAt body 0) (byteAt body 1) (byteAt body 2) (byteAt body 3)
    let clamped := ((laneEntries body).filter (fun e => decide (s.params.capacity < e.2))).length
    let t := loadedLane i (byteAt body 4) (byteAt body 5) (laneEntries body) s
    serveLoadLane body s = reply (if clamped = 0 then .ok else .clamped)
      (put16 i ++ put8 clamped ++ put16 t.presentCount ++ put16 t.totalSlots) t := by
  intro i clamped t
  have hbig : ((laneEntries body).map Prod.fst).any (fun b => decide (8191 < b)) = false := by
    simp only [List.any_eq_false, decide_eq_true_eq]
    exact fun b hb => Nat.not_lt.mpr (hids b hb)
  have hdup : ((laneEntries body).map Prod.fst).any (fun b => match s.bin? b with
      | some r => decide (r.place ≠ .stored i)
      | none => false) = false := by
    rw [List.any_eq_false]
    intro b hb
    cases hr : s.bin? b with
    | none => simp
    | some r => simp [hplace b hb r hr, i]
  unfold serveLoadLane
  dsimp only
  have hrange : ¬ (1 < byteAt body 0 ∨ 1 < byteAt body 1 ∨ s.params.bays ≤ byteAt body 2
      ∨ s.params.levels ≤ byteAt body 3 ∨ 7 < byteAt body 4 ∨ byteAt body 5 < 1 ∨ 4 < byteAt body 5
      ∨ byteAt body 5 < (laneEntries body).length
      ∨ ((laneEntries body).map Prod.fst).any (fun b => decide (8191 < b)) = true) := by
    rw [hbig]; simp; omega
  rw [if_neg (by simp [hw]), if_neg hrange]
  refine (if_neg (not_or.mpr ⟨not_not.mpr hnd, fun hd => Bool.noConfusion (hdup.symm.trans hd)⟩)).trans ?_
  show reply _ _ t = reply _ _ t
  congr 1
  show okOrClamped (decide (0 < clamped)) = _
  by_cases hc : clamped = 0 <;> simp [okOrClamped, hc, Nat.pos_iff_ne_zero]

end Sys2Proof.Machine

open Sys2Proof.Machine

/-- Settles O11: the bins that leave are dropped, the lane takes its record, and the listed bins enter one by one. -/
theorem loadLaneReplacesTheLane : Obligations.LoadLaneReplacesTheLane := by
  unfold Obligations.LoadLaneReplacesTheLane
  intro s q h hk hw h0 h1 h2 h3 h4 h5 h5' hlen ids i clamped hids hnd hplace
  have hserve := serveLoadLane_eq hw h0 h1 h2 h3 h4 h5 h5' hlen hids hnd hplace
  refine ⟨_, congrArg Host.Outcome.next (take_eq_answered h hk ?_ hserve), ?_, ?_, ?_, ?_, ?_⟩
  · rfl
  · exact (loadedLane_lane ..).trans (if_pos rfl)
  · exact fun j hj => (loadedLane_lane ..).trans (if_neg hj)
  · exact fun e he => bin?_loadedLane_mem hnd he
  · intro b hb
    exact bin?_loadedLane_other hb
  · rw [loadedLane_eq]
    rfl
end

section
namespace Sys2Proof.Machine

/-! ### LOAD STATION (R13) -/

theorem okOrClamped_decide (c : Prop) [Decidable c] : okOrClamped (decide c) = if c then .clamped else .ok := by
  by_cases h : c <;> simp [okOrClamped, h]

/-- A bin that enters the wing at a station position (R13, R15). -/
def enterAtStation (k : Crane) (p : Pos) (b key fill : Nat) (s : State) : State :=
  (s.setBin b (Bin.entering (.atStation k p) key (s.clampFill fill))).modStation k
    (fun st => { st with bins := st.bins.set p (some b) })

theorem bin?_enterAtStation (k : Crane) (p : Pos) (b key fill c : Nat) (s : State) :
    (enterAtStation k p b key fill s).bin? c =
      if c = b then some (Bin.entering (.atStation k p) key (s.clampFill fill)) else s.bin? c := State.bin?_setBin ..

/-- A bin that leaves the wing from a station position (R13, R16). -/
def leaveStation (k : Crane) (p : Pos) (b : Nat) (s : State) : State :=
  (s.dropBin b).modStation k (fun st => { st with bins := st.bins.set p none })

theorem bin?_leaveStation (k : Crane) (p : Pos) (b c : Nat) (s : State) :
    (leaveStation k p b s).bin? c = if c = b then none else s.bin? c := State.bin?_dropBin ..

/-- LOAD STATION of a bin that is ABSENT or stands there already, at a position that no other bin holds (R13). -/
theorem serveLoadStation_bin {s : State} {body : List Byte} {k : Crane} {p : Pos} (hw : s.wing = .loading)
    (hk : byteAt body 0 = k.val) (hp : byteAt body 1 = p.val) (hb : wordAt body 2 ≤ 8191) (hkey : byteAt body 4 ≤ 7)
    (hplace : ∀ r, s.bin? (wordAt body 2) = some r → r.place = .atStation k p)
    (hfree : (s.station k).bins[p] = none ∨ (s.station k).bins[p] = some (wordAt body 2)) :
    let t := enterAtStation k p (wordAt body 2) (byteAt body 4) (byteAt body 5) s
    serveLoadStation body s = reply (if s.params.capacity < byteAt body 5 then .clamped else .ok)
      (put16 t.presentCount ++ put16 t.totalSlots) t := by
  intro t
  have hdup : ∀ o, s.bin? (wordAt body 2) = o → (match o with
      | some r => decide (r.place ≠ .atStation k p)
      | none => false) = false := by
    rintro (_ | r) hr
    · rfl
    · simp [hplace r hr]
  have hbusy : ¬ ((s.station k).bins[p].isSome = true ∧ (s.station k).bins[p] ≠ some (wordAt body 2)) := by
    rcases hfree with h | h <;> simp [h]
  unfold serveLoadStation
  dsimp only
  rw [if_neg (by simp [hw]), hk, hp, craneOf_val, posOf_val]
  dsimp only
  rw [if_neg (by omega), if_neg (by omega)]
  refine (if_neg (fun hd => Bool.noConfusion ((hdup _ rfl).symm.trans hd))).trans ((if_neg hbusy).trans ?_)
  rw [okOrClamped_decide]
  rfl

/-- LOAD STATION with no bin (R13). -/
theorem serveLoadStation_none {s : State} {body : List Byte} {k : Crane} {p : Pos} (hw : s.wing = .loading)
    (hk : byteAt body 0 = k.val) (hp : byteAt body 1 = p.val) (hb : wordAt body 2 = 65535) :
    let t := (s.station k).bins[p].elim s (fun b => leaveStation k p b s)
    serveLoadStation body s = reply .ok (put16 t.presentCount ++ put16 t.totalSlots) t := by
  unfold serveLoadStation
  dsimp only
  rw [if_neg (by simp [hw]), hk, hp, craneOf_val, posOf_val]
  dsimp only
  rw [if_pos hb]
  cases (s.station k).bins[p] <;> rfl

end Sys2Proof.Machine

open Sys2Proof.Machine

/-- Settles O12: a listed bin enters at its position, and with no bin the position's bin leaves. -/
theorem loadStationSetsThePosition : Obligations.LoadStationSetsThePosition := by
  unfold Obligations.LoadStationSetsThePosition
  intro s q k p h hq hw hk hp
  refine ⟨?bin, ?emptied, ?empty⟩
  case bin =>
    rintro _ rfl hb hkey hplace hfree
    have hserve := serveLoadStation_bin hw hk hp hb hkey hplace hfree
    refine ⟨_, congrArg Host.Outcome.next (take_eq_answered h hq rfl hserve), ?_, ?_, rfl⟩
    · exact (bin?_enterAtStation ..).trans (if_pos rfl)
    · exact fun c hc => (bin?_enterAtStation ..).trans (if_neg hc)
  case emptied =>
    intro b hb hhere
    have hserve := serveLoadStation_none hw hk hp hb
    rw [hhere] at hserve
    refine ⟨_, congrArg Host.Outcome.next (take_eq_answered h hq rfl hserve), ?_, ?_, rfl⟩
    · exact (bin?_leaveStation k p b b s).trans (if_pos rfl)
    · exact fun c hc => (bin?_leaveStation k p b c s).trans (if_neg hc)
  case empty =>
    intro hb hhere
    have hserve := serveLoadStation_none hw hk hp hb
    rw [hhere] at hserve
    exact congrArg Host.Outcome.next (take_eq_answered h hq rfl hserve)
end

section
namespace Sys2Proof.Machine

/-! ### What the task unit leaves as it is -/

/-- The frame of the task unit's updates: they move no bin, keep every record of the other blocks, and change of a lane, a
station and a port block only the incoming count, the promises and the latches. -/
structure TaskFrame (s t : State) : Prop where
  pending : t.pending = s.pending
  inReset : t.inReset = s.inReset
  wingTime : t.wingTime = s.wingTime
  wing : t.wing = s.wing
  params : t.params = s.params
  bins : t.bins = s.bins
  search : t.search = s.search
  channels : t.channels = s.channels
  rails : t.rails = s.rails
  fires : t.fires = s.fires
  shutters : t.shutters = s.shutters
  fireLines : t.fireLines = s.fireLines
  sweep : t.sweep = s.sweep
  lane : ∀ i, t.lane i = { s.lane i with incoming := (t.lane i).incoming }
  station : ∀ k, t.station k = { s.station k with promises := (t.station k).promises }
  port : ∀ p, t.port p = { s.port p with latch := (t.port p).latch }

theorem TaskFrame.of_tasks {s t : State} (h : t = { s with
      claims := t.claims, tasks := t.tasks, cranes := t.cranes, due := t.due, backlog := t.backlog,
      sources := t.sources }) : TaskFrame s t := by
  rw [h]
  exact ⟨rfl, rfl, rfl, rfl, rfl, rfl, rfl, rfl, rfl, rfl, rfl, rfl, rfl, fun _ => rfl, fun _ => rfl,
    fun p => by cases p <;> rfl⟩

theorem TaskFrame.of_port (s : State) (p : Port) (f : PortBlock → BitVec 16) :
    TaskFrame s (s.modPort p (fun b => { b with latch := f b })) := by
  refine ⟨by simp, by simp, by simp, by simp, by simp, by simp, by simp, by simp, by simp, by simp, by simp,
    by simp, by simp, fun i => ?_, fun k => ?_, fun q => ?_⟩
  · cases p <;> rfl
  · cases p <;> rfl
  · by_cases h : p = q
    · subst h; simp
    · simp [State.port_modPort_other s h]

theorem taskFrame_taskSteps : TaskSteps TaskFrame where
  refl s := .of_tasks rfl
  trans h g := ⟨g.pending.trans h.pending, g.inReset.trans h.inReset, g.wingTime.trans h.wingTime, g.wing.trans h.wing,
    g.params.trans h.params, g.bins.trans h.bins, g.search.trans h.search, g.channels.trans h.channels,
    g.rails.trans h.rails, g.fires.trans h.fires, g.shutters.trans h.shutters, g.fireLines.trans h.fireLines,
    g.sweep.trans h.sweep, fun i => by rw [g.lane, h.lane], fun k => by rw [g.station, h.station],
    fun p => by rw [g.port, h.port]⟩
  claim _ _ _ := .of_tasks rfl
  task _ _ _ := .of_tasks rfl
  drop _ _ := .of_tasks rfl
  crane _ _ _ := .of_tasks rfl
  latchC n s := .of_port s .c (fun p => p.latch ||| bit16 n.position)
  latchK k n s := .of_port s (.k k) (fun p => p.latch ||| bit16 n.position)
  sources _ _ := .of_tasks rfl
  due _ _ := .of_tasks rfl
  backlog _ _ := .of_tasks rfl
  incoming s i f := by
    refine ⟨rfl, rfl, rfl, rfl, rfl, rfl, rfl, rfl, rfl, rfl, rfl, rfl, rfl, fun j => ?_, fun _ => rfl, fun p => ?_⟩
    · by_cases h : j = i
      · subst h; simp
      · rw [State.lane_modLane_other _ h]
    · cases p <;> rfl
  promises s k f := by
    refine ⟨rfl, rfl, rfl, rfl, rfl, rfl, rfl, rfl, rfl, rfl, rfl, rfl, rfl, fun _ => rfl, fun j => ?_, fun p => ?_⟩
    · by_cases h : k = j
      · subst h; simp
      · rw [State.station_modStation_other _ h]
    · cases p <;> rfl

/-- Settling the tests owed keeps the frame of the task unit. -/
theorem settle_frame (s : State) : TaskFrame s (settle s) := taskFrame_taskSteps.settle s

theorem TaskFrame.bin? {s t : State} (h : TaskFrame s t) (b : Nat) : t.bin? b = s.bin? b := by
  simp [State.bin?, h.bins]

theorem TaskFrame.rail {s t : State} (h : TaskFrame s t) (k : Crane) : t.rail k = s.rail k := by
  simp [State.rail, h.rails]

theorem TaskFrame.channel {s t : State} (h : TaskFrame s t) (k : Crane) : t.channel k = s.channel k := by
  simp [State.channel, h.channels]

theorem TaskFrame.contents {s t : State} (h : TaskFrame s t) (i : Nat) : (t.lane i).contents = (s.lane i).contents := by
  rw [h.lane]

theorem TaskFrame.stationBins {s t : State} (h : TaskFrame s t) (k : Crane) : (t.station k).bins = (s.station k).bins := by
  rw [h.station]

theorem TaskFrame.slot {s t : State} (h : TaskFrame s t) (p : Port) : (t.port p).slot = (s.port p).slot := by
  rw [h.port]

theorem TaskFrame.transaction {s t : State} (h : TaskFrame s t) (p : Port) :
    (t.port p).transaction = (s.port p).transaction := by
  rw [h.port]

end Sys2Proof.Machine
end

section
namespace Sys2Proof.Machine

/-! ### A valid frame (R154 to R156) -/

@[simp] theorem Kind.ofCode_code (k : Kind) : Kind.ofCode k.code = some k := by cases k <;> rfl

theorem State.modPort_modPort (s : State) (p : Port) (f g : PortBlock → PortBlock) :
    (s.modPort p f).modPort p g = s.modPort p (g ∘ f) := by
  cases p <;> simp [State.modPort]

/-- A valid frame restarts the link timer of a K port's crane, if it is armed (R118). -/
def linkRestarted (p : Port) (s : State) : State :=
  match p with
  | .c => s
  | .k k => s.modRail k (fun r => { r with linkLeft := if r.linkArmed = true then s.params.linkTime else r.linkLeft })

theorem State.port_of_modRail (s : State) (k : Crane) (f : Rail → Rail) (p : Port) :
    (s.modRail k f).port p = s.port p := by
  cases p <;> rfl

theorem linkRestarted_modPort (p : Port) (f : PortBlock → PortBlock) (s : State) :
    linkRestarted p (s.modPort p f) = (linkRestarted p s).modPort p f := by
  cases p <;> rfl

theorem restartLink_eq (time : Nat) : (fun r : Rail => if r.linkArmed then { r with linkLeft := time } else r) =
    fun r => { r with linkLeft := if r.linkArmed = true then time else r.linkLeft } := by
  funext r
  cases r with
  | mk _ _ _ _ _ _ _ _ _ armed _ => cases armed <;> rfl

/-- The rail record of a SILENT crane that returns to service (R119). -/
def Rail.returned (r : Rail) : Rail :=
  { r with
    state := (match r.silentFrom with
      | some .unhomed => .unhomed
      | _ => .ready),
    silentFrom := none }

theorem Rail.returned_eq (r : Rail) :
    r.returned = { r with state := if r.silentFrom = some .unhomed then .unhomed else .ready, silentFrom := none } := by
  obtain ⟨_, from?⟩ := r
  cases from? with
  | none => rfl
  | some st => cases st <;> rfl

/-- What a valid frame does to its port's crane: a SILENT one returns to service, unless the frame is a RESTART
(R118, R119). -/
theorem validFrame_k (k : Crane) (kind : Kind) (s : State) : validFrame (.k k) kind s =
    if (s.rail k).state = .silent ∧ kind ≠ .restart then settle (changeRail k Rail.returned (linkRestarted (.k k) s))
    else linkRestarted (.k k) s := by
  unfold validFrame
  dsimp only
  rw [restartLink_eq, State.rail_modRail_self]
  rfl

theorem validFrame_eq {p : Port} {kind : Kind} {s : State}
    (h : ∀ k, p = .k k → (s.rail k).state ≠ .silent ∨ kind = .restart) : validFrame p kind s = linkRestarted p s := by
  cases p with
  | c => rfl
  | k k =>
    rw [validFrame_k, if_neg]
    rintro ⟨hs, hk⟩
    rcases h k rfl with h | h
    · exact h hs
    · exact hk h

/-- The slot that a frame with a kind leaves before a directory row takes it (R154). -/
def frameSlot (kind : Kind) (tag : Byte) (body : List Byte) : Slot :=
  if kind = .null then .holding ⟨.ok, 0, tag, []⟩ else .inFlight ⟨kind, tag, body⟩

/-- A frame that passes the checks of R155. -/
theorem takeFrame_eq {p : Port} {bytes : List Byte} {kind : Kind} (s : State) (hlen : byteAt bytes 2 ≤ 60)
    (hkind : kind.code = byteAt bytes 0) (hperm : kind.permitted p = true)
    (hbody : kind.lengthOk ((bytes.drop 3).take (byteAt bytes 2)) = true) :
    takeFrame p bytes s = directoryTakes kind ((validFrame p kind s).modPort p (fun b =>
      { b with slot := frameSlot kind (bytes.getD 1 0) ((bytes.drop 3).take (byteAt bytes 2)) })) := by
  have hcode : Kind.ofCode (bytes.getD 0 0).toNat = some kind := by
    rw [show (bytes.getD 0 0).toNat = kind.code from hkind.symm, Kind.ofCode_code]
  unfold takeFrame
  dsimp only
  rw [if_neg (by omega), hcode]
  dsimp only
  rw [if_neg (by simp [hperm]), if_neg (by simp [hbody])]
  by_cases hnull : kind = .null
  · subst hnull
    have hzero : bytes.getD 0 0 = 0 := BitVec.eq_of_toNat_eq hkind.symm
    rw [if_pos rfl, hzero]
    rfl
  · rw [if_neg hnull]
    simp only [frameSlot, hnull, if_false]

/-- TRANSACTION_END of a frame that passes the checks of R155. -/
theorem execTransactionEnd_eq {p : Port} {bytes : List Byte} {kind : Kind} {s : State} {tr : Transaction}
    (hr : s.inReset = false) (htr : (s.port p).transaction = some tr) (h64 : bytes.length = 64)
    (hw : tr.wasHolding = true) (hlen : byteAt bytes 2 ≤ 60) (hkind : kind.code = byteAt bytes 0)
    (hperm : kind.permitted p = true) (hbody : kind.lengthOk ((bytes.drop 3).take (byteAt bytes 2)) = true) :
    exec (.transactionEnd p bytes) s = .next (directoryTakes kind
      ((validFrame p kind (s.modPort p (fun b => { b with transaction := none }))).modPort p (fun b =>
        { b with slot := frameSlot kind (bytes.getD 1 0) ((bytes.drop 3).take (byteAt bytes 2)) }))) := by
  show execTransactionEnd p bytes s = _
  unfold execTransactionEnd
  rw [hr, if_neg Bool.false_ne_true, htr]
  dsimp only
  rw [if_pos ⟨h64, hw⟩, takeFrame_eq _ hlen hkind hperm hbody]

/-- The rows of the directory's requests (log 42). -/
def directoryRows : List (Kind × Instr) :=
  [(.loadLane, .loadLane), (.loadStation, .loadStation), (.openWing, .openWing), (.registerBin, .registerBin),
    (.removeBin, .removeBin), (.queryBin, .queryBin), (.queryLane, .queryLane)]

theorem directoryTakes_other {kind : Kind} (h : ∀ row ∈ directoryRows, kind ≠ row.1) (s : State) :
    directoryTakes kind s = s := by
  simp only [directoryRows, List.forall_mem_cons] at h
  obtain ⟨h1, h2, h3, h4, h5, h6, h7, -⟩ := h
  unfold directoryTakes
  split
  case h_8 => rfl
  all_goals contradiction

/-- A directory request is taken as its own row takes it (log 42). -/
theorem directoryTakes_row {row : Kind × Instr} (h : row ∈ directoryRows) (s : State) :
    exec row.2 s = .next (directoryTakes row.1 s)
      ∧ ∃ serve, directoryTakes row.1 s = take .c row.1 anyBody serve s := by
  simp only [directoryRows, List.mem_cons, List.not_mem_nil, or_false] at h
  rcases h with rfl | rfl | rfl | rfl | rfl | rfl | rfl <;> exact ⟨rfl, _, rfl⟩

theorem directoryRows_permitted {row : Kind × Instr} (h : row ∈ directoryRows) (k : Crane) :
    row.1.permitted (.k k) = false ∧ row.1 ≠ .null := by
  simp only [directoryRows, List.mem_cons, List.not_mem_nil, or_false] at h
  rcases h with rfl | rfl | rfl | rfl | rfl | rfl | rfl <;> exact ⟨rfl, nofun⟩

/-! ### A SILENT crane returns to service (R119) -/

/-- The change of a rail record keeps the frame of the task unit from the state with that record changed (R106, R107). -/
theorem changeRail_frame (k : Crane) (f : Rail → Rail) (s : State) : TaskFrame (s.modRail k f) (changeRail k f s) := by
  have h := taskFrame_taskSteps
  unfold changeRail
  extract_lets s1 st s2
  have h1 : TaskFrame (s.modRail k f) s1 := TaskSteps.iff_ite (h.latchK ..) (h.refl _)
  exact h.trans (TaskSteps.iff_ite (h.trans h1 (h.markDue ..)) h1) (h.readyIfNewlyEligible ..)

end Sys2Proof.Machine

open Sys2Proof.Machine

/-- Settles O7: a valid frame restarts the link timer and fills the slot, and a directory row then takes it; a SILENT crane's
rail record returns to service first, and the tests that this owes change no rail record. -/
theorem aValidFrameIsTaken : Obligations.AValidFrameIsTaken := by
  unfold Obligations.AValidFrameIsTaken
  refine ⟨?taken, ?silent⟩
  case taken =>
    intro p bytes s tr kind hr htr h64 hw hlen hkind hperm hbody hsilent taken rows
    have hexec := execTransactionEnd_eq hr htr h64 hw hlen hkind hperm hbody
    have htaken : (validFrame p kind (s.modPort p (fun b => { b with transaction := none }))).modPort p (fun b =>
        { b with slot := frameSlot kind (bytes.getD 1 0) ((bytes.drop 3).take (byteAt bytes 2)) }) = taken := by
      rw [validFrame_eq (fun k hk => by subst hk; simpa using hsilent k rfl), linkRestarted_modPort,
        State.modPort_modPort]
      cases p <;> rfl
    rw [htaken] at hexec
    refine ⟨fun hother => by rw [hexec, directoryTakes_other hother], ?_⟩
    rintro row hrow rfl
    obtain ⟨hrowExec, serve, hserve⟩ := directoryTakes_row hrow taken
    refine ⟨hexec.trans hrowExec.symm, _, hrowExec, ?_⟩
    cases p with
    | k k => exact absurd hperm (by simp [(directoryRows_permitted hrow k).1])
    | c =>
      have hreq : taken.hasRequest .c ⟨row.1, bytes.getD 1 0, (bytes.drop 3).take (byteAt bytes 2)⟩ := by
        refine ⟨hr, ?_⟩
        show (if row.1 = .null then _ else _) = _
        rw [if_neg (directoryRows_permitted hrow 0).2]
      rw [hserve, take_of_request hreq rfl]
      unfold answer
      rw [State.port_modPort_self]
      exact ⟨_, rfl⟩
  case silent =>
    intro k bytes s tr kind hr htr h64 hw hlen hkind hperm hbody hsilent hrestart
    have hexec := execTransactionEnd_eq hr htr h64 hw hlen hkind hperm hbody
    rw [directoryTakes_other (fun row hrow he => by
      subst he; simp [(directoryRows_permitted hrow k).1] at hperm), validFrame_k, if_pos ⟨by simpa using hsilent, hrestart⟩] at hexec
    refine ⟨_, hexec, ?_⟩
    set s1 := linkRestarted (.k k) (s.modPort (.k k) (fun b => { b with transaction := none }))
    have hf : TaskFrame (s1.modRail k Rail.returned) (settle (changeRail k Rail.returned s1)) :=
      taskFrame_taskSteps.trans (changeRail_frame ..) (settle_frame _)
    generalize settle (changeRail k Rail.returned s1) = u at hf ⊢
    refine ⟨?_, ?_, ?_, ?_, ?_, ?_, ?_, ?_, ?_, ?_, ?_, ?_, ?_, ?_⟩
    · rw [State.rail_of_modPort, hf.rail]
      simp [s1, linkRestarted, Rail.returned_eq]
    · simp [frameSlot]
    · rw [State.port_modPort_self]
      show (State.port _ _).transaction = none
      rw [hf.transaction]
      simp [s1, linkRestarted, State.port_of_modRail]
    · intro j hj
      rw [State.rail_of_modPort, hf.rail, State.rail_modRail_other _ (Ne.symm hj)]
      simp [s1, linkRestarted, State.rail_modRail_other _ (Ne.symm hj)]
    · simp [hf.pending, s1, linkRestarted]
    · simp [hf.wingTime, s1, linkRestarted]
    · simp [hf.wing, s1, linkRestarted]
    · simp [hf.params, s1, linkRestarted]
    · simp [hf.bins, s1, linkRestarted]
    · simp [hf.channels, s1, linkRestarted]
    · simp [hf.fires, s1, linkRestarted]
    · simp [hf.shutters, s1, linkRestarted]
    · simp [hf.search, s1, linkRestarted]
    · simp [hf.sweep, s1, linkRestarted]
end

section
namespace Sys2Proof.Machine

/-! ### Reading the task table -/

theorem bit16_taskReady (i : Nat) : (bit16 NoticeK.taskReady.position).getLsbD i = true ↔ i = NoticeK.taskReady.position := by
  by_cases h : i < 16
  · interval_cases i <;> simp +decide
  · rw [BitVec.getLsbD_of_ge _ _ (by omega)]
    simp [NoticeK.position]
    omega

theorem mem_of_lookupEntry {α : Type} {n : Nat} {x : α} {l : List (Nat × α)} (h : lookupEntry n l = some x) :
    (n, x) ∈ l := by
  induction l with
  | nil => simp [lookupEntry] at h
  | cons e t ih =>
    obtain ⟨k, v⟩ := e
    simp only [lookupEntry] at h
    split at h
    · next hn => subst hn; simp_all
    · exact List.mem_cons_of_mem _ (ih h)

theorem le_of_mem_risingFrom {α : Type} {l : List (Nat × α)} {e : Nat × α} (he : e ∈ l) :
    ∀ lo, risingFrom lo l = true → lo ≤ e.1 := by
  induction l with
  | nil => simp at he
  | cons d t ih =>
    intro lo h
    simp only [risingFrom, Bool.and_eq_true, decide_eq_true_eq] at h
    rcases List.mem_cons.1 he with rfl | he
    · exact h.1
    · have := ih he _ h.2
      omega

theorem lookupEntry_of_mem {α : Type} {n : Nat} {x : α} {l : List (Nat × α)} (he : (n, x) ∈ l) :
    ∀ lo, risingFrom lo l = true → lookupEntry n l = some x := by
  induction l with
  | nil => simp at he
  | cons d t ih =>
    intro lo h
    simp only [risingFrom, Bool.and_eq_true, decide_eq_true_eq] at h
    rcases List.mem_cons.1 he with rfl | he
    · simp [lookupEntry]
    · have := le_of_mem_risingFrom he _ h.2
      simp only [lookupEntry]
      rw [if_neg (by omega), ih he _ h.2]

/-- A canonical table lists exactly the records that it is read to hold. -/
theorem Table.mem_entries {α : Type} {t : Table α} (h : t.wf = true) (n : Nat) (x : α) :
    (n, x) ∈ t.entries ↔ t.find? n = some x :=
  ⟨fun he => lookupEntry_of_mem he 0 h, mem_of_lookupEntry⟩

theorem length_insertEntry {α : Type} (n : Nat) (x : α) (l : List (Nat × α)) :
    (insertEntry n x l).length ≤ l.length + 1 := by
  induction l with
  | nil => simp [insertEntry]
  | cons e t ih =>
    simp only [insertEntry]
    split
    · simp
    · split
      · simp
      · simpa using ih

/-- A table with fewer than `n` records has a free number below `n`. -/
theorem Table.lowestFree_isSome {α : Type} {t : Table α} {n : Nat} (h : t.entries.length < n) :
    ∃ id, t.lowestFree n = some id := by
  rw [← Option.isSome_iff_exists, Option.isSome_iff_ne_none]
  intro hnone
  have hsub : List.range n ⊆ t.keys := by
    intro i hi
    have hfull := List.find?_eq_none.1 hnone i hi
    cases hx : t.find? i with
    | none => simp [hx] at hfull
    | some x => exact List.mem_map_of_mem (f := Prod.fst) (mem_of_lookupEntry hx)
  have hlen := (List.nodup_range.subperm hsub).length_le
  simp [Table.keys] at hlen
  omega

theorem Table.lowestFree_free {α : Type} {t : Table α} {n id : Nat} (h : t.lowestFree n = some id) :
    t.find? id = none := by
  simpa using List.find?_some h

theorem State.mem_enqueue (s : State) (id j : Nat) (q : List Nat) : j ∈ s.enqueue id q ↔ j = id ∨ j ∈ q := by
  unfold State.enqueue
  conv_rhs => rw [← List.takeWhile_append_dropWhile (p := fun j => s.before j id) (l := q)]
  simp only [List.mem_append, List.mem_cons]
  tauto

/-! ### An admission (R60, R62) -/

/-- The record that an admission at a wing time gives a task. -/
def Task.admittedAt (x : Task) (time : Nat) : Task := { x with admitted := time, state := .queued, block := none }

theorem admitAt_tasks (id : Nat) (x : Task) (s : State) :
    (admitAt id x s).tasks = s.tasks.insert id (x.admittedAt s.wingTime) := by
  unfold admitAt readyIfIdle
  dsimp only
  split <;> rfl

theorem admitAt_task? (id : Nat) (x : Task) (s : State) (j : Nat) :
    (admitAt id x s).task? j = if j = id then some (x.admittedAt s.wingTime) else s.task? j := by
  simp only [State.task?, admitAt_tasks, Table.find?_insert]

theorem readyIfIdle_crane (k : Crane) (s : State) (j : Crane) : (readyIfIdle k s).crane j = s.crane j := by
  unfold readyIfIdle
  split <;> rfl

theorem admitAt_crane (id : Nat) (x : Task) (s : State) (k : Crane) : (admitAt id x s).crane k =
    if k = x.crane then
      { s.crane k with queue := (s.setTask id (x.admittedAt s.wingTime)).enqueue id (s.crane k).queue }
    else s.crane k := by
  show (readyIfIdle x.crane _).crane k = _
  rw [readyIfIdle_crane, State.crane_modCrane]
  by_cases h : x.crane = k
  · subst h
    rw [if_pos rfl, if_pos rfl]
    rfl
  · rw [if_neg h, if_neg (Ne.symm h)]
    rfl

theorem latchK_port (k : Crane) (n : NoticeK) (s : State) (p : Port) : (latchK k n s).port p =
    if p = .k k then { s.port p with latch := (s.port p).latch ||| bit16 n.position } else s.port p := by
  by_cases h : p = .k k
  · subst h
    rw [if_pos rfl]
    exact State.port_modPort_self ..
  · rw [if_neg h]
    exact State.port_modPort_other _ (Ne.symm h) _

/-- TASK_READY is latched at a crane with no active task (R67). -/
theorem readyIfIdle_port (k : Crane) (s : State) (p : Port) : (readyIfIdle k s).port p =
    if p = .k k ∧ (s.crane k).active = none then
      { s.port p with latch := (s.port p).latch ||| bit16 NoticeK.taskReady.position }
    else s.port p := by
  unfold readyIfIdle
  by_cases h : (s.crane k).active = none
  · simp [h, latchK_port]
  · simp [h]

theorem admitAt_port (id : Nat) (x : Task) (s : State) (p : Port) : (admitAt id x s).port p =
    if p = .k x.crane ∧ (s.crane x.crane).active = none then
      { s.port p with latch := (s.port p).latch ||| bit16 NoticeK.taskReady.position }
    else s.port p := by
  have hrest (f : CraneTasks → CraneTasks) (y : Task) : ((s.setTask id y).modCrane x.crane f).port p = s.port p := by
    cases p <;> rfl
  have hready := readyIfIdle_port x.crane ((s.setTask id (x.admittedAt s.wingTime)).modCrane x.crane (fun c =>
    { c with queue := (s.setTask id (x.admittedAt s.wingTime)).enqueue id c.queue })) p
  rw [State.crane_modCrane_self, hrest] at hready
  refine Eq.trans ?_ hready
  cases p <;> rfl

/-- An admission changes the task table, the cranes' records, the K port blocks and the tests owed. -/
theorem admitAt_frame (id : Nat) (x : Task) (s : State) : ∃ tasks cranes portK due,
    admitAt id x s = { s with tasks := tasks, cranes := cranes, portK := portK, due := due } := by
  unfold admitAt readyIfIdle
  dsimp only
  split <;> exact ⟨_, _, _, _, rfl⟩

/-! ### Admissions to cranes with no active task (R62, R67) -/

/-- A state from which tasks were admitted to cranes with no active task: at most `n` new tasks, each QUEUED, in its crane's
queue and meeting `P`; TASK_READY is latched at the cranes of the new tasks, and nothing else changed. -/
structure Admits (P : Task → Prop) (n : Nat) (s t : State) : Prop where
  frame : ∃ tasks cranes portK due, t = { s with tasks := tasks, cranes := cranes, portK := portK, due := due }
  crane : ∀ k, t.crane k = { s.crane k with queue := (t.crane k).queue }
  port : ∀ k, t.port (.k k) = { s.port (.k k) with latch := (t.port (.k k)).latch }
  wf : s.tasks.wf = true → t.tasks.wf = true
  size : t.tasks.entries.length ≤ s.tasks.entries.length + n
  kept : ∀ id u, s.task? id = some u → t.task? id = some u
  added : ∀ id u, s.task? id = none → t.task? id = some u → u.state = .queued ∧ u.admitted = s.wingTime ∧ P u
  queue : ∀ k id, id ∈ (t.crane k).queue ↔
    id ∈ (s.crane k).queue ∨ s.task? id = none ∧ ∃ u, t.task? id = some u ∧ u.crane = k
  ready : ∀ k i, (t.port (.k k)).latch.getLsbD i = true ↔ (s.port (.k k)).latch.getLsbD i = true
    ∨ i = NoticeK.taskReady.position ∧ ∃ id u, s.task? id = none ∧ t.task? id = some u ∧ u.crane = k

namespace Admits

variable {P : Task → Prop} {n m : Nat} {s t u : State}

theorem refl (s : State) : Admits P n s s where
  frame := ⟨_, _, _, _, rfl⟩
  crane _ := rfl
  port _ := rfl
  wf h := h
  size := Nat.le_add_right ..
  kept _ _ h := h
  added _ _ h g := by simp [h] at g
  queue k id := by
    refine ⟨Or.inl, ?_⟩
    rintro (h | ⟨h, w, hw, -⟩)
    · exact h
    · simp [h] at hw
  ready k i := by
    refine ⟨Or.inl, ?_⟩
    rintro (h | ⟨-, id, w, h, hw, -⟩)
    · exact h
    · simp [h] at hw

theorem mono (h : Admits P n s t) (hn : n ≤ m) : Admits P m s t :=
  { h with size := h.size.trans (by omega) }

theorem wingTime (h : Admits P n s t) : t.wingTime = s.wingTime := by
  obtain ⟨_, _, _, _, rfl⟩ := h.frame
  rfl

theorem none_of_none (h : Admits P n s t) {id : Nat} (hid : t.task? id = none) : s.task? id = none := by
  cases hs : s.task? id with
  | none => rfl
  | some w => simp [h.kept id w hs] at hid

theorem trans (h : Admits P n s t) (g : Admits P m t u) : Admits P (n + m) s u where
  frame := by
    obtain ⟨_, _, _, _, rfl⟩ := h.frame
    obtain ⟨_, _, _, _, rfl⟩ := g.frame
    exact ⟨_, _, _, _, rfl⟩
  crane k := by rw [g.crane, h.crane]
  port k := by rw [g.port, h.port]
  wf hs := g.wf (h.wf hs)
  size := by have := h.size; have := g.size; omega
  kept id w hw := g.kept _ _ (h.kept _ _ hw)
  added id w hs hw := by
    cases ht : t.task? id with
    | none => exact h.wingTime ▸ g.added id w ht hw
    | some x =>
      rw [g.kept id x ht] at hw
      obtain rfl := Option.some.inj hw
      exact h.added id x hs ht
  queue k id := by
    rw [g.queue, h.queue]
    constructor
    · rintro ((hq | ⟨hs, w, hw, hk⟩) | ⟨ht, w, hw, hk⟩)
      · exact .inl hq
      · exact .inr ⟨hs, w, g.kept _ _ hw, hk⟩
      · exact .inr ⟨h.none_of_none ht, w, hw, hk⟩
    · rintro (hq | ⟨hs, w, hw, hk⟩)
      · exact .inl (.inl hq)
      · cases ht : t.task? id with
        | none => exact .inr ⟨rfl, w, hw, hk⟩
        | some x =>
          rw [g.kept id x ht] at hw
          obtain rfl := Option.some.inj hw
          exact .inl (.inr ⟨hs, x, rfl, hk⟩)
  ready k i := by
    rw [g.ready, h.ready]
    constructor
    · rintro ((hl | ⟨hi, id, w, hs, hw, hk⟩) | ⟨hi, id, w, ht, hw, hk⟩)
      · exact .inl hl
      · exact .inr ⟨hi, id, w, hs, g.kept _ _ hw, hk⟩
      · exact .inr ⟨hi, id, w, h.none_of_none ht, hw, hk⟩
    · rintro (hl | ⟨hi, id, w, hs, hw, hk⟩)
      · exact .inl (.inl hl)
      · cases ht : t.task? id with
        | none => exact .inr ⟨hi, id, w, ht, hw, hk⟩
        | some x =>
          rw [g.kept id x ht] at hw
          obtain rfl := Option.some.inj hw
          exact .inl (.inr ⟨hi, id, x, hs, ht, hk⟩)

theorem admitAt {id : Nat} {x : Task} (hfree : s.task? id = none) (hidle : (s.crane x.crane).active = none)
    (hP : P (x.admittedAt s.wingTime)) : Admits P 1 s (admitAt id x s) := by
  have htask := admitAt_task? id x s
  have hcrane := admitAt_crane id x s
  have hport (k : Crane) := admitAt_port id x s (.k k)
  simp only [hidle, and_true, Port.k.injEq] at hport
  have htasks := admitAt_tasks id x s
  obtain ⟨tasks, cranes, portK, due, heq⟩ := admitAt_frame id x s
  refine ⟨⟨_, _, _, _, heq⟩, fun k => ?_, fun k => ?_, fun h => htasks ▸ Table.wf_insert h ..,
    htasks ▸ length_insertEntry .., ?_, ?_, ?_, ?_⟩
  · rw [hcrane]; split <;> rfl
  · rw [hport]; split <;> rfl
  · intro j w hw
    rw [htask, if_neg (by rintro rfl; simp [hfree] at hw), hw]
  · intro j w hj hw
    rw [htask] at hw
    split at hw
    · obtain rfl := Option.some.inj hw
      exact ⟨rfl, rfl, hP⟩
    · simp [hj] at hw
  · intro k j
    rw [hcrane, htask]
    by_cases hk : k = x.crane
    · subst hk
      simp only [if_true, State.mem_enqueue]
      by_cases hj : j = id
      · subst hj; simp [hfree, Task.admittedAt]
      · simp only [hj, if_false, false_or]
        exact ⟨Or.inl, fun h => h.elim (fun h => h) fun ⟨h0, w, hw, _⟩ => by simp [h0] at hw⟩
    · simp only [hk, if_false]
      refine ⟨Or.inl, ?_⟩
      rintro (h | ⟨h0, w, hw, hc⟩)
      · exact h
      · split at hw
        · obtain rfl := Option.some.inj hw
          exact absurd hc.symm hk
        · simp [h0] at hw
  · intro k i
    rw [hport]
    by_cases hk : k = x.crane
    · subst hk
      simp only [if_true, BitVec.getLsbD_or, Bool.or_eq_true, bit16_taskReady]
      refine or_congr_right ⟨fun hi => ⟨hi, id, x.admittedAt s.wingTime, hfree, by rw [htask, if_pos rfl], rfl⟩, And.left⟩
    · simp only [hk, if_false]
      refine ⟨Or.inl, ?_⟩
      rintro (h | ⟨-, j, w, h0, hw, hc⟩)
      · exact h
      · rw [htask] at hw
        split at hw
        · obtain rfl := Option.some.inj hw
          exact absurd hc.symm hk
        · simp [h0] at hw

/-- Admission to a crane with no active task. -/
theorem admitTask {x : Task} (hidle : (s.crane x.crane).active = none)
    (hP : P (x.admittedAt s.wingTime)) :
    Admits P 1 s (admitTask x s) := by
  unfold Machine.admitTask
  split
  · next id hid => exact admitAt (Table.lowestFree_free hid) hidle hP
  · exact refl s

end Admits

/-- An admitted task stands in the table, if there is room for it. -/
theorem admitTask_task (x : Task) {s : State} (h : s.tasks.entries.length < 64) :
    ∃ id, (admitTask x s).task? id = some (x.admittedAt s.wingTime) := by
  obtain ⟨id, hid⟩ := Table.lowestFree_isSome h
  refine ⟨id, ?_⟩
  unfold admitTask
  rw [hid]
  dsimp only
  rw [admitAt_task?, if_pos rfl]

end Sys2Proof.Machine
end

section
namespace Sys2Proof.Machine

/-! ### The admissions of an idle wing (R14, R20, R85) -/

theorem mem_allCranes (k : Crane) : k ∈ allCranes := by
  fin_cases k <;> simp [allCranes]

/-- A QUEUED STOW of class 4 for a bin at a position of its own crane's station. -/
def State.stationStow (s : State) (u : Task) : Prop :=
  u.kind = .stow ∧ u.cls = 4 ∧ ∃ b p, u.bin = some b ∧ u.source = some (.station p) ∧ (s.station u.crane).bins[p] = some b

/-- No crane has an active task, the task table is canonical, and it holds no STOW. -/
structure State.Idle (s : State) : Prop where
  active : ∀ k, (s.crane k).active = none
  wf : s.tasks.wf = true
  noStow : ∀ id u, s.task? id = some u → u.kind ≠ .stow

section
variable {base s : State} {P : Task → Prop} {n m : Nat} (hb : base.Idle) (hP : ∀ u, P u → u.kind = .stow → base.stationStow u)
include hb

theorem Admits.active (h : Admits P m base s) (k : Crane) : (s.crane k).active = none := by
  rw [h.crane]
  exact hb.active k

theorem Admits.mem_entries (h : Admits P m base s) (id : Nat) (u : Task) :
    (id, u) ∈ s.tasks.entries ↔ s.task? id = some u := Table.mem_entries (h.wf hb.wf) id u

omit hb in
theorem Admits.forCranes {f : Crane → State → State}
    (hf : ∀ k m s, Admits P m base s → Admits P n s (f k s)) (l : List Crane) {m : Nat} {s : State}
    (h : Admits P m base s) : Admits P (l.length * n) s (forCranes l f s) := by
  induction l generalizing m s with
  | nil => exact .refl _
  | cons k t ih =>
    have hk := hf k m s h
    have := hk.trans (ih (h.trans hk))
    exact this.mono (by simp [Nat.succ_mul]; omega)

omit hb in
/-- The state from which one of the cranes was served. -/
theorem Admits.forCranes_mem {f : Crane → State → State}
    (hf : ∀ k m s, Admits P m base s → Admits P n s (f k s)) {l : List Crane} {m : Nat} {s : State}
    (h : Admits P m base s) {k : Crane} (hk : k ∈ l) : ∃ u, Admits P (m + (l.length - 1) * n) base u
      ∧ Admits P (l.length * n) (f k u) (Machine.forCranes l f s) := by
  induction l generalizing m s with
  | nil => simp at hk
  | cons j t ih =>
    have hj := hf j m s h
    rcases List.mem_cons.1 hk with rfl | hk
    · exact ⟨s, h.mono (by omega), (Admits.forCranes hf t (h.trans hj)).mono (by simp [Nat.succ_mul])⟩
    · obtain ⟨u, hu, hu'⟩ := ih (h.trans hj) hk
      have hpos : 0 < t.length := List.length_pos_of_mem hk
      refine ⟨u, hu.mono ?_, hu'.mono (by simp [Nat.succ_mul])⟩
      obtain ⟨c, hc⟩ := Nat.exists_eq_succ_of_ne_zero hpos.ne'
      simp [hc, Nat.succ_mul]
      omega

omit hb in
theorem Admits.station (h : Admits P m base s) (k : Crane) : s.station k = base.station k := by
  obtain ⟨_, _, _, _, rfl⟩ := h.frame
  rfl

include hP

/-- A STOW in the table was admitted for its bin's position. -/
theorem Admits.stow (h : Admits P m base s) {id : Nat} {u : Task} (hu : s.task? id = some u) (hk : u.kind = .stow) :
    base.stationStow u := by
  cases h0 : base.task? id with
  | none => exact hP u (h.added id u h0 hu).2.2 hk
  | some x =>
    rw [h.kept id x h0] at hu
    obtain rfl := Option.some.inj hu
    exact absurd hk (hb.noStow id x h0)

theorem Admits.stowOf (h : Admits P m base s) {b id : Nat} (hid : s.stowOf b = some id) :
    ∃ u, s.task? id = some u ∧ u.bin = some b ∧ base.stationStow u := by
  obtain ⟨⟨j, u⟩, he, rfl⟩ := Option.map_eq_some_iff.1 hid
  have hp := List.find?_some he
  simp only [Bool.and_eq_true, decide_eq_true_eq] at hp
  have hu := (h.mem_entries hb j u).1 (List.mem_of_find?_eq_some he)
  exact ⟨u, hu, hp.2, h.stow hb hP hu hp.1⟩

/-- The admission of a STOW for a standing bin; a bin that has one keeps it (R79). -/
theorem Admits.admitStow (hstow : ∀ u, base.stationStow u → P u) (h : Admits P m base s) {b : Nat} {k : Crane} {p : Pos}
    (hbin : (base.station k).bins[p] = some b) : Admits P 1 s (admitStow b k p 4 s) := by
  unfold Machine.admitStow
  split
  · next id hid =>
    obtain ⟨u, hu, -, -, hcls, -⟩ := h.stowOf hb hP hid
    unfold lowerClass
    rw [hu]
    dsimp only
    rw [if_neg (by omega)]
    exact .refl _
  · exact Admits.admitTask (h.active hb k) (hstow _ ⟨rfl, rfl, b, p, rfl, rfl, hbin⟩)

theorem Admits.admitStow_task (h : Admits P m base s) {b : Nat} {k : Crane} {p : Pos}
    (hbin : (base.station k).bins[p] = some b) (hroom : s.tasks.entries.length < 64) :
    ∃ id u, (Machine.admitStow b k p 4 s).task? id = some u ∧ u.bin = some b ∧ base.stationStow u := by
  unfold Machine.admitStow
  split
  · next id hid =>
    obtain ⟨u, hu, hub, hus⟩ := h.stowOf hb hP hid
    unfold lowerClass
    rw [hu]
    dsimp only
    rw [if_neg (by have := hus.2.1; omega)]
    exact ⟨id, u, hu, hub, hus⟩
  · obtain ⟨id, hid⟩ := admitTask_task { Task.new k .stow 4 .pick with bin := some b, source := some (.station p) } hroom
    exact ⟨id, _, hid, rfl, rfl, rfl, b, p, rfl, rfl, hbin⟩

end

/-- The STOW admitted for one position of a station (R14, R20). -/
def stowAt (k : Crane) (p : Pos) (s : State) : State :=
  match (s.station k).bins[p] with
  | some b => admitStow b k p 4 s
  | none => s

theorem stowStations_eq (s : State) : stowStations s = forCranes allCranes (fun k s => stowAt k 1 (stowAt k 0 s)) s := rfl

section
variable {base s : State} {P : Task → Prop} {m : Nat} (hb : base.Idle) (hP : ∀ u, P u → u.kind = .stow → base.stationStow u)
  (hstow : ∀ u, base.stationStow u → P u)
include hb hP hstow

theorem Admits.stowAt (h : Admits P m base s) (k : Crane) (p : Pos) : Admits P 1 s (stowAt k p s) := by
  unfold Machine.stowAt
  split
  · next b hbin => exact h.admitStow hb hP hstow (h.station k ▸ hbin)
  · exact .refl _

theorem Admits.stowBoth (k : Crane) (m : Nat) (s : State) (h : Admits P m base s) :
    Admits P 2 s (Machine.stowAt k 1 (Machine.stowAt k 0 s)) :=
  have h0 := h.stowAt hb hP hstow k 0
  h0.trans ((h.trans h0).stowAt hb hP hstow k 1)

theorem Admits.stowStations (h : Admits P m base s) : Admits P 8 s (stowStations s) :=
  Admits.forCranes (Admits.stowBoth hb hP hstow) allCranes h

/-- Every bin at a station position is given a STOW, if the table has room (R14, R20). -/
theorem Admits.stowStations_task (h : Admits P m base s) (hroom : base.tasks.entries.length + m + 8 ≤ 64)
    {k : Crane} {p : Pos} {b : Nat} (hbin : (base.station k).bins[p] = some b) :
    ∃ id u, (Machine.stowStations s).task? id = some u ∧ u.bin = some b ∧ base.stationStow u := by
  obtain ⟨v, hv, hlast⟩ := Admits.forCranes_mem (Admits.stowBoth hb hP hstow) h (mem_allCranes k)
  have hlen : (allCranes.length - 1) * 2 = 6 := rfl
  rw [hlen] at hv
  have hv0 := hv.stowAt hb hP hstow k 0
  have hv1 := (hv.trans hv0).stowAt hb hP hstow k 1
  have hat (w : State) (m' : Nat) (hw : Admits P m' base w) (hr : base.tasks.entries.length + m' < 64) :
      ∃ id u, (Machine.stowAt k p w).task? id = some u ∧ u.bin = some b ∧ base.stationStow u := by
    unfold Machine.stowAt
    rw [hw.station, hbin]
    have := hw.size
    exact hw.admitStow_task hb hP hbin (by omega)
  suffices hsuff : ∃ id u, (Machine.stowAt k 1 (Machine.stowAt k 0 v)).task? id = some u ∧ u.bin = some b
      ∧ base.stationStow u by
    obtain ⟨id, u, hu, hrest⟩ := hsuff
    exact ⟨id, u, hlast.kept id u hu, hrest⟩
  fin_cases p
  · obtain ⟨id, u, hu, hrest⟩ := hat v _ hv (by omega)
    exact ⟨id, u, hv1.kept id u hu, hrest⟩
  · exact hat _ _ (hv.trans hv0) (by omega)

end

/-! ### The tests owed by an idle wing (R74) -/

theorem preemptTest_idle {k : Crane} {s : State} (h : (s.crane k).active = none) (tried : List Nat) :
    preemptTest k tried s = (s.modCrane k (fun c => { c with roomRefusal := false }), tried) := by
  unfold preemptTest
  rw [h]
  dsimp only [Option.bind_none]
  split
  · contradiction
  · rfl

/-- With no active task the tests owed change no more than the room refusal flags. -/
theorem settleTests_idle (n : Nat) (tried : List Nat) (s : State) (h : ∀ k, (s.crane k).active = none) :
    ∃ cranes, settleTests n tried s = { s with due := Vector.replicate 4 false, cranes := cranes }
      ∧ ∀ k, State.crane { s with cranes := cranes } k = s.crane k
        ∨ State.crane { s with cranes := cranes } k = { s.crane k with roomRefusal := false } := by
  induction n generalizing tried s with
  | zero => exact ⟨s.cranes, rfl, fun _ => .inl rfl⟩
  | succ n ih =>
    unfold settleTests
    split
    · next hdue =>
      refine ⟨s.cranes, ?_, fun _ => .inl rfl⟩
      have : s.due = Vector.replicate 4 false := by
        ext i hi
        have := List.find?_eq_none.1 hdue ⟨i, hi⟩ (mem_allCranes _)
        simpa using this
      rw [← this]
    · next k hdue =>
      dsimp only
      rw [preemptTest_idle (by exact h k)]
      obtain ⟨cranes, heq, hcranes⟩ := ih tried (State.modCrane { s with due := s.due.set k false } k
        (fun c => { c with roomRefusal := false })) (fun j => by
          rw [State.crane_modCrane]
          split
          · exact h k
          · exact h j)
      refine ⟨cranes, heq, fun j => ?_⟩
      have hj : State.crane (State.modCrane { s with due := s.due.set k false } k
          (fun c => { c with roomRefusal := false })) j = if k = j then { s.crane k with roomRefusal := false } else s.crane j :=
        State.crane_modCrane ..
      have hc := hcranes j
      rw [hj] at hc
      split at hc
      · next hkj => subst hkj; exact .inr (hc.elim id id)
      · exact hc

/-- With no active task, settling the tests owed changes no more than the room refusal flags. -/
theorem settle_idle {s : State} (h : ∀ k, (s.crane k).active = none) :
    ∃ cranes, settle s = { s with due := Vector.replicate 4 false, cranes := cranes }
      ∧ ∀ k, State.crane { s with cranes := cranes } k = s.crane k
        ∨ State.crane { s with cranes := cranes } k = { s.crane k with roomRefusal := false } :=
  settleTests_idle 400 [] s h

end Sys2Proof.Machine
end

section
namespace Sys2Proof.Machine

theorem answered_portC (s : State) (q : Request) (st : Status) (body : List Byte) : (s.answered .c q st body).portC =
    { s.portC with slot := .holding ⟨st, BitVec.ofNat 8 q.kind.code, q.tag, body⟩ } := rfl

/-! ### What WING RESTART clears (R161) -/

theorem forIds_clearIncoming (l : List Nat) (s : State) : ∃ lanes,
    forIds l (fun i s => s.modLane i (fun l => { l with incoming := 0 })) s = { s with lanes := lanes }
      ∧ ∀ i, State.lane { s with lanes := lanes } i = if i ∈ l then { s.lane i with incoming := 0 } else s.lane i := by
  induction l generalizing s with
  | nil => exact ⟨s.lanes, rfl, fun _ => rfl⟩
  | cons j t ih =>
    obtain ⟨lanes, heq, hlanes⟩ := ih (s.modLane j (fun l => { l with incoming := 0 }))
    refine ⟨lanes, heq, fun i => (hlanes i).trans ?_⟩
    by_cases hj : i = j
    · subst hj; simp
    · simp [State.lane_modLane_other s hj, hj]

theorem lane_of_not_mem_keys {s : State} {i : Nat} (h : i ∉ s.lanes.keys) : s.lane i = s.params.resetLane := by
  unfold State.lane
  cases hx : s.lanes.find? i with
  | none => rfl
  | some l => exact absurd (List.mem_map_of_mem (f := Prod.fst) (mem_of_lookupEntry hx)) h

theorem clearLanes_eq (s : State) : ∃ lanes, clearLanes s = { s with lanes := lanes }
    ∧ ∀ i, State.lane { s with lanes := lanes } i = { s.lane i with incoming := 0 } := by
  obtain ⟨lanes, heq, hlanes⟩ := forIds_clearIncoming s.lanes.keys s
  refine ⟨lanes, heq, fun i => (hlanes i).trans ?_⟩
  split
  · rfl
  · next h => rw [lane_of_not_mem_keys h]; rfl

/-- The state that WING RESTART admits its tasks in: the work is cleared, the lanes hold no incoming slots. -/
theorem clearWing_eq (s : State) : ∃ lanes,
    clearWing s = { s with
        search := Search.reset, sweep := Sweep.reset, lanes := lanes, claims := ⟨[]⟩, backlog := [], tasks := ⟨[]⟩,
        bins := ⟨s.bins.entries.map (fun e => (e.1, { e.2 with reserved := 0, chain := [] }))⟩,
        cranes := s.cranes.map CraneTasks.cleared, portC := { s.portC with latch := 0 },
        portK := s.portK.map (fun p => { p with latch := 0 }), sources := ⟨0, 0, 0, 0⟩ }
      ∧ ∀ i, State.lane { s with lanes := lanes } i = { s.lane i with incoming := 0 } := by
  obtain ⟨lanes, heq, hlanes⟩ := clearLanes_eq (clearBins { s with search := Search.reset, sweep := Sweep.reset })
  refine ⟨lanes, ?_, fun i => hlanes i⟩
  unfold clearWing clearDirectory
  rw [heq]
  rfl

theorem lookupEntry_map {α β : Type} (f : α → β) (n : Nat) (l : List (Nat × α)) :
    lookupEntry n (l.map (fun e => (e.1, f e.2))) = (lookupEntry n l).map f := by
  induction l with
  | nil => rfl
  | cons e t ih =>
    simp only [List.map_cons, lookupEntry, ih]
    split <;> rfl

/-! ### What WING RESTART admits (R85) -/

/-- A task that WING RESTART admits: a STOW at a station, or a HOME or PARK toward its crane's position (log 30). -/
def State.restartTask (s : State) (u : Task) : Prop :=
  s.stationStow u ∨ ((u.kind = .home ∨ u.kind = .park) ∧ u.dest = some (.rail (s.params.travelEnd u.crane u.kind)))

theorem State.restartTask_stow {s : State} (u : Task) (h : s.restartTask u) (hk : u.kind = .stow) : s.stationStow u := by
  rcases h with h | ⟨h | h, -⟩
  · exact h
  all_goals simp [h] at hk

section
variable {base s : State} {m : Nat} (hb : base.Idle)
include hb

/-- A HOME or PARK is admitted unless its crane holds one (R80, R81). -/
def admitTravel (k : Crane) (kind : TaskKind) (cls : Nat) (s : State) : State :=
  if s.holdsKind k kind then s
  else admitTask { Task.new k kind cls .travel with dest := some (.rail (s.params.travelEnd k kind)) } s

theorem admits_admitTravel {kind : TaskKind} (hkind : kind = .home ∨ kind = .park) (cls : Nat)
    (h : Admits base.restartTask m base s) (k : Crane) : Admits base.restartTask 1 s (admitTravel k kind cls s) := by
  have hparams : s.params = base.params := by
    obtain ⟨_, _, _, _, rfl⟩ := h.frame
    rfl
  unfold admitTravel
  split
  · exact .refl _
  · exact .admitTask (h.active hb k) (.inr ⟨hkind, by rw [hparams]; rfl⟩)

theorem admitTravel_task {kind : TaskKind} (hkind : kind = .home ∨ kind = .park) (cls : Nat)
    (hempty : ∀ id, base.task? id = none) (h : Admits base.restartTask m base s) (hroom : s.tasks.entries.length < 64)
    (k : Crane) : ∃ id u, (admitTravel k kind cls s).task? id = some u ∧ u.kind = kind ∧ u.crane = k
      ∧ u.dest = some (.rail (base.params.travelEnd k kind)) := by
  have hparams : s.params = base.params := by
    obtain ⟨_, _, _, _, rfl⟩ := h.frame
    rfl
  unfold admitTravel
  split
  · next hold =>
    obtain ⟨⟨id, u⟩, he, hu⟩ := List.any_eq_true.1 hold
    simp only [Bool.and_eq_true, decide_eq_true_eq] at hu
    obtain ⟨rfl, rfl⟩ := hu
    have htask := (h.mem_entries hb id u).1 he
    refine ⟨id, u, htask, rfl, rfl, ?_⟩
    rcases (h.added id u (hempty id) htask).2.2 with hs | ⟨-, hd⟩
    · have := hs.1
      rcases hkind with h | h <;> simp [h] at this
    · exact hd
  · obtain ⟨id, hid⟩ :=
      admitTask_task { Task.new k kind cls .travel with dest := some (.rail (s.params.travelEnd k kind)) } hroom
    exact ⟨id, _, hid, rfl, rfl, by rw [← hparams]; rfl⟩

end

/-- The HOME that an UNHOMED crane is given (R85). -/
def homeIfUnhomed (k : Crane) (s : State) : State := if (s.rail k).state = .unhomed then admitHome k s else s

/-- The PARK that a crane of an aisle out of NORMAL is given (R85). -/
def parkIfOut (k : Crane) (s : State) : State := if s.normal (aisleOf k) then s else admitPark k s

theorem admitAfterRestart_eq (s : State) : admitAfterRestart s =
    stowStations (forCranes allCranes parkIfOut (forCranes allCranes homeIfUnhomed s)) := rfl

section
variable {base : State} (hb : base.Idle)
include hb

theorem admits_homeIfUnhomed (k : Crane) (m : Nat) (s : State) (h : Admits base.restartTask m base s) :
    Admits base.restartTask 1 s (homeIfUnhomed k s) := by
  unfold homeIfUnhomed
  split
  · exact admits_admitTravel hb (.inl rfl) 1 h k
  · exact .refl _

theorem admits_parkIfOut (k : Crane) (m : Nat) (s : State) (h : Admits base.restartTask m base s) :
    Admits base.restartTask 1 s (parkIfOut k s) := by
  unfold parkIfOut
  split
  · exact .refl _
  · exact admits_admitTravel hb (.inr rfl) 0 h k

/-- The tasks that WING RESTART admits to an emptied table. -/
theorem admits_afterRestart (hempty : base.tasks.entries = []) :
    Admits base.restartTask 16 base (admitAfterRestart base)
    ∧ (∀ k, (base.rail k).state = .unhomed → ∃ id u, (admitAfterRestart base).task? id = some u ∧ u.kind = .home
        ∧ u.crane = k ∧ u.dest = some (.rail (base.params.travelEnd k .home)))
    ∧ (∀ k, (base.fire (aisleOf k)).state ≠ .normal → ∃ id u, (admitAfterRestart base).task? id = some u ∧ u.kind = .park
        ∧ u.crane = k ∧ u.dest = some (.rail (base.params.travelEnd k .park)))
    ∧ (∀ k (p : Pos) b, (base.station k).bins[p] = some b → ∃ id u, (admitAfterRestart base).task? id = some u
        ∧ u.bin = some b ∧ base.stationStow u) := by
  have hnone (id : Nat) : base.task? id = none := by simp [State.task?, Table.find?, hempty, lookupEntry]
  have hzero : base.tasks.entries.length = 0 := by simp [hempty]
  have hhomes := Admits.forCranes (admits_homeIfUnhomed hb) allCranes (.refl (n := 0) base)
  have hparks := Admits.forCranes (admits_parkIfOut hb) allCranes hhomes
  have hboth := hhomes.trans hparks
  have hstows := hboth.stowStations hb State.restartTask_stow (fun _ => .inl)
  rw [admitAfterRestart_eq]
  refine ⟨hboth.trans hstows, fun k hk => ?_, fun k hk => ?_, fun k p b hbin => ?_⟩
  · obtain ⟨v, hv, hlast⟩ := Admits.forCranes_mem (admits_homeIfUnhomed hb) (.refl (n := 0) base) (mem_allCranes k)
    have hsize := hv.size
    have hvk : homeIfUnhomed k v = admitTravel k .home 1 v := by
      obtain ⟨_, _, _, _, rfl⟩ := hv.frame
      exact if_pos hk
    obtain ⟨id, u, hu, hrest⟩ := admitTravel_task hb (.inl rfl) 1 hnone hv (by simp [allCranes] at hsize; omega) k
    exact ⟨id, u, hstows.kept _ _ (hparks.kept _ _ (hlast.kept _ _ (hvk ▸ hu))), hrest⟩
  · obtain ⟨v, hv, hlast⟩ := Admits.forCranes_mem (admits_parkIfOut hb) hhomes (mem_allCranes k)
    have hsize := hv.size
    have hvk : parkIfOut k v = admitTravel k .park 0 v := by
      obtain ⟨_, _, _, _, rfl⟩ := hv.frame
      exact if_neg (fun h => hk (of_decide_eq_true h))
    obtain ⟨id, u, hu, hrest⟩ := admitTravel_task hb (.inr rfl) 0 hnone hv (by simp [allCranes] at hsize; omega) k
    exact ⟨id, u, hstows.kept _ _ (hlast.kept _ _ (hvk ▸ hu)), hrest⟩
  · exact hboth.stowStations_task hb State.restartTask_stow (fun _ => .inl) (by rw [hzero]; decide) hbin

end

/-- The request is refused while a task is at work or a bin is on a fork (R160). -/
theorem wingRestartRefusal_busy {s : State} (hw : s.wing = .opened)
    (h : (∃ e ∈ s.tasks.entries, e.2.state = .active ∨ e.2.state = .suspended)
      ∨ ∃ e ∈ s.bins.entries, ∃ k, e.2.place = .onCrane k) : s.wingRestartRefusal = some .busy := by
  unfold State.wingRestartRefusal
  rw [if_neg (by simp [hw])]
  split
  · rfl
  · next htasks =>
    rw [if_pos]
    rcases h with ⟨e, he, hst⟩ | ⟨e, he, k, hp⟩
    · exact absurd (List.any_eq_true.2 ⟨e, he, by simpa using hst⟩) htasks
    · exact List.any_eq_true.2 ⟨e, he, by rw [hp]⟩

theorem wingRestartRefusal_none {s : State} (hw : s.wing = .opened)
    (htasks : ∀ e ∈ s.tasks.entries, e.2.state ≠ .active ∧ e.2.state ≠ .suspended)
    (hbins : ∀ e ∈ s.bins.entries, ∀ k, e.2.place ≠ .onCrane k) : s.wingRestartRefusal = none := by
  unfold State.wingRestartRefusal
  rw [if_neg (by simp [hw]), if_neg, if_neg]
  · intro hany
    obtain ⟨e, he, hp⟩ := List.any_eq_true.1 hany
    split at hp
    · next k hk => exact hbins e he k hk
    · contradiction
  · intro hany
    obtain ⟨e, he, hp⟩ := List.any_eq_true.1 hany
    have := htasks e he
    simp_all

end Sys2Proof.Machine

open Sys2Proof.Machine

/-- Settles O52: the cleared wing has no active task, so the restart's admissions only queue tasks, and the tests that they
owe find no preemption. -/
theorem wingRestartClearsTheWork : Obligations.WingRestartClearsTheWork := by
  unfold Obligations.WingRestartClearsTheWork
  intro s q h hk
  have hrefused {st : Status} (hr : s.wingRestartRefusal = some st) :
      exec .wingRestart s = .next (s.answered .c q st []) :=
    congrArg Host.Outcome.next (take_eq_answered h hk rfl (by unfold serveWingRestart; rw [hr]; rfl))
  refine ⟨fun hw => hrefused (by simp [State.wingRestartRefusal, hw]),
    fun ht hw => hrefused (wingRestartRefusal_busy hw (.inl ht)),
    fun hbin hw => hrefused (wingRestartRefusal_busy hw (.inr hbin)), ?_⟩
  intro hw hsettled hwf hidle htasks hbins
  obtain ⟨lanes, hclear, hlanes⟩ := clearWing_eq s
  set base := clearWing s with hbase
  have hcrane (k) : base.crane k = (s.crane k).cleared := by
    rw [hclear]
    simp [State.crane]
  have hport (k) : base.port (.k k) = { s.port (.k k) with latch := 0 } := by
    rw [hclear]
    simp [State.port]
  have hb : base.Idle := by
    refine ⟨fun k => by rw [hcrane]; exact (hidle k).1, by rw [hclear]; rfl, fun id u hu => ?_⟩
    rw [hclear] at hu
    simp [State.task?, Table.find?, lookupEntry] at hu
  have hempty : base.tasks.entries = [] := by rw [hclear]
  have hnone (id : Nat) : base.task? id = none := by simp [State.task?, Table.find?, hempty, lookupEntry]
  obtain ⟨hadm, hhome, hpark, hstow⟩ := admits_afterRestart hb hempty
  obtain ⟨cranes, hsettle, hcranes⟩ := settle_idle (hadm.active hb)
  obtain ⟨tasks, cranes', portK, due, hframe⟩ := hadm.frame
  generalize hu : admitAfterRestart base = u at *
  have hserve : serveWingRestart q.body s = reply .ok (put8 s.claims.entries.length ++ put8 s.tasks.entries.length
      ++ put8 (settle u).stowCount ++ put16 (settle u).presentCount) (settle u) := by
    unfold serveWingRestart
    rw [wingRestartRefusal_none hw htasks hbins, ← hbase, hu]
  refine ⟨_, congrArg Host.Outcome.next (take_eq_answered h hk rfl hserve), ?_⟩
  have htask (id) : (settle u).task? id = u.task? id := by rw [hsettle]; rfl
  have hcrane' (k) : (settle u).crane k = ⟨((settle u).crane k).queue, [], none, none, .none, false, none⟩
      ∧ ((settle u).crane k).queue = (u.crane k).queue := by
    have hbase : u.crane k = ⟨(u.crane k).queue, [], none, none, .none, false, none⟩ := by
      rw [hadm.crane, hcrane]
      simp [CraneTasks.cleared, hidle k]
    have hk : (settle u).crane k = State.crane { u with cranes := cranes } k := by rw [hsettle]; rfl
    rw [hk]
    rcases hcranes k with h | h <;> rw [h] <;> exact ⟨by rw [hbase], rfl⟩
  have hport' (k) : (settle u).port (.k k) = u.port (.k k) := by rw [hsettle]; rfl
  have hadded (id x) (hx : u.task? id = some x) := hadm.added id x (hnone id) hx
  have hlane (i) : (settle u).lane i = State.lane { s with lanes := lanes } i := by
    rw [hsettle, hframe, hclear]; rfl
  have hstation (k) : base.station k = s.station k := by rw [hclear]; rfl
  have hbins' : (settle u).bins = ⟨s.bins.entries.map (fun e => (e.1, { e.2 with reserved := 0, chain := [] }))⟩ := by
    rw [hsettle, hframe, hclear]
  refine ⟨fun id => ?claims, ?backlog, ?search, ?request, ?result, ?sweep, ?buffer, fun b => ?bin, fun i => ?lane,
    fun k => ⟨?port, fun i => ?ready⟩, ?sources, fun k => ⟨?crane, fun id => ?queue⟩, fun id x hx => ?task,
    fun k hk => ?home, fun k hk => ?park, fun k p b hbin honly => ?stow, ?portC, ?rest⟩
  case claims => show (settle u).claim? id = none; rw [hsettle, hframe, hclear]; rfl
  case backlog => show (settle u).backlog = []; rw [hsettle, hframe, hclear]
  case search => show (settle u).search.state = .idle; rw [hsettle, hframe, hclear]; rfl
  case request => show (settle u).search.request = none; rw [hsettle, hframe, hclear]; rfl
  case result => show (settle u).search.result = none; rw [hsettle, hframe, hclear]; rfl
  case sweep => show (settle u).sweep.state = .none; rw [hsettle, hframe, hclear]; rfl
  case buffer => show (settle u).sweep.buffer = []; rw [hsettle, hframe, hclear]; rfl
  case bin =>
    show (settle u).bins.find? b = _
    rw [hbins']
    exact lookupEntry_map (fun r : Bin => { r with reserved := 0, chain := [] }) b s.bins.entries
  case lane => exact (hlane i).trans (hlanes i)
  case port =>
    show (settle u).port (.k k) = { s.port (.k k) with latch := ((settle u).port (.k k)).latch }
    rw [hport', hadm.port, hport]
  case ready =>
    show ((settle u).port (.k k)).latch.getLsbD i = true ↔ _ ∧ ∃ id x, (settle u).task? id = some x ∧ _
    rw [hport', hadm.ready, hport]
    simp [hnone, htask]
  case sources => show (settle u).sources = ⟨0, 0, 0, 0⟩; rw [hsettle, hframe, hclear]
  case crane => exact (hcrane' k).1
  case queue =>
    show id ∈ ((settle u).crane k).queue ↔ ∃ x, (settle u).task? id = some x ∧ _
    rw [(hcrane' k).2, hadm.queue, hcrane, htask]
    simp [CraneTasks.cleared, hnone]
  case task =>
    obtain ⟨hstate, htime, hkind⟩ := hadded id x ((htask id).symm.trans hx)
    refine ⟨hstate, htime.trans (by rw [hclear]), ?_⟩
    rcases hkind with hs | ⟨h | h, -⟩
    · exact .inr (.inr hs.1)
    · exact .inl h
    · exact .inr (.inl h)
  case home =>
    obtain ⟨id, x, hx, hkind, hxk, hd⟩ := hhome k (by rw [hclear]; exact hk)
    refine ⟨id, x, (htask id).trans hx, hkind, hxk, hd.trans ?_⟩
    rw [hclear]
    rfl
  case park =>
    obtain ⟨id, x, hx, hkind, hxk, hd⟩ := hpark k (by rw [hclear]; exact hk)
    refine ⟨id, x, (htask id).trans hx, hkind, hxk, hd.trans ?_⟩
    rw [hclear]
    rfl
  case stow =>
    obtain ⟨id, x, hx, hxb, hkind, hcls, b', y, hb', hsource, hat⟩ := hstow k p b ((hstation k).symm ▸ hbin)
    obtain rfl := Option.some.inj (hxb.symm.trans hb')
    obtain ⟨hxk, rfl⟩ := honly x.crane y (hstation x.crane ▸ hat)
    exact ⟨id, x, (htask id).trans hx, hkind, hxb, hxk, hcls, hsource⟩
  case portC =>
    have hpresent : (settle u).presentCount = s.presentCount := by
      unfold State.presentCount
      rw [hbins', List.length_map]
    have hportC : (settle u).portC = { s.portC with latch := 0 } := by rw [hsettle, hframe, hclear]
    rw [answered_portC, hportC, hpresent]
    rfl
  case rest =>
    rw [hsettle, hframe, hclear]
    exact ⟨hw, rfl, rfl, rfl, rfl, rfl, rfl, rfl, rfl⟩
end

section
namespace Sys2Proof.Machine

/-! ### One crane that owes a test (R74) -/

/-- A preemption test is owed at one crane alone. -/
def State.owesOnly (s : State) (k : Crane) : Prop := ∀ j : Crane, s.due[j] = decide (j = k)

/-- The state with no test owed. -/
def State.undue (s : State) : State := { s with due := Vector.replicate 4 false }

theorem State.undue_settled (s : State) : s.undue.settled := fun k => by simp [State.undue]

theorem State.undue_eq {s : State} (h : s.settled) : s.undue = s := by
  have : s.due = Vector.replicate 4 false := by
    ext i hi
    simpa using h ⟨i, hi⟩
  unfold State.undue
  rw [← this]

theorem settleTests_of_settled {s : State} (h : s.settled) (n : Nat) (tried : List Nat) : settleTests n tried s = s := by
  cases n with
  | zero => exact State.undue_eq h
  | succ n =>
    have hnone : allCranes.find? (fun k => s.due[k]) = none := List.find?_eq_none.2 fun k _ => by simp [h k]
    unfold settleTests
    rw [hnone]

theorem settleTests_owesOnly {s : State} {k : Crane} (h : s.owesOnly k) (n : Nat) (tried : List Nat) :
    settleTests (n + 1) tried s = settleTests n (preemptTest k tried s.undue).2 (preemptTest k tried s.undue).1 := by
  have hfind : allCranes.find? (fun j => s.due[j]) = some k := by
    have hp : (fun j : Crane => s.due[j]) = fun j => decide (j = k) := funext h
    rw [hp]
    fin_cases k <;> rfl
  have hundue : { s with due := s.due.set k false } = s.undue := by
    have : s.due.set k false = Vector.replicate 4 false := by
      ext i hi
      by_cases hik : k.val = i
      · simp [hik]
      · rw [Vector.getElem_set_ne _ _ hik]
        have := h ⟨i, hi⟩
        simpa [Fin.ext_iff, Ne.symm hik] using this
    unfold State.undue
    rw [this]
  conv_lhs => unfold settleTests
  rw [hfind]
  dsimp only
  rw [hundue]

theorem owesOnly_of_due {s t : State} {k : Crane} (hs : s.settled) (h : t.due = s.due.set k true) : t.owesOnly k := by
  intro j
  rw [h]
  by_cases hj : k.val = j.val
  · obtain rfl := Fin.ext hj
    simp
  · have := hs j
    simp only [Fin.getElem_fin] at this ⊢
    rw [Vector.getElem_set_ne _ _ hj, this]
    simpa [Fin.ext_iff] using Ne.symm hj

/-! ### The outcomes of a preemption test (R74 to R76) -/

section
variable {k : Crane} {s : State} {tried : List Nat} {new old : Nat} {t o : Task}

/-- A crane's candidate and its active task, as the preemption test takes them (R74). -/
structure TestOf (k : Crane) (tried : List Nat) (s : State) (new : Nat) (t : Task) (old : Nat) (o : Task) : Prop where
  candidate : (s.crane k).queue.find? (fun id => s.eligibleId id && !tried.contains id) = some new
  newTask : s.task? new = some t
  active : (s.crane k).active = some old
  oldTask : s.task? old = some o

variable (h : TestOf k tried s new t old o)
include h

theorem preemptTest_eq : preemptTest k tried s =
    if t.cls < o.cls then
      if (t.immediate || s.atBoundary k o) = true then
        if s.stackRoom k t = true then
          if (activate new s).2 = true then (pushActive k old new t (activate new s).1, tried)
          else (markDue k (activate new s).1, new :: tried)
        else if (s.crane k).roomRefusal = true then (s, tried)
        else (latchStackFull k (s.modCrane k (fun c => { c with roomRefusal := true })), tried)
      else (s, tried)
    else (s.modCrane k (fun c => { c with roomRefusal := false }), tried) := by
  unfold preemptTest
  rw [h.candidate, h.active]
  dsimp only [Option.bind_some]
  rw [h.newTask, h.oldTask]
  dsimp only [Option.map_some]
  split
  · split
    · split
      · rcases activate new s with ⟨u, _ | _⟩ <;> rfl
      · rfl
    · rfl
  · rfl

end

theorem preemptTest_noCandidate {k : Crane} {tried : List Nat} {s : State}
    (h : (s.crane k).queue.find? (fun id => s.eligibleId id && !tried.contains id) = none) :
    preemptTest k tried s = (s.modCrane k (fun c => { c with roomRefusal := false }), tried) := by
  unfold preemptTest
  rw [h]
  rfl

theorem preemptTest_inactive {k : Crane} {tried : List Nat} {s : State} (h : (s.crane k).active = none) :
    preemptTest k tried s = (s.modCrane k (fun c => { c with roomRefusal := false }), tried) := preemptTest_idle h tried

theorem admitAt_due (id : Nat) (x : Task) (s : State) : (admitAt id x s).due = s.due.set x.crane true := by
  unfold admitAt readyIfIdle
  dsimp only
  split <;> rfl

/-- The test that an admission owes at a crane with no active task clears the room refusal flag. -/
theorem settle_admitAt_inactive {s : State} (hs : s.settled) (id : Nat) {x : Task} (ha : (s.crane x.crane).active = none) :
    settle (admitAt id x s) = (admitAt id x s).undue.modCrane x.crane (fun c => { c with roomRefusal := false }) := by
  unfold settle
  rw [settleTests_owesOnly (owesOnly_of_due hs (admitAt_due ..)), preemptTest_inactive, settleTests_of_settled]
  · exact (admitAt id x s).undue_settled
  · show ((admitAt id x s).crane x.crane).active = none
    rw [admitAt_crane, if_pos rfl]
    exact ha

theorem markDue_crane (k : Crane) (s : State) (j : Crane) : (markDue k s).crane j = s.crane j := rfl

theorem latchK_crane (k : Crane) (n : NoticeK) (s : State) (j : Crane) : (latchK k n s).crane j = s.crane j := rfl

theorem makeActive_crane {k : Crane} {id : Nat} {s : State} {x : Task} (hx : s.task? id = some x) (hkind : x.kind ≠ .park) :
    (makeActive k id s).crane k = { s.crane k with queue := (s.crane k).queue.erase id, active := some id } := by
  unfold makeActive
  rw [hx, markDue_crane, State.crane_modCrane_self]
  simp [hkind]

/-- What a preemption by a task that is no PARK leaves (R75); the task it suspends owes no queue-slot signal. -/
theorem pushActive_spec {k : Crane} {old new : Nat} {t o n : Task} {s : State} (ho : s.task? old = some o)
    (hn : s.task? new = some n) (hne : new ≠ old) (hkind : n.kind ≠ .park) (ht : t.kind ≠ .park)
    (howed : ¬ ((s.crane k).undelivered = .push ∧ o.kind = .fetch)) :
    (∀ j, (pushActive k old new t s).task? j = if j = old then some { o with state := .suspended, yield := none } else s.task? j)
    ∧ (pushActive k old new t s).crane k = { s.crane k with
        queue := (s.crane k).queue.erase new, active := some new, stack := old :: (s.crane k).stack, roomRefusal := false,
        undelivered := if t.immediate then .parkPush else .push }
    ∧ (pushActive k old new t s).lanes = s.lanes ∧ (pushActive k old new t s).params = s.params
    ∧ (∀ p, (pushActive k old new t s).port p = if p = .k k then
        { s.port p with latch := (s.port p).latch ||| bit16 NoticeK.taskReady.position } else s.port p)
    ∧ (pushActive k old new t s).due = s.due.set k true := by
  have hsignal : (decide ((s.crane k).undelivered = .push) && match s.task? old with
      | some o => decide (o.kind = .fetch)
      | none => false) = false := by
    rw [ho]
    simpa using howed
  have hsuspend : s.modTask old (fun o => { o with state := .suspended, yield := none }) =
      s.setTask old { o with state := .suspended, yield := none } := by
    unfold State.modTask
    rw [ho]
  have heq : pushActive k old new t s = latchK k .taskReady ((makeActive k new ((s.setTask old
      { o with state := .suspended, yield := none }).modCrane k (fun c =>
        { c with stack := old :: c.stack, roomRefusal := false }))).modCrane k (fun c =>
          { c with undelivered := if t.immediate then .parkPush else .push })) := by
    unfold pushActive
    extract_lets owed s1 s2 s3 s4 s5 s6
    have howed' : owed = false := hsignal
    have h5 : s5 = s4 := by simp [s5, howed']
    rw [if_neg ht]
    show latchK k .taskReady s5 = _
    rw [h5]
    simp only [s4, s3, s2, s1, hsuspend]
  have hnew : ((s.setTask old { o with state := .suspended, yield := none }).modCrane k (fun c =>
      { c with stack := old :: c.stack, roomRefusal := false })).task? new = some n :=
    (State.task?_setTask_other s hne _).trans hn
  rw [heq]
  refine ⟨fun j => ?_, ?_, ?_, ?_, fun p => ?_, ?_⟩
  · exact Table.find?_insert ..
  · rw [latchK_crane, State.crane_modCrane_self, makeActive_crane hnew hkind, State.crane_modCrane_self]
    rfl
  · simp [latchK, makeActive, markDue]
  · simp [latchK, makeActive, markDue]
  · rw [latchK_port]
    cases p <;> rfl
  · simp [latchK, makeActive, markDue]

/-! ### The lane of lowest price (R48, R49) -/

/-- The first lane of a rising list that no other lane undercuts. -/
theorem cheapest_eq {f : Nat → Nat} {l : List Nat} (hl : l.Pairwise (· < ·)) {i : Nat} (hi : i ∈ l)
    (hmin : ∀ j ∈ l, f i < f j ∨ f i = f j ∧ i ≤ j) : cheapest f l = some i := by
  induction l generalizing i with
  | nil => simp at hi
  | cons a t ih =>
    obtain ⟨ha, ht⟩ := List.pairwise_cons.1 hl
    rcases List.mem_cons.1 hi with rfl | hit
    · unfold cheapest
      cases hc : cheapest f t with
      | none => rfl
      | some m =>
        have hm : m ∈ t := cheapest_mem hc
        have := hmin m (List.mem_cons_of_mem _ hm)
        exact if_pos (by omega)
    · unfold cheapest
      rw [ih ht hit (fun j hj => hmin j (List.mem_cons_of_mem _ hj))]
      have h1 := hmin a List.mem_cons_self
      have h2 := ha i hit
      exact if_neg (by omega)
where
  cheapest_mem {f : Nat → Nat} {l : List Nat} {m : Nat} (h : cheapest f l = some m) : m ∈ l := by
    induction l generalizing m with
    | nil => simp [cheapest] at h
    | cons a t ih =>
      unfold cheapest at h
      split at h
      · simp_all
      · next j hj =>
        split at h
        · simp_all
        · obtain rfl := Option.some.inj h
          exact List.mem_cons_of_mem _ (ih hj)

theorem Params.mem_lanesOf (p : Params) (a : Aisle) (i : Nat) :
    i ∈ p.lanesOf a ↔ i < p.laneCount ∧ p.laneAisle i = a := by
  have hc : 2 * p.levels * p.bays = 2 * p.bays * p.levels := by ring
  have hcount : p.laneCount = 2 * (2 * p.bays * p.levels) := by unfold Params.laneCount; ring
  unfold Params.lanesOf Params.laneAisle
  rw [hc, hcount]
  generalize 2 * p.bays * p.levels = c
  simp only [List.mem_map, List.mem_range]
  constructor
  · rintro ⟨j, hj, rfl⟩
    fin_cases a
    · have : j / c = 0 := Nat.div_eq_of_lt hj
      simp [this]
      omega
    · have : (c + j) / c = 1 := by rw [Nat.add_div_left _ (by omega), Nat.div_eq_of_lt hj]
      simp [this]
      omega
  · rintro ⟨hi, ha⟩
    split at ha
    · next h0 =>
      subst ha
      have hpos : 0 < c := by omega
      exact ⟨i, by simpa [Nat.div_eq_zero_iff, hpos.ne'] using h0, by simp⟩
    · next h0 =>
      subst ha
      have hpos : 0 < c := by omega
      have hge : c ≤ i := by
        by_contra hlt
        exact h0 (Nat.div_eq_of_lt (by omega))
      exact ⟨i - c, by omega, by simp; omega⟩

theorem Params.lanesOf_pairwise (p : Params) (a : Aisle) : (p.lanesOf a).Pairwise (· < ·) := by
  unfold Params.lanesOf
  rw [List.pairwise_map]
  exact List.pairwise_lt_range.imp (fun h => by omega)

/-- Stow-lane choice: the open lane of lowest cost, the lowest index among equals (R48). -/
theorem State.stowLane_eq {s : State} {k : Crane} {key i : Nat}
    (hi : i ∈ s.openLanes (aisleOf k) key)
    (hmin : ∀ j ∈ s.openLanes (aisleOf k) key, s.stowCost k i < s.stowCost k j ∨ s.stowCost k i = s.stowCost k j ∧ i ≤ j) :
    s.stowLane k key = some i :=
  cheapest_eq ((s.params.lanesOf_pairwise _).filter _) hi hmin

theorem State.mem_openLanes (s : State) (a : Aisle) (key i : Nat) : i ∈ s.openLanes a key ↔
    i < s.params.laneCount ∧ s.params.laneAisle i = a ∧ (s.lane i).key = key
      ∧ (s.lane i).contents.length + (s.lane i).incoming < (s.lane i).depth := by
  simp only [State.openLanes, List.mem_filter, Params.mem_lanesOf, Lane.hasRoom, Bool.and_eq_true, decide_eq_true_eq,
    and_assoc]

/-! ### A new record in a table -/

theorem insertEntry_perm {α : Type} {n : Nat} (x : α) {l : List (Nat × α)} (h : lookupEntry n l = none) :
    (insertEntry n x l).Perm ((n, x) :: l) := by
  induction l with
  | nil => exact .refl _
  | cons e t ih =>
    obtain ⟨k, v⟩ := e
    simp only [lookupEntry] at h
    split at h
    · contradiction
    · next hk =>
      simp only [insertEntry]
      rw [if_neg hk]
      split
      · exact .refl _
      · exact ((ih h).cons _).trans (.swap ..)

end Sys2Proof.Machine
end

section
namespace Sys2Proof.Machine

/-! ### OPEN WING (R14) -/

/-- A wing that holds PARK and HOME tasks alone, none of them active, is idle (R64). -/
theorem idle_of_travel {s : State} (hwf : s.tablesWf) (ha : ∀ k, (s.crane k).active = none)
    (hkind : ∀ e ∈ s.tasks.entries, e.2.kind = .park ∨ e.2.kind = .home) : s.Idle := by
  refine ⟨ha, hwf.2.2.2.1, fun id u hu hk => ?_⟩
  rcases hkind _ (mem_of_lookupEntry hu) with h | h <;> simp [hk] at h

/-- OPEN WING, once accepted, admits a STOW for every standing bin and settles with no preemption. -/
theorem openWing_settled {s : State} (hs : s.settled) (hb : State.Idle { s with wing := .opened }) :
    ∃ u, stowStations { s with wing := .opened } = u
    ∧ Admits { s with wing := .opened }.stationStow 8 { s with wing := .opened } u
    ∧ (∃ cranes portK, settle u = { s with wing := .opened, tasks := u.tasks, cranes := cranes, portK := portK })
    ∧ ∀ k, ((settle u).crane k).queue = (u.crane k).queue := by
  refine ⟨_, rfl, ?_⟩
  have hadm : Admits { s with wing := .opened }.stationStow 8 { s with wing := .opened }
      (stowStations { s with wing := .opened }) := Admits.stowStations hb (fun _ h _ => h) (fun _ h => h) (.refl (n := 0) _)
  generalize stowStations { s with wing := .opened } = u at hadm ⊢
  obtain ⟨cranes, hsettle, hcranes⟩ := settle_idle (hadm.active hb)
  refine ⟨hadm, ⟨cranes, u.portK, ?_⟩, fun k => ?_⟩
  · obtain ⟨_, _, _, _, rfl⟩ := hadm.frame
    rw [hsettle, ← State.undue_eq hs]
    rfl
  · rw [hsettle]
    show (State.crane { u with cranes := cranes } k).queue = _
    rcases hcranes k with h | h <;> rw [h]

theorem answered_crane (s : State) (p : Port) (q : Request) (st : Status) (body : List Byte) (j : Crane) :
    (s.answered p q st body).crane j = s.crane j := by
  cases p <;> rfl

/-! ### REGISTER BIN (R15) -/

/-- The STOW of a bin that has just entered at a station (R15, R79). -/
def enteringStow (k : Crane) (p : Pos) (b time : Nat) : Task :=
  ⟨k, .stow, 4, time, some b, some (.station p), none, none, [], 0, 0, none, .queued, none, .pick, none⟩

theorem headroom_enterAtStation {s : State} {b : Nat} (k : Crane) (p : Pos) (key fill : Nat) (hb : s.bin? b = none) :
    (enterAtStation k p b key fill s).headroom = s.headroom - 1 := by
  have hcount : (enterAtStation k p b key fill s).presentCount = s.presentCount + 1 :=
    (insertEntry_perm _ hb).length_eq
  have htotal : (enterAtStation k p b key fill s).totalSlots = s.totalSlots := rfl
  unfold State.headroom
  rw [hcount, htotal]
  show (_ - (s.params.reserve : Int) - _ : Int) = _
  push_cast
  omega

/-- REGISTER BIN of an ABSENT bin at a free position of an open station (R15). -/
theorem serveRegisterBin_eq {s : State} {body : List Byte} {k : Crane} {p : Pos} (hw : s.wing = .opened)
    (hk : byteAt body 4 = k.val) (hp : byteAt body 5 = p.val) (hb : wordAt body 0 ≤ 8191) (hkey : byteAt body 2 ≤ 7)
    (habsent : s.bin? (wordAt body 0) = none) (hmask : (s.station k).keyMask.getLsbD (byteAt body 2) = true)
    (hopen : (s.station k).state ≠ .closed) (hnormal : (s.fire (aisleOf k)).state = .normal)
    (hbin : (s.station k).bins[p] = none) (hpromise : (s.station k).promises[p] = none) (hroom : 1 ≤ s.headroom) :
    serveRegisterBin body s = reply (if s.params.capacity < byteAt body 3 then .clamped else .ok)
      (put16 (wordAt body 0) ++ putInt (s.headroom - 1))
      (settle (admitStow (wordAt body 0) k p 4 (enterAtStation k p (wordAt body 0) (byteAt body 2) (byteAt body 3) s))) := by
  have hfree : (s.station k).free p = true := by simp [Station.free, hbin, hpromise]
  unfold serveRegisterBin
  dsimp only
  rw [if_neg (by simp [hw]), if_neg (by omega), hk, hp, craneOf_val, posOf_val]
  dsimp only
  rw [if_neg (by simp [habsent]), if_neg (by simp [Station.accepts, hmask]), if_neg hopen,
    if_neg (by simp [State.normal, hnormal]), if_neg (by simp [hfree]), if_neg (by omega), okOrClamped_decide,
    ← headroom_enterAtStation k p (byteAt body 2) (byteAt body 3) habsent]
  rfl

/-- The STOW that is admitted for a bin at a station position (R79). -/
def standingStow (k : Crane) (p : Pos) (b : Nat) : Task :=
  { Task.new k .stow 4 .pick with bin := some b, source := some (.station p) }

theorem admittedAt_standingStow (k : Crane) (p : Pos) (b time : Nat) :
    (standingStow k p b).admittedAt time = enteringStow k p b time := rfl

theorem standingStow_crane (k : Crane) (p : Pos) (b : Nat) : (standingStow k p b).crane = k := rfl

theorem admitStow_new {s : State} {b : Nat} (hstow : s.stowOf b = none) {id : Nat} (hid : s.tasks.lowestFree 64 = some id)
    (k : Crane) (p : Pos) : admitStow b k p 4 s = admitAt id (standingStow k p b) s := by
  unfold admitStow admitTask
  rw [hstow]
  dsimp only
  rw [hid]
  rfl

/-! ### A STOW that enters over an active task (R74 to R76) -/

/-- A bin that enters at a station is on no fork. -/
theorem fork_enterAtStation {s : State} {b : Nat} (k j : Crane) (p : Pos) (key fill : Nat) (hb : s.bin? b = none) :
    (enterAtStation k p b key fill s).fork j = none ↔ s.fork j = none := by
  have hperm : (enterAtStation k p b key fill s).bins.entries.Perm _ := insertEntry_perm _ hb
  unfold State.fork
  simp only [Option.map_eq_none_iff, List.find?_eq_none, hperm.mem_iff, List.forall_mem_cons]
  simp [Bin.entering]

theorem State.modTask_eq {s : State} {id : Nat} {t : Task} (h : s.task? id = some t) (f : Task → Task) :
    s.modTask id f = s.setTask id (f t) := by
  unfold State.modTask
  rw [h]

/-- Activation of a STOW whose bin stands at its station and finds a lane (R48, R66). -/
theorem activate_stow {s : State} {id b i : Nat} {t : Task} {r : Bin} {j : Crane} {p : Pos} (ht : s.task? id = some t)
    (hkind : t.kind = .stow) (hbin : t.bin = some b) (hr : s.bin? b = some r) (hplace : r.place = .atStation j p)
    (hlane : s.stowLane t.crane r.key = some i) :
    activate id s = ((takeSlots i 1 s).setTask id
      { t with state := .active, block := none, dest := some (.lane i), step := .pick, source := some (.station p) }, true) := by
  have htask : (takeSlots i 1 s).task? id = some t := ht
  have hr' : t.bin.bind s.bin? = some r := by rw [hbin]; exact hr
  unfold activate
  rw [ht]
  dsimp only
  rw [hkind]
  dsimp only
  unfold activateStow
  rw [hr']
  dsimp only
  rw [hlane]
  dsimp only
  rw [State.modTask_eq htask, hplace, hkind]

theorem latchStackFull_crane (k : Crane) (s : State) (j : Crane) : (latchStackFull k s).crane j = s.crane j := rfl

theorem State.undue_crane (s : State) (j : Crane) : s.undue.crane j = s.crane j := rfl

/-- A test that owes no other test ends the step's tests. -/
theorem settleTests_test {w u : State} {k : Crane} {n : Nat} {tried tried' : List Nat} (hw : w.owesOnly k)
    (htest : preemptTest k tried w.undue = (u, tried')) (hu : u.settled) : settleTests (n + 1) tried w = u := by
  rw [settleTests_owesOnly hw, htest]
  exact settleTests_of_settled hu ..

/-- A test whose candidate preempts leaves the crane with its new task, and the test that this owes finds an empty queue. -/
theorem settle_pushes {w v : State} {k : Crane} {new old : Nat} {t o : Task} (hw : w.owesOnly k)
    (h : TestOf k [] w.undue new t old o) (hcls : t.cls < o.cls) (hdue : (t.immediate || w.undue.atBoundary k o) = true)
    (hroom : w.undue.stackRoom k t = true) (hact : activate new w.undue = (v, true))
    (hz : (pushActive k old new t v).owesOnly k) (hq : ((pushActive k old new t v).crane k).queue = []) :
    settle w = (pushActive k old new t v).undue.modCrane k (fun c => { c with roomRefusal := false }) := by
  have htest : preemptTest k [] w.undue = (pushActive k old new t v, []) := by
    rw [preemptTest_eq h, if_pos hcls, if_pos hdue, if_pos hroom, hact, if_pos rfl]
  have hnext : preemptTest k [] (pushActive k old new t v).undue =
      ((pushActive k old new t v).undue.modCrane k (fun c => { c with roomRefusal := false }), []) := by
    apply preemptTest_noCandidate
    have : ((pushActive k old new t v).undue.crane k).queue = [] := hq
    rw [this]
    rfl
  unfold settle
  rw [settleTests_owesOnly hw, htest]
  exact settleTests_test hz hnext (pushActive k old new t v).undue_settled

/-! ### REMOVE BIN (R16) -/

theorem stowOf_task {s : State} (hwf : s.tablesWf) {b id : Nat} (h : s.stowOf b = some id) :
    ∃ u, s.task? id = some u ∧ u.kind = .stow := by
  obtain ⟨⟨j, u⟩, he, rfl⟩ := Option.map_eq_some_iff.1 h
  have hp := List.find?_some he
  simp only [Bool.and_eq_true, decide_eq_true_eq] at hp
  exact ⟨u, lookupEntry_of_mem (List.mem_of_find?_eq_some he) 0 hwf.2.2.2.1, hp.1⟩

/-- The end of a task that is no FETCH and not active: it leaves its crane's queue and stack (R60, R79). -/
theorem endTask_waiting {s : State} {id : Nat} {u : Task} (hu : s.task? id = some u) (hkind : u.kind ≠ .fetch)
    (ha : (s.crane u.crane).active = none) :
    (∀ j, (endTask id s).task? j = if j = id then none else s.task? j)
    ∧ ∀ j, (s.crane j).active = none → ((endTask id s).crane j).active = none := by
  set f : CraneTasks → CraneTasks := fun c =>
    { c with queue := c.queue.erase id, stack := c.stack.erase id, active := if c.active = some id then none else c.active }
    with hf
  have heq : endTask id s = if (s.crane u.crane).stack.contains id = true then markDue u.crane ((s.dropTask id).modCrane u.crane f)
      else (s.dropTask id).modCrane u.crane f := by
    unfold endTask
    rw [hu]
    simp [hkind, ha, hf]
  have htask (j) : ((s.dropTask id).modCrane u.crane f).task? j = if j = id then none else s.task? j := Table.find?_erase ..
  have hactive (j) (hj : (s.crane j).active = none) : (((s.dropTask id).modCrane u.crane f).crane j).active = none := by
    rw [State.crane_modCrane]
    split
    · simp [hf, ha]
    · exact hj
  rw [heq]
  split
  · exact ⟨htask, hactive⟩
  · exact ⟨htask, hactive⟩

theorem requeue_keeps (i : Nat) (s : State) : (∀ j, (requeue i s).crane j = s.crane j)
    ∧ ∀ id, s.task? id = none → (requeue i s).task? id = none := by
  unfold requeue
  split
  · next t ht =>
    refine ⟨fun j => readyIfIdle_crane .., fun id hid => ?_⟩
    have hne : id ≠ i := by rintro rfl; simp [hid] at ht
    have hrest (u : State) : (readyIfIdle t.crane u).task? id = u.task? id := by unfold readyIfIdle; split <;> rfl
    exact (hrest _).trans ((State.task?_setTask_other s hne _).trans hid)
  · exact ⟨fun _ => rfl, fun _ h => h⟩

/-- The re-examination of BLOCKED tasks admits none and leaves the cranes' records (R67). -/
theorem reexamine_keeps (p : Task → Bool) (s : State) : (∀ j, (reexamine p s).crane j = s.crane j)
    ∧ ∀ id, s.task? id = none → (reexamine p s).task? id = none := by
  unfold reexamine forIds
  generalize ((s.tasks.entries.filter (fun e => decide (e.2.state = .blocked) && p e.2)).map Prod.fst) = l
  induction l generalizing s with
  | nil => exact ⟨fun _ => rfl, fun _ h => h⟩
  | cons i t ih =>
    obtain ⟨hcrane, htask⟩ := ih (requeue i s)
    obtain ⟨hcrane', htask'⟩ := requeue_keeps i s
    exact ⟨fun j => (hcrane j).trans (hcrane' j), fun id hid => htask id (htask' id hid)⟩

/-- The bin that leaves the wing with its STOW (R16). -/
def removeBin (k : Crane) (p : Pos) (b : Nat) (s : State) : State :=
  settle (positionFreed k (leaveStation k p b ((s.stowOf b).elim s (fun id => endTask id s))))

theorem serveRemoveBin_eq {s : State} {body : List Byte} {k : Crane} {p : Pos} {r : Bin} (hw : s.wing = .opened)
    (hb : wordAt body 0 ≤ 8191) (hr : s.bin? (wordAt body 0) = some r) (hplace : r.place = .atStation k p)
    (hchain : r.chain = []) (hwork : s.binInWork (wordAt body 0) = false) :
    serveRemoveBin body s = reply .ok (putInt (removeBin k p (wordAt body 0) s).headroom)
      (removeBin k p (wordAt body 0) s) := by
  unfold serveRemoveBin
  dsimp only
  rw [if_neg (by simp [hw]), if_neg (by omega), hr]
  dsimp only
  rw [hplace]
  dsimp only
  rw [if_neg (by simp [hchain, hwork])]
  rfl

/-- The task unit's frame of a removal, from the state that the bin has left. -/
theorem removeBin_frame (k : Crane) (p : Pos) (b : Nat) (s : State) : ∃ s1, TaskFrame s s1
    ∧ TaskFrame (leaveStation k p b s1) (removeBin k p b s) := by
  refine ⟨(s.stowOf b).elim s (fun id => endTask id s), ?_,
    taskFrame_taskSteps.trans (taskFrame_taskSteps.positionFreed ..) (settle_frame _)⟩
  cases s.stowOf b with
  | none => exact taskFrame_taskSteps.refl _
  | some id => exact taskFrame_taskSteps.endTask ..

/-- With no crane at work the STOW of the bin that leaves is gone (R79). -/
theorem removeBin_stow {s : State} (hwf : s.tablesWf) (ha : ∀ j, (s.crane j).active = none) {b id : Nat}
    (hid : s.stowOf b = some id) (k : Crane) (p : Pos) : (removeBin k p b s).task? id = none := by
  obtain ⟨u, hu, hkind⟩ := stowOf_task hwf hid
  obtain ⟨htask, hactive⟩ := endTask_waiting hu (by simp [hkind]) (ha u.crane)
  unfold removeBin
  rw [hid]
  obtain ⟨hcrane, hnone⟩ := reexamine_keeps (fun t => decide (t.block = some .stationFull) && decide (t.crane = k))
    (leaveStation k p b (endTask id s))
  obtain ⟨cranes, hsettle, -⟩ := settle_idle (s := positionFreed k (leaveStation k p b (endTask id s)))
    (fun j => (congrArg CraneTasks.active (hcrane j)).trans (hactive j (ha j)))
  show (settle (positionFreed k (leaveStation k p b (endTask id s)))).task? id = none
  rw [hsettle]
  exact hnone id ((htask id).trans (if_pos rfl))

end Sys2Proof.Machine

open Sys2Proof Sys2Proof.Machine

/-- Settles O13: OPEN WING and REMOVE BIN with no crane at work settle with no preemption; the STOW that REGISTER BIN admits is
the only task whose test is owed, and its candidate is alone in its queue. -/
theorem registerBinEntersAtAStation : Obligations.RegisterBinEntersAtAStation := by
  unfold Obligations.RegisterBinEntersAtAStation
  refine ⟨?openWing, ?refused, ?register, ?preempt, ?remove⟩
  case openWing =>
    intro s q h hk hw hroom hs hwf ha hlen hkind
    have hb : State.Idle { s with wing := .opened } := idle_of_travel hwf ha hkind
    have hstows (k) (p : Pos) (b) (hbin : (s.station k).bins[p] = some b) :=
      Admits.stowStations_task hb (fun _ h _ => h) (fun _ h => h) (.refl (n := 0) _)
        (by show s.tasks.entries.length + 0 + 8 ≤ 64; omega) (k := k) (p := p) (b := b) hbin
    obtain ⟨u, hu, hadm, ⟨cranes, portK, hsettle⟩, hqueue⟩ := openWing_settled hs hb
    have hserve : serveOpenWing q.body s = reply .ok (put16 s.presentCount ++ put16 s.totalSlots)
        (settle (stowStations { s with wing := .opened })) := by
      unfold serveOpenWing
      rw [if_neg (by simp [hw]), if_neg (by omega)]
    rw [hu] at hserve hstows
    have htask (id) : (settle u).task? id = u.task? id := by rw [hsettle]; rfl
    refine ⟨_, congrArg Host.Outcome.next (take_eq_answered h hk rfl hserve), ?_, ?_, ?_⟩
    · intro k p b hbin honly
      obtain ⟨id, x, hx, hxb, hkind, -, b', y, hb', hsource, hat⟩ := hstows k p b hbin
      obtain rfl := Option.some.inj (hxb.symm.trans hb')
      obtain ⟨hxk, rfl⟩ := honly x.crane y hat
      exact ⟨id, x, (htask id).trans hx, hkind, hxb, hxk, hsource⟩
    · intro id x hid hx
      have hx' := (htask id).symm.trans hx
      obtain ⟨hstate, htime, hkind, hcls, -⟩ := hadm.added id x hid hx'
      refine ⟨hkind, hcls, hstate, htime, ?_⟩
      show id ∈ ((settle u).crane x.crane).queue
      rw [hqueue, hadm.queue]
      exact .inr ⟨hid, x, hx', rfl⟩
    · rw [hsettle]
      rfl
  case refused =>
    intro s q h hk
    refine ⟨fun hw => congrArg Host.Outcome.next (take_eq_answered h hk rfl ?_), fun hw hroom =>
      congrArg Host.Outcome.next (take_eq_answered h hk rfl ?_)⟩
    · unfold serveOpenWing
      exact if_pos (by simp [hw])
    · unfold serveOpenWing
      rw [if_neg (by simp [hw]), if_pos hroom]
      rfl
  case register =>
    intro s q k p h hq hw hs hk hp b r hb hkey habsent hmask hopen hnormal hbin hpromise hroom
    have hserve := serveRegisterBin_eq hw hk hp hb hkey habsent hmask hopen hnormal hbin hpromise hroom
    set s1 := enterAtStation k p (wordAt q.body 0) (byteAt q.body 2) (byteAt q.body 3) s with hs1
    have hf : TaskFrame s1 (settle (admitStow b k p 4 s1)) :=
      taskFrame_taskSteps.trans (taskFrame_taskSteps.admitStow ..) (settle_frame _)
    refine ⟨_, congrArg Host.Outcome.next (take_eq_answered h hq rfl hserve), ?_, fun c hc => ?_, fun j => ?_, ?_,
      hf.pending, hf.wing, hf.params, hf.wingTime, hf.search, hf.sweep, hf.channels, hf.rails, hf.fires, hf.shutters, ?_⟩
    · refine (hf.bin? b).trans ?_
      rw [hs1, bin?_enterAtStation, if_pos rfl]
      rfl
    · refine (hf.bin? c).trans ?_
      rw [hs1, bin?_enterAtStation, if_neg hc]
    · refine (hf.stationBins j).trans ?_
      rw [hs1]
      unfold enterAtStation
      rw [State.station_modStation]
      by_cases hj : k = j
      · subst hj; simp; rfl
      · rw [if_neg hj, if_neg (Ne.symm hj)]; rfl
    · rw [answered_portC]
    · intro ha hstow id hid
      have hstow1 : s1.stowOf b = none := hstow
      have hid1 : s1.tasks.lowestFree 64 = some id := hid
      show (settle (admitStow b k p 4 s1)).task? id = _ ∧ id ∈ ((settle (admitStow b k p 4 s1)).crane k).queue
      rw [admitStow_new hstow1 hid1, settle_admitAt_inactive (s := s1)
        (x := standingStow k p b) hs id ha]
      refine ⟨?_, ?_⟩
      · show (admitAt _ _ s1).task? id = _
        rw [admitAt_task?, if_pos rfl]
        rfl
      · show id ∈ (State.crane (State.modCrane _ k _) k).queue
        rw [State.crane_modCrane_self]
        show id ∈ ((admitAt _ _ s1).crane k).queue
        rw [admitAt_crane, standingStow_crane, if_pos rfl]
        exact (State.mem_enqueue ..).2 (.inl rfl)
  case preempt =>
    intro s q k p id old i o h hk hw hs hk4 hp b hb hkey habsent hmask hopen hnormal hbin hpromise hroom hstow hid hready hq ha ho
      open' price hopenI hmin stow boundary waits
    have hserve := serveRegisterBin_eq hw hk4 hp hb hkey habsent hmask hopen hnormal hbin hpromise hroom
    set s1 := enterAtStation k p (wordAt q.body 0) (byteAt q.body 2) (byteAt q.body 3) s with hs1
    rw [admitStow_new (s := s1) hstow hid] at hserve
    set w := admitAt id (standingStow k p b) s1 with hwdef
    have hfree : s.task? id = none := Table.lowestFree_free hid
    have hold : old ≠ id := by rintro rfl; simp [hfree] at ho
    have hwtask (j) : w.task? j = if j = id then some stow else s.task? j := admitAt_task? id _ s1 j
    have hwcrane : w.crane k = { s.crane k with queue := [id] } := by
      rw [hwdef, admitAt_crane, standingStow_crane, if_pos rfl]
      rw [show (s1.crane k).queue = [] from hq]
      rfl
    have hwport (j) : w.port j = s.port j := by
      rw [hwdef, admitAt_port, standingStow_crane, if_neg]
      · cases j <;> rfl
      · rintro ⟨-, hnone⟩
        exact absurd (hnone.symm.trans ha) (by simp)
    obtain ⟨_, _, _, _, hframe⟩ := admitAt_frame id (standingStow k p b) s1
    have hwlane (j) : w.undue.lane j = s.lane j := by rw [hwdef, hframe]; rfl
    have hwparams : w.undue.params = s.params := by rw [hwdef, hframe]; rfl
    have howes : w.owesOnly k := owesOnly_of_due (s := s1) hs (admitAt_due id _ s1)
    have helig : w.undue.eligibleId id = true := by
      have ht : w.undue.task? id = some stow := (hwtask id).trans (if_pos rfl)
      have hfire : (w.undue.fire (aisleOf k)).state = .normal := by rw [hwdef, hframe]; exact hnormal
      have hrail : (w.undue.rail k).state = .ready := by rw [hwdef, hframe]; exact hready
      unfold State.eligibleId State.eligible State.normal
      rw [ht]
      simp [stow, hfire, hrail]
    have htest : TestOf k [] w.undue id stow old o := by
      refine ⟨?_, (hwtask id).trans (if_pos rfl), ?_, (hwtask old).trans ((if_neg hold).trans ho)⟩
      · show (w.crane k).queue.find? _ = _
        rw [hwcrane]
        simp [helig]
      · show (w.crane k).active = _
        rw [hwcrane]
        exact ha
    have hbound : w.undue.atBoundary k o = true ↔ boundary := by
      have hfork : w.undue.fork k = none ↔ s.fork k = none := by
        rw [hwdef, hframe]
        exact fork_enterAtStation k k p _ _ habsent
      simp [State.atBoundary, hfork, boundary, and_assoc]
    have hroomy : w.undue.stackRoom k stow = true ↔ (s.crane k).stack.length < 3 := by
      unfold State.stackRoom
      show decide ((w.crane k).stack.length < _) = true ↔ _
      rw [hwcrane]
      simp [stow]
    have hwaits (u : State) (x : Bool) (htasks : u.tasks = w.tasks) (hlanes : u.lanes = s.lanes)
        (hcrane : u.crane k = { s.crane k with queue := [id], roomRefusal := x }) : waits u := by
      have hutask (j) : u.task? j = w.task? j := by unfold State.task?; rw [htasks]
      refine ⟨?_, ?_, hlanes, ?_, ?_, ?_, ?_⟩
      · exact (hutask id).trans ((hwtask id).trans (if_pos rfl))
      · exact (hutask old).trans ((hwtask old).trans ((if_neg hold).trans ho))
      all_goals rw [hcrane]
      exact ha
    have hwlanes : w.lanes = s.lanes := by rw [hwdef, hframe]; rfl
    have hwbin : w.undue.bin? b = some (Bin.entering (.atStation k p) (byteAt q.body 2) (s.clampFill (byteAt q.body 3))) := by
      have : w.undue.bin? b = s1.bin? b := by rw [hwdef, hframe]; rfl
      rw [this, hs1, bin?_enterAtStation, if_pos rfl]
    clear_value w s1
    refine ⟨fun hcls hb3 hlen howed => ?pushes, fun hcls hb3 hlen => ?refuses, fun hcase => ?waits⟩
    case pushes =>
      have hcost (j : Nat) (hj : open' j) : w.undue.stowCost k j = price j := by
        unfold State.stowCost cost travelTerm Params.lanePos
        rw [hwparams, hwlane, hj.2.1]
      have hopen (j : Nat) : j ∈ w.undue.openLanes (aisleOf k) (byteAt q.body 2) ↔ open' j := by
        rw [State.mem_openLanes, hwparams, hwlane]
      have hlane : w.undue.stowLane k (byteAt q.body 2) = some i := by
        refine State.stowLane_eq ((hopen i).2 hopenI) fun j hj => ?_
        rw [hcost i hopenI, hcost j ((hopen j).1 hj)]
        exact hmin j ((hopen j).1 hj)
      have hact := activate_stow (s := w.undue) (t := stow) ((hwtask id).trans (if_pos rfl)) rfl rfl hwbin rfl hlane
      set v := (takeSlots i 1 w.undue).setTask id { stow with state := .active, dest := some (.lane i) } with hv
      have hvcrane : v.crane k = { s.crane k with queue := [id] } := hwcrane
      have hvtask (j) : v.task? j = if j = id then some { stow with state := .active, dest := some (.lane i) } else s.task? j := by
        refine (Table.find?_insert ..).trans ?_
        by_cases hj : j = id
        · rw [if_pos hj, if_pos hj]
        · rw [if_neg hj, if_neg hj]
          exact (hwtask j).trans (if_neg hj)
      obtain ⟨hztask, hzcrane, hzlanes, hzparams, hzport, hzdue⟩ := pushActive_spec (k := k) (t := stow)
        ((hvtask old).trans ((if_neg hold).trans ho)) ((hvtask id).trans (if_pos rfl)) (Ne.symm hold) (by simp [stow])
        (by simp [stow]) (by rw [hvcrane]; exact howed)
      have hsettle := settle_pushes howes htest hcls (by simp [hbound.2 hb3]) (hroomy.2 hlen) hact
        (owesOnly_of_due w.undue_settled hzdue) (by rw [hzcrane, hvcrane]; simp)
      rw [hsettle] at hserve
      generalize pushActive k old id stow v = z at hztask hzcrane hzlanes hzparams hzport hserve
      have hzlane (j) : z.lane j = (takeSlots i 1 w.undue).lane j := by
        unfold State.lane
        rw [hzlanes, hzparams]
        rfl
      refine ⟨_, congrArg Host.Outcome.next (take_eq_answered h hk rfl hserve), ?_, ?_, fun j hj hj' => ?_, ?_, ?_,
        fun j hj => ?_, ?_⟩
      · exact (hztask id).trans ((if_neg (Ne.symm hold)).trans ((hvtask id).trans (if_pos rfl)))
      · exact (hztask old).trans (if_pos rfl)
      · exact (hztask j).trans ((if_neg hj').trans ((hvtask j).trans (if_neg hj)))
      · rw [answered_crane, State.crane_modCrane_self, State.undue_crane, hzcrane, hvcrane]
        simp [hq, stow, Task.immediate]
      · refine (hzlane i).trans ?_
        rw [takeSlots, State.lane_modLane_self, hwlane]
      · refine (hzlane j).trans ?_
        rw [takeSlots, State.lane_modLane_other _ hj, hwlane]
      · refine (congrArg PortBlock.latch (hzport (.k k))).trans ?_
        rw [if_pos rfl]
        exact congrArg (fun b => PortBlock.latch b ||| _) (hwport (.k k))
    case refuses =>
      have hfull : w.undue.stackRoom k stow ≠ true := fun h => by have := hroomy.1 h; omega
      have heq := preemptTest_eq htest
      rw [if_pos hcls, if_pos (by simp [hbound.2 hb3]), if_neg hfull] at heq
      have hflag : (w.undue.crane k).roomRefusal = (s.crane k).roomRefusal := by
        show (w.crane k).roomRefusal = _
        rw [hwcrane]
      by_cases hr : (s.crane k).roomRefusal = true
      · have hsettle : settle w = w.undue :=
          settleTests_test howes (by rw [heq, if_pos (hflag.trans hr)]) w.undue_settled
        rw [hsettle] at hserve
        refine ⟨_, congrArg Host.Outcome.next (take_eq_answered h hk rfl hserve), ?_, ?_, fun _ => ⟨?_, ?_⟩, fun h => ?_⟩
        · exact hwaits w.undue true rfl hwlanes (hwcrane.trans (by rw [← hr]))
        · exact hflag.trans hr
        · show w.portC.latch = _
          exact congrArg PortBlock.latch (hwport .c)
        · exact congrArg PortBlock.latch (hwport (.k k))
        · exact absurd (hr.symm.trans h) (by simp)
      · have hr0 : (s.crane k).roomRefusal = false := by simpa using hr
        set u := latchStackFull k (w.undue.modCrane k (fun c => { c with roomRefusal := true })) with hu
        have hsettle : settle w = u :=
          settleTests_test howes (by rw [heq, if_neg (by rw [hflag]; exact hr)]) w.undue_settled
        have hcrane : u.crane k = { s.crane k with queue := [id], roomRefusal := true } := by
          rw [hu, latchStackFull_crane, State.crane_modCrane_self, State.undue_crane, hwcrane]
        rw [hsettle] at hserve
        refine ⟨_, congrArg Host.Outcome.next (take_eq_answered h hk rfl hserve), ?_, ?_, fun h => ?_, fun _ => ⟨?_, ?_, ?_⟩⟩
        · exact hwaits u true rfl hwlanes hcrane
        · exact congrArg CraneTasks.roomRefusal hcrane
        · exact absurd h hr
        · show w.portC.latch ||| _ = _
          rw [show w.portC = s.portC from hwport .c]
        · show (u.port (.k k)).latch = _
          rw [hu]
          unfold latchStackFull
          rw [latchK_port, if_pos rfl]
          exact congrArg (fun b => PortBlock.latch b ||| _) (hwport (.k k))
        · show (w.sources.stackFull ||| BitVec.ofNat 4 (2 ^ k.val)).getLsbD k.val = true
          fin_cases k <;> simp
    case waits =>
      have heq := preemptTest_eq htest
      by_cases hcls : 4 < o.cls
      · have hnot : ¬ (stow.immediate || w.undue.atBoundary k o) = true := by
          rcases hcase with hle | hb3
          · omega
          · simpa [stow, Task.immediate] using fun h => hb3 (hbound.1 h)
        rw [if_pos hcls, if_neg hnot] at heq
        rw [show settle w = w.undue from settleTests_test howes heq w.undue_settled] at hserve
        refine ⟨_, congrArg Host.Outcome.next (take_eq_answered h hk rfl hserve), ?_, ?_, ?_, fun h => absurd h (by omega)⟩
        · exact hwaits w.undue (s.crane k).roomRefusal rfl hwlanes hwcrane
        · show w.portC.latch = _
          exact congrArg PortBlock.latch (hwport .c)
        · exact congrArg PortBlock.latch (hwport (.k k))
      · rw [if_neg hcls] at heq
        set u := w.undue.modCrane k (fun c => { c with roomRefusal := false }) with hu
        have hcrane : u.crane k = { s.crane k with queue := [id], roomRefusal := false } := by
          rw [hu, State.crane_modCrane_self, State.undue_crane, hwcrane]
        rw [show settle w = u from settleTests_test howes heq (w.undue_settled)] at hserve
        refine ⟨_, congrArg Host.Outcome.next (take_eq_answered h hk rfl hserve), ?_, ?_, ?_, fun _ => ?_⟩
        · exact hwaits u false rfl hwlanes hcrane
        · show w.portC.latch = _
          exact congrArg PortBlock.latch (hwport .c)
        · exact congrArg PortBlock.latch (hwport (.k k))
        · exact congrArg CraneTasks.roomRefusal hcrane
  case remove =>
    intro s q k p r h hk hw hs hwf b hb hr hplace hchain hwork
    have hserve := serveRemoveBin_eq hw hb hr hplace hchain hwork
    obtain ⟨s1, hf1, hf⟩ := removeBin_frame k p b s
    have hgone (ha : ∀ j, (s.crane j).active = none) (id) (hid : s.stowOf b = some id) := removeBin_stow hwf ha hid k p
    change serveRemoveBin q.body s = reply .ok (putInt (removeBin k p b s).headroom) (removeBin k p b s) at hserve
    generalize removeBin k p b s = u at hf hgone hserve
    refine ⟨_, congrArg Host.Outcome.next (take_eq_answered h hk rfl hserve), ?_, fun c hc => ?_, fun j => ?_, rfl,
      hf.pending.trans hf1.pending, hf.wing.trans hf1.wing, hf.params.trans hf1.params, hf.wingTime.trans hf1.wingTime,
      hf.search.trans hf1.search, hf.sweep.trans hf1.sweep, hf.channels.trans hf1.channels, hf.rails.trans hf1.rails,
      hf.fires.trans hf1.fires, hf.shutters.trans hf1.shutters, fun ha id hid => ?_⟩
    · exact (hf.bin? b).trans ((bin?_leaveStation ..).trans (if_pos rfl))
    · exact (hf.bin? c).trans ((bin?_leaveStation ..).trans ((if_neg hc).trans (hf1.bin? c)))
    · refine (hf.stationBins j).trans ?_
      unfold leaveStation
      rw [State.station_modStation]
      by_cases hj : k = j
      · subst hj
        rw [if_pos rfl, if_pos rfl]
        exact congrArg (fun v => Vector.set v p.val none p.isLt) (hf1.stationBins k)
      · rw [if_neg hj, if_neg (Ne.symm hj)]
        exact hf1.stationBins j
    · exact hgone ha id hid
end

section
namespace Sys2Proof.Machine

/-! ### The alarm of a wing with no claim and no FETCH (R127) -/

/-- A wing with no claim, no FETCH and no active task, whose hold-open lines are asserted and whose planes are not clear: so
it stands after a reset. -/
structure State.Quiet (s : State) : Prop where
  claims : s.claims.entries = []
  noFetch : ∀ e ∈ s.tasks.entries, e.2.kind ≠ .fetch
  active : ∀ k, (s.crane k).active = none
  line : ∀ k, (s.shutter k).holdOpen = true ∧ (s.shutter k).planeClear = false

/-- What the entry to PARKING gives an aisle whose planes are not clear (R126, R127). -/
structure State.Parked (s : State) (a : Aisle) : Prop where
  state : (s.fire a).state = .parking
  hold : (s.fire a).hold = startTimer s.params.shutterHold
  station : ∀ k ∈ cranesOf a, (s.station k).state = .shuttered
  park : ∀ k ∈ cranesOf a, (s.port (.k k)).latch.getLsbD NoticeK.firePark.position = true
  fire : s.portC.latch.getLsbD NoticeC.fire.position = true
  source : s.sources.fire.getLsbD a.val = true

/-- PARKs were admitted: the task table, the queues, the K port latches and the tests owed alone changed. -/
structure ParksAdmitted (s t : State) : Prop where
  frame : ∃ tasks cranes portK due, t = { s with tasks := tasks, cranes := cranes, portK := portK, due := due }
  noFetch : (∀ e ∈ s.tasks.entries, e.2.kind ≠ .fetch) → ∀ e ∈ t.tasks.entries, e.2.kind ≠ .fetch
  active : ∀ k, (t.crane k).active = (s.crane k).active
  latch : ∀ k i, (s.port (.k k)).latch.getLsbD i = true → (t.port (.k k)).latch.getLsbD i = true

theorem ParksAdmitted.trans {s t u : State} (h : ParksAdmitted s t) (g : ParksAdmitted t u) : ParksAdmitted s u where
  frame := by
    obtain ⟨_, _, _, _, rfl⟩ := h.frame
    obtain ⟨_, _, _, _, rfl⟩ := g.frame
    exact ⟨_, _, _, _, rfl⟩
  noFetch hs := g.noFetch (h.noFetch hs)
  active k := (g.active k).trans (h.active k)
  latch k i hi := g.latch k i (h.latch k i hi)

theorem parksAdmitted_refl (s : State) : ParksAdmitted s s := ⟨⟨_, _, _, _, rfl⟩, id, fun _ => rfl, fun _ _ => id⟩

theorem parksAdmitted_admitAt (id : Nat) {x : Task} (hx : x.kind ≠ .fetch) (s : State) : ParksAdmitted s (admitAt id x s) := by
  refine ⟨admitAt_frame .., fun hs e he => ?_, fun k => ?_, fun k i hi => ?_⟩
  · rw [admitAt_tasks] at he
    rcases mem_insertEntry he with rfl | he
    · exact hx
    · exact hs e he
  · rw [admitAt_crane]
    split <;> rfl
  · rw [admitAt_port]
    split
    · simp [hi]
    · exact hi

theorem parksAdmitted_admitPark (k : Crane) (s : State) : ParksAdmitted s (admitPark k s) := by
  unfold admitPark admitTask
  split
  · exact parksAdmitted_refl s
  · split
    · exact parksAdmitted_admitAt _ (by simp [Task.new]) s
    · exact parksAdmitted_refl s

theorem forCranes_cranesOf (a : Aisle) (f : Crane → State → State) (s : State) :
    forCranes (cranesOf a) f s = f (eastCrane a) (f (westCrane a) s) := rfl

theorem mem_cranesOf (a : Aisle) (k : Crane) : k ∈ cranesOf a ↔ k = westCrane a ∨ k = eastCrane a := by
  simp [cranesOf]

theorem shutStation_of_noClaims {s : State} (h : s.claims.entries = []) (k : Crane) :
    shutStation k s = s.modStation k (fun st => { st with state := .shuttered }) := by
  unfold shutStation holdClaims
  rw [State.modStation_claims, h]
  rfl

theorem closeFetches_of_noFetch {s : State} (h : ∀ e ∈ s.tasks.entries, e.2.kind ≠ .fetch) (k : Crane) :
    closeFetches k s = s := by
  unfold closeFetches
  rw [List.filter_eq_nil_iff.2]
  · rfl
  · intro e he
    simp [h e he]

/-- With asserted lines and planes that are not clear, the entry to PARKING releases no line (R131). -/
theorem releaseClear_of_lines {s : State} (h : ∀ k, (s.shutter k).holdOpen = true ∧ (s.shutter k).planeClear = false)
    (a : Aisle) : releaseClear a s = s := by
  have hmod (k : Crane) : s.modShutter k (fun r => { r with holdOpen := r.holdOpen && !r.planeClear }) = s := by
    unfold State.modShutter
    have : s.shutters.set k { s.shutters[k] with holdOpen := s.shutters[k].holdOpen && !s.shutters[k].planeClear } = s.shutters := by
      ext i hi
      by_cases hk : k.val = i
      · subst hk
        obtain ⟨h1, h2⟩ := h k
        simp only [State.shutter, Fin.getElem_fin] at h1 h2
        rw [Vector.getElem_set_self]
        generalize s.shutters[k.val] = r at h1 h2
        cases r
        simp_all
      · rw [Vector.getElem_set_ne _ _ hk]
    exact congrArg (fun v => { s with shutters := v }) this
  unfold releaseClear modShutters
  rw [forCranes_cranesOf, hmod, hmod]
  split
  · unfold closeIfReleased
    rw [if_neg]
    simp [State.bothShutters, cranesOf, (h _).1]
  · rfl

/-- The entry to PARKING of an aisle of a quiet wing. -/
theorem enterParking_eq {s : State} (h : s.Quiet) (a : Aisle) : ∃ v,
    ParksAdmitted (((s.modFire a (fun f => { f with state := .parking, confirm := f.confirm.stopped })).modStation (westCrane a)
      (fun st => { st with state := .shuttered })).modStation (eastCrane a) (fun st => { st with state := .shuttered })) v
    ∧ enterParking a s = forCranes (cranesOf a) (fun k s => latchK k .firePark s)
        (latchFire a (v.modFire a (fun f => { f with hold := startTimer v.params.shutterHold }))) := by
  set w := ((s.modFire a (fun f => { f with state := .parking, confirm := f.confirm.stopped })).modStation (westCrane a)
      (fun st => { st with state := .shuttered })).modStation (eastCrane a) (fun st => { st with state := .shuttered }) with hw
  have hv : ParksAdmitted w (admitPark (eastCrane a) (admitPark (westCrane a) w)) :=
    (parksAdmitted_admitPark _ w).trans (parksAdmitted_admitPark _ _)
  refine ⟨_, hv, ?_⟩
  have hshut : forCranes (cranesOf a) shutStation
      (s.modFire a (fun f => { f with state := .parking, confirm := f.confirm.stopped })) = w := by
    have hwest := shutStation_of_noClaims (s := s.modFire a (fun f => { f with state := .parking, confirm := f.confirm.stopped }))
      h.claims (westCrane a)
    rw [forCranes_cranesOf, hwest]
    exact shutStation_of_noClaims (by exact h.claims) _
  have hclose : forCranes (cranesOf a) closeFetches w = w := by
    have hnone (k) : closeFetches k w = w := closeFetches_of_noFetch (by exact h.noFetch) k
    rw [forCranes_cranesOf, hnone, hnone]
  unfold enterParking
  dsimp only
  rw [hshut, hclose, forCranes_cranesOf a admitPark]
  generalize admitPark (eastCrane a) (admitPark (westCrane a) w) = v at hv ⊢
  rw [releaseClear_of_lines]
  intro k
  obtain ⟨_, _, _, _, rfl⟩ := hv.frame
  simpa [hw, State.shutter] using h.line k

/-- The latches of an alarm (R127). -/
def alarmNotices (a : Aisle) (s : State) : State := forCranes (cranesOf a) (fun k s => latchK k .firePark s) (latchFire a s)

theorem alarmNotices_port (a : Aisle) (s : State) (k : Crane) : (alarmNotices a s).port (.k k) =
    if k ∈ cranesOf a then { s.port (.k k) with latch := (s.port (.k k)).latch ||| bit16 NoticeK.firePark.position }
    else s.port (.k k) := by
  have hfire : (latchFire a s).port (.k k) = s.port (.k k) := rfl
  have hne : eastCrane a ≠ westCrane a := by fin_cases a <;> decide
  unfold alarmNotices
  rw [forCranes_cranesOf, latchK_port, latchK_port, hfire]
  by_cases hw : k = westCrane a
  · subst hw
    simp [Ne.symm hne, mem_cranesOf]
  · by_cases he : k = eastCrane a
    · subst he
      simp [hne, mem_cranesOf]
    · simp [hw, he, mem_cranesOf]

theorem alarmNotices_latchC (a : Aisle) (s : State) :
    (alarmNotices a s).portC.latch = s.portC.latch ||| bit16 NoticeC.fire.position := rfl

theorem alarmNotices_frame (a : Aisle) (s : State) : ∃ portC portK,
    alarmNotices a s = { s with portC := portC, portK := portK, sources :=
      { s.sources with fire := s.sources.fire ||| BitVec.ofNat 2 (2 ^ a.val) } } := ⟨_, _, rfl⟩

/-- What an alarm leaves of a quiet wing (R127). -/
structure AlarmEffect (a : Aisle) (s t : State) : Prop where
  quiet : t.Quiet
  parked : t.Parked a
  keeps : ∀ b, b ≠ a → s.Parked b → t.Parked b
  fire : ∀ b, b ≠ a → t.fire b = s.fire b
  shutters : t.shutters = s.shutters
  params : t.params = s.params
  inReset : t.inReset = s.inReset
  wingTime : t.wingTime = s.wingTime
  fireLines : t.fireLines = s.fireLines

theorem enterParking_effect {s : State} (h : s.Quiet) (a : Aisle) : AlarmEffect a s (enterParking a s) := by
  obtain ⟨v, hv, heq⟩ := enterParking_eq h a
  obtain ⟨tasks, cranes, portK, due, hvf⟩ := hv.frame
  set u := v.modFire a (fun f => { f with hold := startTimer v.params.shutterHold }) with hu
  change enterParking a s = alarmNotices a u at heq
  have hport := alarmNotices_port a u
  have hlatchC := alarmNotices_latchC a u
  obtain ⟨portC, portK', hframe⟩ := alarmNotices_frame a u
  rw [heq]
  generalize alarmNotices a u = t at hport hlatchC hframe
  have hkeptK (k i) (hi : (s.port (.k k)).latch.getLsbD i = true) : (t.port (.k k)).latch.getLsbD i = true := by
    have := hv.latch k i hi
    rw [hport]
    split
    · exact (BitVec.getLsbD_or ..).trans (by simp [show (u.port (.k k)).latch.getLsbD i = true from this])
    · exact this
  have hcrane (k) : t.crane k = v.crane k := by rw [hframe]; rfl
  have htfire (b) : t.fire b = u.fire b := by rw [hframe]; rfl
  have hvfire (b) : v.fire b = (s.modFire a (fun f => { f with state := .parking, confirm := f.confirm.stopped })).fire b := by
    rw [hvf]; rfl
  have hfire (b) (hb : b ≠ a) : t.fire b = s.fire b := by
    rw [htfire, hu, State.fire_modFire_other _ (Ne.symm hb), hvfire, State.fire_modFire_other _ (Ne.symm hb)]
  have hparked : (t.fire a).state = .parking ∧ (t.fire a).hold = startTimer s.params.shutterHold := by
    rw [htfire, hu, State.fire_modFire_self, hvfire, State.fire_modFire_self, hvf]
    exact ⟨rfl, rfl⟩
  have hstation (k) : (t.station k).state = .shuttered ↔ k ∈ cranesOf a ∨ (s.station k).state = .shuttered := by
    have h1 : t.station k = (((s.modFire a (fun f => { f with state := .parking, confirm := f.confirm.stopped })).modStation
        (westCrane a) (fun st => { st with state := .shuttered })).modStation (eastCrane a)
          (fun st => { st with state := .shuttered })).station k := by
      rw [hframe, hu, hvf]; rfl
    rw [h1, State.station_modStation, State.station_modStation, State.station_modStation, mem_cranesOf]
    by_cases he : eastCrane a = k
    · simp [he]
    · by_cases hw : westCrane a = k
      · simp [he, hw]
      · simp [he, hw, Ne.symm he, Ne.symm hw, State.station, State.modFire]
  have hclaims : t.claims = s.claims := by rw [hframe, hu, hvf]; rfl
  have hshutters : t.shutters = s.shutters := by rw [hframe, hu, hvf]; rfl
  have hparams : t.params = s.params := by rw [hframe, hu, hvf]; rfl
  have hsources : t.sources.fire = s.sources.fire ||| BitVec.ofNat 2 (2 ^ a.val) := by rw [hframe, hu, hvf]; rfl
  have hportC : u.portC = s.portC := by rw [hu, hvf]; rfl
  have htasks : t.tasks = v.tasks := by rw [hframe]; rfl
  have hquiet : t.Quiet := ⟨by rw [hclaims]; exact h.claims, by rw [htasks]; exact hv.noFetch h.noFetch,
    fun k => by rw [hcrane, hv.active]; exact h.active k, fun k => by unfold State.shutter; rw [hshutters]; exact h.line k⟩
  refine ⟨hquiet, ?_, fun b hb hp => ?_, hfire, hshutters, hparams, ?_, ?_, ?_⟩
  · refine ⟨hparked.1, hparams ▸ hparked.2, fun k hk => (hstation k).2 (.inl hk), fun k hk => ?_, ?_, ?_⟩
    · rw [hport, if_pos hk, BitVec.getLsbD_or]
      simp +decide
    · rw [hlatchC, BitVec.getLsbD_or]
      simp +decide
    · rw [hsources, BitVec.getLsbD_or]
      fin_cases a <;> simp
  · refine ⟨?_, ?_, fun k hk => (hstation k).2 (.inr (hp.station k hk)), fun k hk => hkeptK k _ (hp.park k hk), ?_, ?_⟩
    · rw [hfire b hb]; exact hp.state
    · rw [hfire b hb, hparams]; exact hp.hold
    · rw [hlatchC, hportC, BitVec.getLsbD_or, hp.fire]; rfl
    · rw [hsources, BitVec.getLsbD_or, hp.source]; rfl
  · rw [hframe, hu, hvf]; rfl
  · rw [hframe, hu, hvf]; rfl
  · rw [hframe, hu, hvf]; rfl

/-- One aisle's turn at taking the alarm edges (R124). -/
def alarmTurn (old : State) (s : State) (b : Aisle) : State := if !old.alarm b && s.alarm b then alarmEdge b s else s

theorem alarmEdges_eq (old s : State) : alarmEdges old s = alarmTurn old (alarmTurn old s 0) 1 := rfl

/-- What an aisle's turn leaves of a quiet wing. -/
structure TurnEffect (b : Aisle) (s t : State) : Prop where
  quiet : t.Quiet
  parked : s.alarm b = true → t.Parked b
  keeps : ∀ c, c ≠ b → s.Parked c → t.Parked c
  fire : ∀ c, c ≠ b → t.fire c = s.fire c
  shutters : t.shutters = s.shutters
  params : t.params = s.params
  inReset : t.inReset = s.inReset
  wingTime : t.wingTime = s.wingTime
  fireLines : t.fireLines = s.fireLines

theorem alarmTurn_effect {old s : State} {b : Aisle} (hold : old.alarm b = false) (hq : s.Quiet)
    (hn : (s.fire b).state = .normal) : TurnEffect b s (alarmTurn old s b) := by
  unfold alarmTurn
  by_cases ha : s.alarm b = true
  · have hedge : alarmEdge b s = enterParking b s := by
      unfold alarmEdge
      rw [hn]
    have h := enterParking_effect hq b
    rw [if_pos (by simp [hold, ha]), hedge]
    exact ⟨h.quiet, fun _ => h.parked, h.keeps, h.fire, h.shutters, h.params, h.inReset, h.wingTime, h.fireLines⟩
  · rw [if_neg (by simp [hold, ha])]
    exact ⟨hq, fun h => absurd h ha, fun _ _ h => h, fun _ _ => rfl, rfl, rfl, rfl, rfl, rfl⟩

/-! ### RESET RELEASE (R173) -/

theorem attention_of_latch {s : State} {p : Port} (h : (s.port p).latch = 0) : s.attention p = false := by
  simp [State.attention, h]

theorem afterReset_quiet (pins : Pins) : (State.afterReset pins).Quiet := by
  refine ⟨rfl, fun e he => absurd he (List.not_mem_nil), fun k => ?_, fun k => ?_⟩
  · fin_cases k <;> rfl
  · fin_cases k <;> exact ⟨rfl, rfl⟩

theorem afterReset_settled (pins : Pins) : (State.afterReset pins).settled := by
  intro k
  fin_cases k <;> rfl

theorem afterReset_fire (pins : Pins) (a : Aisle) : (State.afterReset pins).fire a = Fire.reset := by
  fin_cases a <;> rfl

/-- The alarm edges taken at the end of a reset: an aisle found in alarm enters PARKING. -/
theorem alarmEdges_afterReset (pins : Pins) {a : Aisle} (ha : (State.afterReset pins).alarm a = true) :
    let s := State.afterReset pins
    let t := alarmEdges { s with fireLines := ⟨false, false, false⟩ } s
    t.Quiet ∧ t.Parked a ∧ t.shutters = s.shutters ∧ t.params = s.params ∧ t.inReset = s.inReset ∧ t.wingTime = s.wingTime
      ∧ t.fireLines = s.fireLines := by
  intro s t
  have hold (b : Aisle) : State.alarm { s with fireLines := ⟨false, false, false⟩ } b = false := by fin_cases b <;> rfl
  have hnormal (b : Aisle) : (s.fire b).state = .normal := by rw [afterReset_fire]; rfl
  have h0 := alarmTurn_effect (hold 0) (afterReset_quiet pins) (hnormal 0)
  have h1 := alarmTurn_effect (hold 1) h0.quiet (by rw [h0.fire 1 (by decide)]; exact hnormal 1)
  refine ⟨h1.quiet, ?_, h1.shutters.trans h0.shutters, h1.params.trans h0.params, h1.inReset.trans h0.inReset,
    h1.wingTime.trans h0.wingTime, h1.fireLines.trans h0.fireLines⟩
  fin_cases a
  · exact h1.keeps 0 (by decide) (h0.parked ha)
  · refine h1.parked ?_
    unfold State.alarm
    rw [h0.fireLines]
    exact ha

end Sys2Proof.Machine

open Sys2Proof Sys2Proof.Machine

/-- Settles O4: with no alarm the reset state is settled already; an alarm parks its aisle, whose planes the reset leaves not
clear, and with no active task the tests that the PARKs owe change no more than flags. -/
theorem resetReleaseGivesResetValues : Obligations.ResetReleaseGivesResetValues := by
  unfold Obligations.ResetReleaseGivesResetValues
  refine ⟨?reset, ?alarm⟩
  case reset =>
    intro pins s h0 h1 hW
    have hedges : alarmEdges { State.afterReset pins with fireLines := ⟨false, false, false⟩ } (State.afterReset pins) =
        State.afterReset pins := by
      simp [alarmEdges, State.alarm, State.afterReset, h0, h1, hW]
    have hexec : exec (.resetRelease pins) s = .next { State.afterReset pins with pending := s.pending } := by
      show Host.Outcome.next { settle (alarmEdges _ _) with pending := s.pending } = _
      rw [hedges, settle_of_settled (afterReset_settled pins)]
    refine ⟨_, hexec, rfl, rfl, rfl, rfl, rfl, fun _ => rfl, fun _ => rfl, fun _ => rfl, fun _ => rfl, rfl, fun k => ?station,
      rfl, rfl, rfl, rfl, fun k => ?crane, fun k => ?channel, fun k => ?rail, fun a => ?fire, fun k => ?shutter, rfl, rfl, rfl,
      rfl, rfl, fun p => ?port, rfl⟩
    case station => fin_cases k <;> rfl
    case crane => fin_cases k <;> rfl
    case channel => fin_cases k <;> rfl
    case rail => fin_cases k <;> exact ⟨rfl, rfl, rfl⟩
    case fire => fin_cases a <;> rfl
    case shutter => fin_cases k <;> exact ⟨rfl, rfl⟩
    case port =>
      have hp : State.port { State.afterReset pins with pending := s.pending } p = .reset := by
        cases p with
        | c => rfl
        | k k => fin_cases k <;> rfl
      exact ⟨hp, attention_of_latch (congrArg PortBlock.latch hp)⟩
  case alarm =>
    intro pins s a ha
    obtain ⟨hq, hp, hshutters, hparams, hreset, htime, hlines⟩ := alarmEdges_afterReset pins ha
    have hexec : exec (.resetRelease pins) s = .next { settle (alarmEdges { State.afterReset pins with
        fireLines := ⟨false, false, false⟩ } (State.afterReset pins)) with pending := s.pending } := rfl
    generalize alarmEdges { State.afterReset pins with fireLines := ⟨false, false, false⟩ } (State.afterReset pins) = u at *
    obtain ⟨cranes, hsettle, -⟩ := settle_idle hq.active
    rw [hsettle] at hexec
    refine ⟨_, hexec, hp.state, ?_, htime, hreset, hlines, fun k hk => ⟨hp.station k hk, ?_, hp.park k hk⟩, hp.fire, hp.source⟩
    · refine hp.hold.trans ?_
      rw [hparams, show (State.afterReset pins).params.shutterHold = 30 from rfl]
      simp [startTimer]
    · show (!u.inReset && u.shutters[k].holdOpen) = true
      rw [hreset, hshutters]
      fin_cases k <;> rfl
end

section
namespace Sys2Proof.Machine

/-! ### The entries of a CONFIGURE frame (R169) -/

/-- The entry at a place of a CONFIGURE body. -/
def entryAt (body : List Byte) (i : Nat) : ConfigEntry :=
  ⟨wordAt body (7 * i), byteAt body (7 * i + 2), signedAt body (7 * i + 3)⟩

theorem configEntries_eq {body : List Byte} {n : Nat} (h : body.length = 7 * n) :
    configEntries body = (List.range n).map (entryAt body) := by
  unfold configEntries
  rw [h, Nat.mul_div_cancel_left _ (by decide)]
  rfl

theorem writes_iff (l : List ConfigEntry) (id inst : Nat) : writes l id inst = true ↔ ∃ e ∈ l, e.id = id ∧ e.inst = inst := by
  simp [writes]

theorem writes_eq_false (l : List ConfigEntry) (id inst : Nat) :
    writes l id inst = false ↔ ∀ e ∈ l, ¬ (e.id = id ∧ e.inst = inst) := by
  rw [← Bool.not_eq_true, writes_iff]
  simp

/-! ### The consistency pass where it has nothing to do (R171) -/

section
variable {l : List ConfigEntry} (s : State) (p : Params)

theorem fixLength_unwritten {a : Aisle} (h : writes l 8 a.val = false) : fixLength l a p = p := by
  simp [fixLength, h]

/-- The places of an aisle that are clamped into its rail length (step 2 of R171). -/
def boundedPlaces (a : Aisle) : List (Nat × Nat) := aislePlaces a ++ (cranesOf a).map (fun k => (12, k.val))

theorem mem_boundedPlaces {a : Aisle} {e : Nat × Nat} (h : e ∈ boundedPlaces a) : 9 ≤ e.1 ∧ e.1 ≤ 13 := by
  simp only [boundedPlaces, aislePlaces, List.mem_append, List.mem_flatMap, List.mem_map, List.mem_cons,
    List.not_mem_nil, or_false] at h
  rcases h with ⟨k, -, rfl | rfl | rfl | rfl⟩ | ⟨k, -, rfl⟩ <;> simp

/-- Step 2 of R171 clamps the written places of the aisle. -/
theorem fixPositions_eq (l : List ConfigEntry) (a : Aisle) (p : Params) : fixPositions l a p =
    ((boundedPlaces a).filter (fun e => writes l e.1 e.2)).foldl
      (fun p e => p.put e.1 e.2 (max 0 (min (p.get e.1 e.2) (p.get 8 a.val)))) p := by
  rw [List.foldl_filter]
  rfl

theorem fixPositions_unwritten (h : ∀ id inst, 9 ≤ id → id ≤ 13 → writes l id inst = false) (a : Aisle) :
    fixPositions l a p = p := by
  have hnone : (boundedPlaces a).filter (fun e => writes l e.1 e.2) = [] := by
    rw [List.filter_eq_nil_iff]
    intro e he
    simp [h e.1 e.2 (mem_boundedPlaces he).1 (mem_boundedPlaces he).2]
  rw [fixPositions_eq, hnone]
  rfl

theorem fixLimits_unwritten {k : Crane} (h12 : writes l 12 k.val = false) (h13 : writes l 13 k.val = false) :
    fixLimits l k p = p := by
  simp [fixLimits, h12, h13]

theorem fixPlane_unwritten {k : Crane} (h : writes l 10 k.val = false) : fixPlane l k p = some p := by
  simp [fixPlane, h]

theorem fixPark_unwritten {k : Crane} (h : writes l 11 k.val = false) : fixPark l k p = some p := by
  simp [fixPark, h]

theorem fixReach_unwritten (h22 : writes l 22 0 = false) (h26 : writes l 26 0 = false) : fixReach l p = p := by
  simp [fixReach, h22, h26]

theorem fixGap_unwritten (h : writes l 27 0 = false) : fixGap s l p = p := by
  simp [fixGap, h]

theorem tryCranes_fixed {f : Crane → Params → Option Params} (h : ∀ k, f k p = some p) : tryCranes f p = some p := by
  simp [tryCranes, allCranes, h]

/-- The pass over a frame that writes no place and no gap: T_park and B alone are lowered. -/
theorem consistent_unplaced (h : ∀ id inst, 8 ≤ id → id ≤ 13 → writes l id inst = false) (hgap : writes l 27 0 = false) :
    consistent s l = if (fixReach l (clampAll l s.params)).parkReach < (fixReach l (clampAll l s.params)).parkClearance then
      some (fixReach l (clampAll l s.params)) else none := by
  have hpos (a : Aisle) (p : Params) : fixPositions l a (fixLength l a p) = p := by
    rw [fixLength_unwritten p (h 8 _ (by decide) (by decide)), fixPositions_unwritten p fun id inst h1 h2 => h id inst (by omega) h2]
  have hlim (k : Crane) (p : Params) : fixLimits l k p = p :=
    fixLimits_unwritten p (h 12 _ (by decide) (by decide)) (h 13 _ (by decide) (by decide))
  have hpark (p : Params) : (tryCranes (fixPlane l) p).bind (tryCranes (fixPark l)) = some p := by
    rw [tryCranes_fixed p fun k => fixPlane_unwritten p (h 10 _ (by decide) (by decide))]
    exact tryCranes_fixed p fun k => fixPark_unwritten p (h 11 _ (by decide) (by decide))
  unfold consistent
  simp only [List.foldl_cons, List.foldl_nil, allCranes, hpos, hlim, hpark, fixGap_unwritten s _ hgap]

end

/-! ### The block effects of new values (R169) -/

theorem forCranes_fixed {f : Crane → State → State} {s : State} (h : ∀ k, f k s = s) (l : List Crane) :
    forCranes l f s = s := by
  unfold forCranes
  induction l with
  | nil => rfl
  | cons k t ih => rw [List.foldl_cons, h, ih]

theorem changeLimits_unwritten {l : List ConfigEntry} (h : ∀ a : Aisle, writes l 8 a.val = false)
    (f : Crane → Reservation → Reservation) (s : State) : changeLimits l f s = s :=
  forCranes_fixed (fun k => by simp [h (aisleOf k)]) _

theorem faultReconfigured_same {old : Params} {s : State} (h : ∀ k, reconfigured old s.params k = false) :
    faultReconfigured old s = s :=
  forCranes_fixed (fun k => by simp [h k]) _

theorem rebuildLanes_params (old : Params) (s : State) : (rebuildLanes old s).params = s.params := by
  unfold rebuildLanes
  split <;> rfl

theorem clampFills_params (old : Params) (s : State) : (clampFills old s).params = s.params := by
  unfold clampFills
  split <;> rfl

theorem reconfigured_same {old new : Params} (h : new.pitch = old.pitch ∧ new.edgeMode = old.edgeMode ∧ new.inverted = old.inverted)
    (k : Crane) : reconfigured old new k = false := by
  simp [reconfigured, h.1, h.2.1, h.2.2]

/-- New values that write no rail length and reconfigure no channel change the directory alone. -/
theorem takeParams_eq {l : List ConfigEntry} {new : Params} {s : State} (h : ∀ a : Aisle, writes l 8 a.val = false)
    (hnew : new.pitch = s.params.pitch ∧ new.edgeMode = s.params.edgeMode ∧ new.inverted = s.params.inverted) :
    takeParams l new s = clampFills s.params (rebuildLanes s.params { s with params := new }) := by
  unfold takeParams moveLimits boundLimits
  dsimp only
  rw [changeLimits_unwritten h, changeLimits_unwritten h, faultReconfigured_same]
  intro k
  rw [clampFills_params, rebuildLanes_params]
  exact reconfigured_same hnew k

theorem rebuildLanes_same {old : Params} {s : State} (h : s.params.bays = old.bays ∧ s.params.levels = old.levels
    ∧ s.params.laneDepth = old.laneDepth) : rebuildLanes old s = s := by
  unfold rebuildLanes
  rw [if_neg]
  simp [h]

theorem clampFills_same {old : Params} {s : State} (h : old.capacity ≤ s.params.capacity) : clampFills old s = s := by
  unfold clampFills
  rw [if_neg (by omega)]

/-! ### CONFIGURE (R169) -/

/-- CONFIGURE of a frame whose entries are in the table, may be written and pass the consistency pass. -/
theorem serveConfigure_eq {body : List Byte} {s : State} {p : Params}
    (hinst : ∀ e ∈ configEntries body, e.inst < paramInstances e.id)
    (hwing : s.wing = .loading ∨ ∀ e ∈ configEntries body, isGeometry e.id = false)
    (hp : consistent s (configEntries body) = some p) (hs : (takeParams (configEntries body) p s).settled) :
    serveConfigure body s = reply (okOrClamped (valueClamped p (configEntries body)))
      (put8 (configEntries body).length ++ (configEntries body).flatMap (fun e =>
        put16 e.id ++ put8 e.inst ++ putInt (p.get e.id e.inst))) (takeParams (configEntries body) p s) := by
  have hin : ¬ (configEntries body).any (fun e => decide (paramInstances e.id ≤ e.inst)) = true := by
    simp only [List.any_eq_true, decide_eq_true_eq, not_exists, not_and, not_le]
    exact hinst
  have hopen : ¬ (s.wing = .opened ∧ (configEntries body).any (fun e => isGeometry e.id) = true) := by
    rintro ⟨hw, hany⟩
    rcases hwing with h | h
    · simp [h] at hw
    · obtain ⟨e, he, hg⟩ := List.any_eq_true.1 hany
      simp [h e he] at hg
  unfold serveConfigure
  dsimp only
  rw [if_neg hin, if_neg hopen, hp]
  dsimp only
  rw [settle_of_settled hs]

theorem valueClamped_single (p : Params) (e : ConfigEntry) :
    valueClamped p [e] = decide (p.get e.id e.inst ≠ e.value) := by
  simp [valueClamped, writes]

theorem lookupEntry_filter {α : Type} (f : α → Bool) (n : Nat) {l : List (Nat × α)} : ∀ lo, risingFrom lo l = true →
    lookupEntry n (l.filter (fun e => f e.2)) = (lookupEntry n l).filter f := by
  induction l with
  | nil => intro _ _; rfl
  | cons e t ih =>
    obtain ⟨k, v⟩ := e
    intro lo h
    simp only [risingFrom, Bool.and_eq_true, decide_eq_true_eq] at h
    have hih := ih _ h.2
    by_cases hn : n = k
    · subst hn
      have htail : lookupEntry n t = none := by
        cases hx : lookupEntry n t with
        | none => rfl
        | some x =>
          have := le_of_mem_risingFrom (mem_of_lookupEntry hx) _ h.2
          simp at this
      rw [htail] at hih
      by_cases hv : f v = true
      · simp [lookupEntry, Option.filter, hv]
      · simp [lookupEntry, Option.filter, hv, hih]
    · by_cases hv : f v = true
      · simp [lookupEntry, hv, hn, hih]
      · simp [lookupEntry, hv, hn, hih]

end Sys2Proof.Machine
end

section
namespace Sys2Proof.Machine

/-! ### CONFIGURE of one geometry value (R6) -/

/-- A frame with one entry. -/
theorem configEntries_single {body : List Byte} (h : body.length = 7) : configEntries body = [entryAt body 0] :=
  configEntries_eq (n := 1) h

/-- The bins that keep their place when the lane table is rebuilt (R6). -/
theorem bin?_rebuilt {s : State} (hwf : s.bins.wf = true) (b : Nat) :
    Table.find? ⟨s.bins.entries.filter (fun e => e.2.offLane)⟩ b = (s.bin? b).filter Bin.offLane :=
  lookupEntry_filter Bin.offLane b 0 hwf

theorem bin?_mapped (s : State) (f : Bin → Bin) (b : Nat) :
    Table.find? ⟨s.bins.entries.map (fun e => (e.1, f e.2))⟩ b = (s.bin? b).map f := lookupEntry_map f b _

/-- CONFIGURE in LOADING of one of the bays, the levels, the default depth and C (R6, R169). -/
theorem configure_geometry {s : State} {q : Request} (h : s.hasRequest .c q) (hk : q.kind = .configure) (hs : s.settled)
    (hlen : q.body.length = 7) (hreach : s.params.parkReach < s.params.parkClearance) (hw : s.wing = .loading)
    (hinst : byteAt q.body 2 = 0) (hid : 1 ≤ wordAt q.body 0 ∧ wordAt q.body 0 ≤ 4) {w : Int}
    (hv : clampParam (wordAt q.body 0) (signedAt q.body 3) = w) {new : Params} (hnew : s.params.put (wordAt q.body 0) 0 w = new)
    (hget : new.get (wordAt q.body 0) 0 = w)
    (hsame : new.parkReach = s.params.parkReach ∧ new.parkClearance = s.params.parkClearance
      ∧ new.pitch = s.params.pitch ∧ new.edgeMode = s.params.edgeMode ∧ new.inverted = s.params.inverted) :
    exec .configure s = .next ((clampFills s.params (rebuildLanes s.params { s with params := new })).answered .c q
      (if w = signedAt q.body 3 then .ok else .clamped) ([1] ++ put16 (wordAt q.body 0) ++ [0] ++ putInt w)) := by
  have hl := configEntries_single hlen
  set e := entryAt q.body 0 with he
  have heid : e.id = wordAt q.body 0 := rfl
  have heinst : e.inst = 0 := hinst
  have hevalue : e.value = signedAt q.body 3 := rfl
  have hunwritten (id inst) (h : 5 ≤ id) : writes [e] id inst = false := by
    rw [writes_eq_false]
    simp only [List.mem_singleton, forall_eq]
    omega
  have hclamp : clampAll [e] s.params = new := by
    show s.params.put e.id e.inst (clampParam e.id e.value) = new
    rw [heid, heinst, hevalue, hv, hnew]
  obtain ⟨hr, hc, hrest⟩ := hsame
  have hcons : consistent s (configEntries q.body) = some new := by
    rw [hl, consistent_unplaced s (fun id inst h1 _ => hunwritten id inst (by omega)) (hunwritten _ _ (by decide)), hclamp,
      fixReach_unwritten new (hunwritten _ _ (by decide)) (hunwritten _ _ (by decide)), if_pos (by rw [hr, hc]; exact hreach)]
  have htake : takeParams (configEntries q.body) new s = clampFills s.params (rebuildLanes s.params { s with params := new }) := by
    rw [hl]
    exact takeParams_eq (fun a => hunwritten _ _ (by decide)) hrest
  have hsettled : (takeParams (configEntries q.body) new s).settled := by
    rw [htake]
    intro k
    unfold clampFills rebuildLanes
    split <;> split <;> exact hs k
  have hserve := serveConfigure_eq (body := q.body) (by
    rw [hl]
    intro e' he'
    obtain rfl := List.mem_singleton.1 he'
    rw [heid, heinst]
    unfold paramInstances
    split
    · omega
    · rw [if_pos (by omega)]; decide) (.inl hw) hcons hsettled
  refine congrArg Host.Outcome.next ((take_eq_answered h hk rfl hserve).trans ?_)
  rw [htake, hl, valueClamped_single, heid, heinst, hevalue, hget, okOrClamped_decide]
  refine congrArg₂ (State.answered _ .c q) ?_ ?_
  · by_cases h : w = signedAt q.body 3 <;> simp [h]
  · simp [heid, heinst, hget, put8]

/-- A new number of bays, of levels or default depth rebuilds the lane table (R6). -/
theorem rebuildLanes_changed {s : State} {new : Params} (h : s.params.bays ≠ new.bays ∨ s.params.levels ≠ new.levels
    ∨ s.params.laneDepth ≠ new.laneDepth) (hcap : s.params.capacity ≤ new.capacity) :
    clampFills s.params (rebuildLanes s.params { s with params := new }) =
      { s with params := new, lanes := ⟨[]⟩, bins := ⟨s.bins.entries.filter (fun e => e.2.offLane)⟩ } := by
  rw [clampFills_same (by rw [rebuildLanes_params]; exact hcap)]
  unfold rebuildLanes
  rw [if_pos h]

/-- A lower C clamps the fills (R6). -/
theorem clampFills_lowered {s : State} {new : Params} (h : new.bays = s.params.bays ∧ new.levels = s.params.levels
    ∧ new.laneDepth = s.params.laneDepth) (hcap : new.capacity < s.params.capacity) :
    clampFills s.params (rebuildLanes s.params { s with params := new }) =
      { s with params := new, bins := ⟨s.bins.entries.map (fun e => (e.1, { e.2 with fill := min e.2.fill new.capacity }))⟩ } := by
  rw [rebuildLanes_same h]
  unfold clampFills
  rw [if_pos hcap]
  rfl

end Sys2Proof.Machine
end

section
namespace Sys2Proof.Machine

/-! ### Global values that take no part in the consistency pass (R169, R170, log 32) -/

/-- The single-valued parameters that the consistency pass neither reads nor moves, outside the geometry. -/
def globalIds : List Nat := [20, 21, 23, 24, 25, 28, 30, 31, 32, 33, 34, 35, 36, 37, 38]

/-- The parameters with every global value at 0. -/
def Params.blank (p : Params) : Params :=
  { p with tRef := 0, tPick := 0, window := 0, brake := 0, reaction := 0, slip := 0, vFire := 0, vCreep := 0, linkTime := 0,
           shutterHold := 0, shutterConfirm := 0, dwell := 0, weights := ⟨0, 0, 0⟩ }

/-- A global parameter: its number, its range, and how it is read and written. -/
def globalRow (id : Nat) : Nat × Int × Int × (Params → Int) × (Params → Int → Params) :=
  (id, (paramRange id).1, (paramRange id).2, fun p => p.get id 0, fun p w => p.put id 0 w)

section
variable {id : Nat} (h : id ∈ globalIds)
include h

theorem global_table : paramInstances id = 1 ∧ isGeometry id = false ∧ 0 ≤ (paramRange id).1
    ∧ (paramRange id).1 ≤ (paramRange id).2 := by
  revert id
  decide

theorem global_clamp (v : Int) : clampParam id v = max (paramRange id).1 (min v (paramRange id).2) := by
  simp only [globalIds, List.mem_cons, List.not_mem_nil, or_false] at h
  unfold clampParam
  rw [if_neg (by omega), if_neg (by omega), if_neg (by omega)]

theorem global_put_blank (p : Params) (i : Nat) (w : Int) : (p.put id i w).blank = p.blank := by
  fin_cases h <;> rfl

theorem global_get_put_self (p : Params) (i : Nat) {w : Int} (hw : 0 ≤ w) : (p.put id i w).get id 0 = w := by
  fin_cases h <;> simp [Params.put, Params.get, hw]

theorem global_get_put_other (p : Params) (i : Nat) (w : Int) {id' : Nat} (h' : id' ∈ globalIds) (hne : id ≠ id') :
    (p.put id i w).get id' 0 = p.get id' 0 := by
  fin_cases h <;> fin_cases h' <;> first | exact absurd rfl hne | rfl

theorem global_find : (globalIds.map globalRow).find? (fun row => row.1 == id) = some (globalRow id) := by
  fin_cases h <;> rfl

end

/-- The parameters of `q` with the global values of `p`. -/
def Params.withGlobals (q p : Params) : Params :=
  { q with tRef := p.tRef, tPick := p.tPick, window := p.window, brake := p.brake, reaction := p.reaction, slip := p.slip,
           vFire := p.vFire, vCreep := p.vCreep, linkTime := p.linkTime, shutterHold := p.shutterHold,
           shutterConfirm := p.shutterConfirm, dwell := p.dwell, weights := p.weights }

theorem withGlobals_eq (p q : Params) :
    (globalIds.map globalRow).foldl (fun r row => row.2.2.2.2 r (row.2.2.2.1 p)) q = q.withGlobals p := by
  simp only [globalIds, globalRow, List.map_cons, List.map_nil, List.foldl_cons, List.foldl_nil, Params.put, Params.get,
    Int.toNat_natCast]
  rfl

/-- Parameters that agree outside the global values are told apart by those values. -/
theorem global_rebuild {p q : Params} (h : p.blank = q.blank) :
    p = (globalIds.map globalRow).foldl (fun r row => row.2.2.2.2 r (row.2.2.2.1 p)) q := by
  rw [withGlobals_eq]
  show p.blank.withGlobals p = q.blank.withGlobals p
  rw [h]

theorem blank_fields {p q : Params} (h : p.blank = q.blank) : p.parkReach = q.parkReach ∧ p.parkClearance = q.parkClearance
    ∧ p.pitch = q.pitch ∧ p.edgeMode = q.edgeMode ∧ p.inverted = q.inverted
    ∧ p.bays = q.bays ∧ p.levels = q.levels ∧ p.laneDepth = q.laneDepth ∧ p.capacity = q.capacity := by
  have hfield {α : Type} (g : Params → α) : g p.blank = g q.blank := congrArg g h
  exact ⟨hfield Params.parkReach, hfield Params.parkClearance, hfield Params.pitch, hfield Params.edgeMode,
    hfield Params.inverted, hfield Params.bays, hfield Params.levels, hfield Params.laneDepth, hfield Params.capacity⟩

section
variable {f : Nat → ConfigEntry} {n : Nat} (hf : ∀ j < n, (f j).id ∈ globalIds)

theorem clampAll_succ (f : Nat → ConfigEntry) (n : Nat) (p : Params) : clampAll ((List.range (n + 1)).map f) p =
    (clampAll ((List.range n).map f) p).put (f n).id (f n).inst (clampParam (f n).id (f n).value) := by
  simp [clampAll, List.range_succ]

include hf

theorem clampAll_blank (p : Params) : (clampAll ((List.range n).map f) p).blank = p.blank := by
  induction n with
  | zero => rfl
  | succ n ih =>
    rw [clampAll_succ, global_put_blank (hf n (by omega)), ih fun j hj => hf j (by omega)]

theorem clampAll_get_unwritten (p : Params) {id : Nat} (hid : id ∈ globalIds) (h : ∀ j < n, (f j).id ≠ id) :
    (clampAll ((List.range n).map f) p).get id 0 = p.get id 0 := by
  induction n with
  | zero => rfl
  | succ n ih =>
    rw [clampAll_succ, global_get_put_other (hf n (by omega)) _ _ _ hid (h n (by omega)),
      ih (fun j hj => hf j (by omega)) fun j hj => h j (by omega)]

/-- A parameter takes the value of its last entry, clamped into its range (log 32). -/
theorem clampAll_get_last (p : Params) {j : Nat} (hj : j < n) (hlast : ∀ i, j < i → i < n → (f i).id ≠ (f j).id) :
    (clampAll ((List.range n).map f) p).get (f j).id 0 = clampParam (f j).id (f j).value := by
  induction n with
  | zero => omega
  | succ n ih =>
    have hid := hf j hj
    have hlo := (global_table hid).2.2
    rw [clampAll_succ]
    rcases Nat.lt_succ_iff_lt_or_eq.1 hj with hjn | rfl
    · rw [global_get_put_other (hf n (by omega)) _ _ _ hid (hlast n hjn (by omega)),
        ih (fun i hi => hf i (by omega)) hjn fun i hi hin => hlast i hi (by omega)]
    · exact global_get_put_self hid _ _ (by rw [global_clamp hid]; omega)

end

/-- No value is clamped when each parameter holds the value of its last entry (log 32). -/
theorem valueClamped_eq_false (p : Params) (l : List ConfigEntry) : valueClamped p l = false ↔
    ∀ j (hj : j < l.length), (∀ i (hi : i < l.length), j < i → ¬ (l[i].id = l[j].id ∧ l[i].inst = l[j].inst)) →
      p.get l[j].id l[j].inst = l[j].value := by
  induction l with
  | nil => simp [valueClamped]
  | cons e t ih =>
    have hhead : writes t e.id e.inst = false ↔
        ∀ i (hi : i < (e :: t).length), 0 < i → ¬ ((e :: t)[i].id = e.id ∧ (e :: t)[i].inst = e.inst) := by
      rw [writes_eq_false]
      constructor
      · intro h i hi hpos
        obtain ⟨i, rfl⟩ := Nat.exists_eq_succ_of_ne_zero hpos.ne'
        exact h _ (List.getElem_mem _)
      · intro h d hd
        obtain ⟨i, hi, rfl⟩ := List.mem_iff_getElem.1 hd
        exact h (i + 1) (by simpa using hi) (by omega)
    simp only [valueClamped, Bool.or_eq_false_iff, Bool.and_eq_false_iff, Bool.not_eq_false', decide_eq_false_iff_not, not_not]
    rw [ih]
    constructor
    · rintro ⟨h0, ht⟩ j hj hlast
      cases j with
      | zero =>
        rcases h0 with h0 | h0
        · have := hhead.2 hlast
          simp [this] at h0
        · exact h0
      | succ j =>
        exact ht j (by simpa using hj) fun i hi hij => hlast (i + 1) (by simpa using hi) (by omega)
    · intro h
      refine ⟨?_, fun j hj hlast => ?_⟩
      · by_cases hw : writes t e.id e.inst = true
        · exact .inl hw
        · exact .inr (h 0 (by simp) (hhead.1 (by simpa using hw)))
      · refine h (j + 1) (by simpa using hj) fun i hi hij => ?_
        obtain ⟨i, rfl⟩ := Nat.exists_eq_succ_of_ne_zero (by omega : i ≠ 0)
        exact hlast i (by simpa using hi) (by omega)

/-- A frame of global values is taken unclamped when every last value lies in its range (log 32). -/
theorem valueClamped_globals (p : Params) {f : Nat → ConfigEntry} {n : Nat} (hf : ∀ j < n, (f j).id ∈ globalIds ∧ (f j).inst = 0) :
    valueClamped (clampAll ((List.range n).map f) p) ((List.range n).map f) = false ↔
      ∀ j < n, (∀ i, j < i → i < n → (f i).id ≠ (f j).id) →
        (paramRange (f j).id).1 ≤ (f j).value ∧ (f j).value ≤ (paramRange (f j).id).2 := by
  have hids (j) (hj : j < n) := (hf j hj).1
  have hbounds (j) (hj : j < n) (hlast : ∀ i, j < i → i < n → (f i).id ≠ (f j).id) :
      (clampAll ((List.range n).map f) p).get (f j).id (f j).inst = (f j).value ↔
        (paramRange (f j).id).1 ≤ (f j).value ∧ (f j).value ≤ (paramRange (f j).id).2 := by
    have hle := (global_table (hids j hj)).2.2.2
    rw [(hf j hj).2, clampAll_get_last hids p hj hlast, global_clamp (hids j hj)]
    omega
  rw [valueClamped_eq_false]
  simp only [List.length_map, List.length_range, List.getElem_map, List.getElem_range]
  constructor
  · intro h j hj hlast
    exact (hbounds j hj hlast).1 (h j hj fun i hi hij he => hlast i hij hi he.1)
  · intro h j hj hlast
    have hlast' (i) (hij : j < i) (hi : i < n) : (f i).id ≠ (f j).id := fun he =>
      hlast i hi hij ⟨he, (hf i hi).2.trans (hf j hj).2.symm⟩
    exact (hbounds j hj hlast').2 (h j hj hlast')

theorem okOrClamped_eq_ok (b : Bool) : okOrClamped b = .ok ↔ b = false := by
  cases b <;> simp [okOrClamped]

/-- CONFIGURE of a frame of global values. -/
theorem configure_globals {s : State} {q : Request} {n : Nat} (h : s.hasRequest .c q) (hk : q.kind = .configure)
    (hs : s.settled) (hlen : q.body.length = 7 * n) (hreach : s.params.parkReach < s.params.parkClearance)
    (hf : ∀ j < n, (entryAt q.body j).id ∈ globalIds ∧ (entryAt q.body j).inst = 0) :
    let l := (List.range n).map (entryAt q.body)
    let new := clampAll l s.params
    exec .configure s = .next (State.answered { s with params := new } .c q (okOrClamped (valueClamped new l))
      (put8 n ++ (List.range n).flatMap (fun j => put16 (entryAt q.body j).id ++ [0] ++ putInt (new.get (entryAt q.body j).id 0)))) := by
  intro l new
  have hl : configEntries q.body = l := configEntries_eq hlen
  have hmem : ∀ e ∈ l, e.id ∈ globalIds ∧ e.inst = 0 := by
    intro e he
    obtain ⟨j, hj, rfl⟩ := List.mem_map.1 he
    exact hf j (List.mem_range.1 hj)
  have hunwritten (id inst) (hid : id ∉ globalIds) : writes l id inst = false := by
    rw [writes_eq_false]
    rintro e he ⟨rfl, -⟩
    exact hid (hmem e he).1
  have hblank : new.blank = s.params.blank := clampAll_blank (fun j hj => (hf j hj).1) s.params
  obtain ⟨hr, hc, hpitch, hedge, hinv, hbays, hlevels, hdepth, hcap⟩ := blank_fields hblank
  have hreach' : new.parkReach < new.parkClearance := by rw [hr, hc]; exact hreach
  have hcons : consistent s (configEntries q.body) = some new := by
    rw [hl, consistent_unplaced s (fun id inst h8 h13 => hunwritten id inst (by simp [globalIds]; omega))
      (hunwritten _ _ (by decide)), fixReach_unwritten _ (hunwritten _ _ (by decide)) (hunwritten _ _ (by decide)),
      if_pos hreach']
  have htake : takeParams (configEntries q.body) new s = { s with params := new } := by
    rw [hl, takeParams_eq (fun a => hunwritten _ _ (by decide)) ⟨hpitch, hedge, hinv⟩,
      rebuildLanes_same ⟨hbays, hlevels, hdepth⟩, clampFills_same hcap.ge]
  have hserve := serveConfigure_eq (body := q.body) (by
    rw [hl]
    intro e he
    obtain ⟨hid, hinst⟩ := hmem e he
    rw [hinst, (global_table hid).1]
    decide) (.inr (by rw [hl]; exact fun e he => (global_table (hmem e he).1).2.1)) hcons (by rw [htake]; exact hs)
  refine congrArg Host.Outcome.next ((take_eq_answered h hk rfl hserve).trans ?_)
  rw [htake, hl]
  refine congrArg (State.answered _ .c q _) ?_
  have hlength : l.length = n := by simp [l]
  rw [hlength]
  refine congrArg _ ?_
  rw [List.flatMap_map]
  refine List.flatMap_congr fun j hj => ?_
  rw [(hf j (List.mem_range.1 hj)).2]
  rfl

end Sys2Proof.Machine
end

section
namespace Sys2Proof.Machine

/-! ### Reading and writing a place's parameters (R170) -/

theorem instInt_val {n : Nat} (v : Vector Int n) (k : Fin n) : instInt v k.val = v[k] := by
  simp [instInt]

theorem setIfInBounds_val {α : Type} {n : Nat} (v : Vector α n) (k : Fin n) (x : α) : v.setIfInBounds k.val x = v.set k x := by
  ext i hi
  simp [Vector.getElem_setIfInBounds, Vector.getElem_set]

section
variable (p : Params) (k : Crane) (a : Aisle) (w : Int)

theorem Params.get_railLength : p.get 8 a.val = p.railLength[a] := instInt_val ..
theorem Params.get_stationPos : p.get 9 k.val = p.stationPos[k] := instInt_val ..
theorem Params.get_planePos : p.get 10 k.val = p.planePos[k] := instInt_val ..
theorem Params.get_parkPos : p.get 11 k.val = p.parkPos[k] := instInt_val ..
theorem Params.get_tmin : p.get 12 k.val = p.tmin[k] := instInt_val ..
theorem Params.get_tmax : p.get 13 k.val = p.tmax[k] := instInt_val ..

theorem Params.put_railLength : p.put 8 a.val w = { p with railLength := p.railLength.set a w } := by
  simp only [Params.put, setIfInBounds_val]
theorem Params.put_stationPos : p.put 9 k.val w = { p with stationPos := p.stationPos.set k w } := by
  simp only [Params.put, setIfInBounds_val]
theorem Params.put_planePos : p.put 10 k.val w = { p with planePos := p.planePos.set k w } := by
  simp only [Params.put, setIfInBounds_val]
theorem Params.put_parkPos : p.put 11 k.val w = { p with parkPos := p.parkPos.set k w } := by
  simp only [Params.put, setIfInBounds_val]
theorem Params.put_tmin : p.put 12 k.val w = { p with tmin := p.tmin.set k w } := by
  simp only [Params.put, setIfInBounds_val]
theorem Params.put_tmax : p.put 13 k.val w = { p with tmax := p.tmax.set k w } := by
  simp only [Params.put, setIfInBounds_val]

end

/-! ### Frames of two entries -/

/-- Two entries in either order. -/
def pairEntries (first : Bool) (e e' : ConfigEntry) : List ConfigEntry := if first then [e, e'] else [e', e]

section
variable {first : Bool} {e e' : ConfigEntry}

theorem mem_pairEntries (d : ConfigEntry) : d ∈ pairEntries first e e' ↔ d = e ∨ d = e' := by
  cases first <;> simp [pairEntries, or_comm]

theorem writes_pair (id inst : Nat) : writes (pairEntries first e e') id inst = true ↔
    (e.id = id ∧ e.inst = inst) ∨ (e'.id = id ∧ e'.inst = inst) := by
  rw [writes_iff]
  simp [mem_pairEntries]

theorem configEntries_pair {body : List Byte} (hlen : body.length = 14) (first : Bool) : configEntries body =
    pairEntries first ⟨wordAt body (if first then 0 else 7), byteAt body ((if first then 0 else 7) + 2),
      signedAt body ((if first then 0 else 7) + 3)⟩ ⟨wordAt body (if first then 7 else 0),
        byteAt body ((if first then 7 else 0) + 2), signedAt body ((if first then 7 else 0) + 3)⟩ := by
  rw [configEntries_eq (n := 2) hlen]
  cases first <;> rfl

theorem writes_pair_eq_false {id inst : Nat} (h : e.id ≠ id ∨ e.inst ≠ inst) (h' : e'.id ≠ id ∨ e'.inst ≠ inst) :
    writes (pairEntries first e e') id inst = false := by
  rw [← Bool.not_eq_true, writes_pair]
  omega

theorem valueClamped_pair (p : Params) (hne : ¬ (e.id = e'.id ∧ e.inst = e'.inst)) :
    valueClamped p (pairEntries first e e') = false ↔
      p.get e.id e.inst = e.value ∧ p.get e'.id e'.inst = e'.value := by
  have hne' : ¬ (e'.id = e.id ∧ e'.inst = e.inst) := fun h => hne ⟨h.1.symm, h.2.symm⟩
  have h1 : writes [e'] e.id e.inst = false := by rw [writes_eq_false]; simpa using hne'
  have h2 : writes [e] e'.id e'.inst = false := by rw [writes_eq_false]; simpa using hne
  have h0 (id inst : Nat) : writes [] id inst = false := rfl
  cases first
  · simp [pairEntries, valueClamped, h2, h0, and_comm]
  · simp [pairEntries, valueClamped, h1, h0]

end

/-- The response's entry of a value taken (R169). -/
def entryBytes (e : ConfigEntry) (value : Int) : List Byte := put16 e.id ++ put8 e.inst ++ putInt value

/-- CONFIGURE of two different values that pass the consistency pass. -/
theorem configure_pair {s t : State} {q : Request} {first : Bool} {e e' : ConfigEntry} {new : Params} {w x : Int}
    (h : s.hasRequest .c q) (hk : q.kind = .configure) (hl : configEntries q.body = pairEntries first e e')
    (hne : ¬ (e.id = e'.id ∧ e.inst = e'.inst)) (hinst : e.inst < paramInstances e.id ∧ e'.inst < paramInstances e'.id)
    (hwing : s.wing = .loading ∨ isGeometry e.id = false ∧ isGeometry e'.id = false)
    (hcons : consistent s (pairEntries first e e') = some new) (hw : new.get e.id e.inst = w) (hx : new.get e'.id e'.inst = x)
    (htake : takeParams (pairEntries first e e') new s = t) (ht : t.settled) :
    exec .configure s = .next (t.answered .c q (if w = e.value ∧ x = e'.value then .ok else .clamped)
      ([2] ++ (if first then entryBytes e w ++ entryBytes e' x else entryBytes e' x ++ entryBytes e w))) := by
  have hserve := serveConfigure_eq (body := q.body) (s := s) (p := new) (by
    rw [hl]
    intro d hd
    rcases (mem_pairEntries d).1 hd with rfl | rfl
    · exact hinst.1
    · exact hinst.2) (by
    rw [hl]
    refine hwing.imp_right fun hg d hd => ?_
    rcases (mem_pairEntries d).1 hd with rfl | rfl
    · exact hg.1
    · exact hg.2) (by rw [hl]; exact hcons) (by rw [hl, htake]; exact ht)
  refine congrArg Host.Outcome.next ((take_eq_answered h hk rfl hserve).trans ?_)
  rw [hl, htake]
  refine congrArg₂ (State.answered _ .c q) ?_ ?_
  · rw [← hw, ← hx]
    split
    · next hok => rw [(valueClamped_pair new hne).2 hok]; rfl
    · next hno =>
      rw [← valueClamped_pair new hne, Bool.not_eq_false] at hno
      rw [hno]
      rfl
  · rw [← hw, ← hx]
    cases first
    · simp [pairEntries, entryBytes, put8]
    · simp [pairEntries, entryBytes, put8]

/-- New values outside the geometry that the directory and the channels depend on change the parameters alone. -/
theorem takeParams_params {l : List ConfigEntry} {new : Params} {s : State} (h : ∀ a : Aisle, writes l 8 a.val = false)
    (hchannel : new.pitch = s.params.pitch ∧ new.edgeMode = s.params.edgeMode ∧ new.inverted = s.params.inverted)
    (hlanes : new.bays = s.params.bays ∧ new.levels = s.params.levels ∧ new.laneDepth = s.params.laneDepth)
    (hcap : new.capacity = s.params.capacity) : takeParams l new s = { s with params := new } := by
  rw [takeParams_eq h hchannel, rebuildLanes_same hlanes, clampFills_same hcap.ge]

/-- The steps of R171 in order. -/
theorem consistent_steps {s : State} {l : List ConfigEntry} {p1 p2 p3 p4 p5 : Params}
    (h1 : [(0 : Aisle), 1].foldl (fun p a => fixPositions l a (fixLength l a p)) (clampAll l s.params) = p1)
    (h2 : allCranes.foldl (fun p k => fixLimits l k p) p1 = p2) (h3 : tryCranes (fixPlane l) p2 = some p3)
    (h4 : tryCranes (fixPark l) p3 = some p4) (h5 : fixReach l p4 = p5) (h6 : p5.parkReach < p5.parkClearance)
    (h7 : fixGap s l p5 = p5) : consistent s l = some p5 := by
  unfold consistent
  dsimp only
  rw [h1, h2, h3]
  dsimp only [Option.bind_some]
  rw [h4]
  dsimp only
  rw [h5, if_pos h6, h7]

/-- A pass over the cranes that does something at one crane alone. -/
theorem foldl_allCranes_one {α : Type} {f : α → Crane → α} (k : Crane) (h : ∀ j, j ≠ k → ∀ x, f x j = x) (x : α) :
    allCranes.foldl f x = f x k := by
  simp only [allCranes, List.foldl_cons, List.foldl_nil]
  fin_cases k <;> simp +decide [h]

theorem foldl_aisles_one {α : Type} {f : α → Aisle → α} (a : Aisle) (h : ∀ b, b ≠ a → ∀ x, f x b = x) (x : α) :
    [(0 : Aisle), 1].foldl f x = f x a := by
  simp only [List.foldl_cons, List.foldl_nil]
  fin_cases a <;> simp +decide [h]

theorem tryCranes_one {f : Crane → Params → Option Params} {p : Params} (k : Crane) (h : ∀ j, j ≠ k → ∀ p, f j p = some p) :
    tryCranes f p = f k p := by
  unfold tryCranes
  rw [foldl_allCranes_one k]
  · rfl
  · intro j hj o
    cases o with
    | none => rfl
    | some p => exact h j hj p

/-! ### The distance between planes and park positions (R171, step 4) -/

theorem lt_foldl_min (r a : Int) (l : List Int) : r < l.foldl min a ↔ r < a ∧ ∀ x ∈ l, r < x := by
  induction l generalizing a with
  | nil => simp
  | cons b t ih =>
    rw [List.foldl_cons, ih, List.forall_mem_cons, lt_min_iff, and_assoc]

/-- A reach lies below the clearance when each park position lies further from each plane of its aisle. -/
theorem lt_parkClearance (p : Params) (r : Int) :
    r < p.parkClearance ↔ ∀ k, ∀ c ∈ cranesOf (aisleOf k), r < ((p.parkPos[k] - p.planePos[c]).natAbs : Int) := by
  unfold Params.parkClearance
  rw [lt_foldl_min]
  constructor
  · rintro ⟨-, h⟩ k c hc
    exact h _ (List.mem_flatMap.2 ⟨k, mem_allCranes k,
      List.mem_map_of_mem (f := fun c => ((p.parkPos[k] - p.planePos[c]).natAbs : Int)) hc⟩)
  · intro h
    refine ⟨h 0 0 (by decide), fun x hx => ?_⟩
    obtain ⟨k, -, hx⟩ := List.mem_flatMap.1 hx
    obtain ⟨c, hc, rfl⟩ := List.mem_map.1 hx
    exact h k c hc

end Sys2Proof.Machine
end

section
namespace Sys2Proof.Machine

/-! ### T_park and B written together (R171, step 6) -/

/-- T_park is lowered first and then B, each no further than the clearance needs. -/
theorem fixReach_both {l : List ConfigEntry} (h22 : writes l 22 0 = true) (h26 : writes l 26 0 = true) {p : Params} {w x : Int}
    (hpark : 10 ≤ p.tPark) (hhalf : 200 ≤ p.halfLength)
    (hwx : w ≤ p.tPark ∧ x = p.halfLength ∧ w + p.halfLength < p.parkClearance ∧ 10 ≤ w
        ∧ (∀ y, w < y → y ≤ p.tPark → ¬ y + p.halfLength < p.parkClearance)
      ∨ w = 10 ∧ ¬ 10 + p.halfLength < p.parkClearance ∧ 200 ≤ x ∧ x ≤ p.halfLength ∧ 10 + x < p.parkClearance
        ∧ ∀ y, x < y → y ≤ p.halfLength → ¬ 10 + y < p.parkClearance) :
    fixReach l p = { p with tPark := w, halfLength := x } := by
  have heq : fixReach l p =
      let t := p.tPark - min (max 0 (p.halfLength + p.tPark - (p.parkClearance - 1))) (p.tPark - 10)
      { p with
        tPark := t
        halfLength := p.halfLength - min (max 0 (p.halfLength + t - (p.parkClearance - 1))) (p.halfLength - 200) } := by
    unfold fixReach
    dsimp only
    rw [if_pos h22, if_pos h26]
    rfl
  rw [heq]
  dsimp only
  generalize p.parkClearance = clearance at hwx ⊢
  have hw : p.tPark - min (max 0 (p.halfLength + p.tPark - (clearance - 1))) (p.tPark - 10) = w := by
    rcases hwx with ⟨hle, rfl, hlt, h10, hmax⟩ | ⟨rfl, hfar, -⟩
    · by_cases heq : w = p.tPark
      · rw [max_eq_left (by omega)]
        omega
      · have := hmax (w + 1) (by omega) (by omega)
        rw [max_eq_right (by omega)]
        omega
    · rw [max_eq_right (by omega)]
      omega
  have hx : p.halfLength - min (max 0 (p.halfLength + w - (clearance - 1))) (p.halfLength - 200) = x := by
    rcases hwx with ⟨-, rfl, hlt, -, -⟩ | ⟨rfl, hfar, h200, hle, hlt, hmax⟩
    · rw [max_eq_left (by omega)]
      omega
    · have := hmax (x + 1)
      rw [max_eq_right (by omega)]
      omega
  rw [hw, hx]

/-- The pass over a frame that writes T_park and B. -/
theorem consistent_reach {s : State} (first : Bool) {v u w x : Int}
    (hfar : w + x < s.params.parkClearance)
    (hwx : w ≤ max 10 (min v 500) ∧ x = max 200 (min u 5000) ∧ w + max 200 (min u 5000) < s.params.parkClearance ∧ 10 ≤ w
        ∧ (∀ y, w < y → y ≤ max 10 (min v 500) → ¬ y + max 200 (min u 5000) < s.params.parkClearance)
      ∨ w = 10 ∧ ¬ 10 + max 200 (min u 5000) < s.params.parkClearance ∧ 200 ≤ x ∧ x ≤ max 200 (min u 5000)
        ∧ 10 + x < s.params.parkClearance ∧ ∀ y, x < y → y ≤ max 200 (min u 5000) → ¬ 10 + y < s.params.parkClearance) :
    consistent s (pairEntries first ⟨22, 0, v⟩ ⟨26, 0, u⟩) = some { s.params with tPark := w, halfLength := x } := by
  have hclamp : clampAll (pairEntries first ⟨22, 0, v⟩ ⟨26, 0, u⟩) s.params =
      { s.params with tPark := max 10 (min v 500), halfLength := max 200 (min u 5000) } := by cases first <;> rfl
  have hreach : fixReach (pairEntries first ⟨22, 0, v⟩ ⟨26, 0, u⟩)
      { s.params with tPark := max 10 (min v 500), halfLength := max 200 (min u 5000) } =
        { s.params with tPark := w, halfLength := x } :=
    fixReach_both ((writes_pair ..).2 (.inl ⟨rfl, rfl⟩)) ((writes_pair ..).2 (.inr ⟨rfl, rfl⟩)) (le_max_left ..)
      (le_max_left ..) hwx
  rw [consistent_unplaced s (fun id inst h8 h13 => writes_pair_eq_false (.inl (by simp; omega)) (.inl (by simp; omega)))
    (writes_pair_eq_false (.inl (by simp)) (.inl (by simp))), hclamp, hreach, if_pos]
  show x + w < s.params.parkClearance
  omega

/-! ### Positions and limits written together (R171, steps 1 to 5) -/

/-- A position clamped into its range and then into the rail length (R170, R171, step 2). -/
def insideRail (len y : Int) : Int := max 0 (min (max 0 (min y 200000)) len)

section
variable {first : Bool} {k : Crane} {id id' : Nat} {v u : Int}

theorem writes_other (id id' : Nat) {j : Crane} (h : j ≠ k) (i : Nat) :
    writes (pairEntries first ⟨id, k.val, v⟩ ⟨id', k.val, u⟩) i j.val = false := by
  have : k.val ≠ j.val := fun he => h (Fin.ext he.symm)
  exact writes_pair_eq_false (.inr this) (.inr this)

theorem writes_first (id id' : Nat) : writes (pairEntries first ⟨id, k.val, v⟩ ⟨id', k.val, u⟩) id k.val = true :=
  (writes_pair ..).2 (.inl ⟨rfl, rfl⟩)

theorem writes_second (id id' : Nat) : writes (pairEntries first ⟨id, k.val, v⟩ ⟨id', k.val, u⟩) id' k.val = true :=
  (writes_pair ..).2 (.inr ⟨rfl, rfl⟩)

theorem boundedPlaces_limits (a : Aisle) : (boundedPlaces a).filter (fun e =>
    writes (pairEntries first ⟨12, k.val, v⟩ ⟨13, k.val, u⟩) e.1 e.2) =
      if a = aisleOf k then [(13, k.val), (12, k.val)] else [] := by
  fin_cases a <;> fin_cases k <;> cases first <;> rfl

theorem boundedPlaces_planes (a : Aisle) : (boundedPlaces a).filter (fun e =>
    writes (pairEntries first ⟨10, k.val, v⟩ ⟨11, k.val, u⟩) e.1 e.2) =
      if a = aisleOf k then [(10, k.val), (11, k.val)] else [] := by
  fin_cases a <;> fin_cases k <;> cases first <;> rfl

theorem boundedPlaces_length (a : Aisle) : (boundedPlaces a).filter (fun e =>
    writes (pairEntries first ⟨8, (aisleOf k).val, v⟩ ⟨9, k.val, u⟩) e.1 e.2) =
      if a = aisleOf k then [(9, k.val)] else [] := by
  fin_cases a <;> fin_cases k <;> cases first <;> rfl

/-- With Tmax written, crossed travel limits meet at Tmin (R171, step 3). -/
theorem fixLimits_written {l : List ConfigEntry} {k : Crane} (h : writes l 13 k.val = true) (p : Params) :
    fixLimits l k p = { p with tmax := p.tmax.set k (max p.tmax[k] p.tmin[k]) } := by
  unfold fixLimits
  rw [if_pos h, Params.get_tmin, Params.get_tmax, Params.put_tmax]
  split
  · next hlt => rw [max_eq_right hlt.le]
  · next hle =>
    rw [max_eq_left (by omega)]
    simp

/-- The pass over a frame that writes both travel limits of a crane: crossed limits meet at Tmin (R171, step 3). -/
theorem consistent_limits {s : State} (hreach : s.params.parkReach < s.params.parkClearance) {w x : Int}
    (hw : w = insideRail s.params.railLength[aisleOf k] v) (hx : x = max (insideRail s.params.railLength[aisleOf k] u) w) :
    consistent s (pairEntries first ⟨12, k.val, v⟩ ⟨13, k.val, u⟩) =
      some { s.params with tmin := s.params.tmin.set k w, tmax := s.params.tmax.set k x } := by
  set l := pairEntries first ⟨12, k.val, v⟩ ⟨13, k.val, u⟩ with hl
  have hunwritten (id inst : Nat) (h12 : id ≠ 12) (h13 : id ≠ 13) : writes l id inst = false :=
    writes_pair_eq_false (.inl (Ne.symm h12)) (.inl (Ne.symm h13))
  have hclamp : clampAll l s.params = { s.params with
      tmin := s.params.tmin.set k (max 0 (min v 200000)), tmax := s.params.tmax.set k (max 0 (min u 200000)) } := by
    cases first <;> simp [hl, pairEntries, clampAll, Params.put_tmin, Params.put_tmax, clampParam, paramRange]
  have hpositions : fixPositions l (aisleOf k) (clampAll l s.params) = { s.params with
      tmin := s.params.tmin.set k w, tmax := s.params.tmax.set k (insideRail s.params.railLength[aisleOf k] u) } := by
    rw [fixPositions_eq, boundedPlaces_limits, if_pos rfl, hclamp]
    simp [Params.get_tmin, Params.get_tmax, Params.get_railLength, Params.put_tmin, Params.put_tmax, hw, insideRail]
  have hlimits : fixLimits l k { s.params with
      tmin := s.params.tmin.set k w, tmax := s.params.tmax.set k (insideRail s.params.railLength[aisleOf k] u) } =
      { s.params with tmin := s.params.tmin.set k w, tmax := s.params.tmax.set k x } := by
    rw [fixLimits_written (writes_second ..)]
    simp [hx]
  refine consistent_steps ((foldl_aisles_one (aisleOf k) (fun a ha p => ?_) _).trans ?_)
    ((foldl_allCranes_one k (fun j hj p => fixLimits_unwritten p (writes_other _ _ hj _) (writes_other _ _ hj _)) _).trans
      hlimits)
    (tryCranes_fixed _ fun j => fixPlane_unwritten _ (hunwritten _ _ (by decide) (by decide)))
    (tryCranes_fixed _ fun j => fixPark_unwritten _ (hunwritten _ _ (by decide) (by decide)))
    (fixReach_unwritten _ (hunwritten _ _ (by decide) (by decide)) (hunwritten _ _ (by decide) (by decide))) hreach
    (fixGap_unwritten s _ (hunwritten _ _ (by decide) (by decide)))
  · rw [fixLength_unwritten p (hunwritten _ _ (by decide) (by decide)), fixPositions_eq, boundedPlaces_limits, if_neg ha]
    rfl
  · rw [fixLength_unwritten _ (hunwritten _ _ (by decide) (by decide)), hpositions]

end

end Sys2Proof.Machine
end

section
namespace Sys2Proof.Machine

/-! ### The nearest clear point (R171, steps 4 and 5, log 33) -/

/-- A point of the rail that lies further than a distance from some centres. -/
def ClearPoint (len d : Int) (centres : List Int) (z : Int) : Prop :=
  0 ≤ z ∧ z ≤ len ∧ ∀ m ∈ centres, d < ((z - m).natAbs : Int)

/-- The clear point nearest to `c`, the lower of two equally near. -/
def NearestPoint (len d : Int) (centres : List Int) (c y : Int) : Prop :=
  ClearPoint len d centres y
    ∧ ∀ z, ClearPoint len d centres z → (y - c).natAbs < (z - c).natAbs ∨ ((y - c).natAbs = (z - c).natAbs ∧ y ≤ z)

theorem clearOf_iff (d : Int) (centres : List Int) (x : Int) :
    clearOf d centres x = true ↔ ∀ m ∈ centres, d < ((x - m).natAbs : Int) := by
  simp [clearOf]

/-- The choice between the best point so far and the next one. -/
def nearer (x : Int) (best : Option Int) (y : Int) : Option Int :=
  match best with
  | none => some y
  | some b => if (y - x).natAbs < (b - x).natAbs ∨ ((y - x).natAbs = (b - x).natAbs ∧ y < b) then some y else some b

/-- The fold over the points finds the one that no other undercuts. -/
theorem foldl_nearer {x y : Int} (l : List Int) (best : Option Int) (hy : y ∈ l ∨ best = some y)
    (hmin : ∀ z, (z ∈ l ∨ best = some z) → (y - x).natAbs < (z - x).natAbs ∨ ((y - x).natAbs = (z - x).natAbs ∧ y ≤ z)) :
    l.foldl (nearer x) best = some y := by
  induction l generalizing best with
  | nil => simpa using hy
  | cons a t ih =>
    have ha := hmin a (.inl List.mem_cons_self)
    have hnext : nearer x best a = some a ∨ nearer x best a = best := by
      cases best with
      | none => exact .inl rfl
      | some b =>
        unfold nearer
        dsimp only
        split
        · exact .inl rfl
        · exact .inr rfl
    refine ih (nearer x best a) ?_ fun z hz => ?_
    · by_cases hbest : best = some y
      · have : nearer x best a = some y := by
          rw [hbest]
          unfold nearer
          dsimp only
          rw [if_neg (by omega)]
        exact .inr this
      · rcases hy with hy | hy
        · rcases List.mem_cons.1 hy with rfl | hy
          · right
            cases best with
            | none => rfl
            | some b =>
              have hb := hmin b (.inr rfl)
              have hne : b ≠ y := fun he => hbest (by rw [he])
              unfold nearer
              dsimp only
              rw [if_pos (by omega)]
          · exact .inl hy
        · exact absurd hy hbest
    · rcases hz with hz | hz
      · exact hmin z (.inl (List.mem_cons_of_mem _ hz))
      · rcases hnext with h | h
        · obtain rfl := Option.some.inj (h.symm.trans hz)
          exact ha
        · exact hmin z (.inr (h.symm.trans hz))

/-- The nearest clear point is the point itself or lies just beyond a centre's reach. -/
theorem nearest_mem_points {len d x y : Int} {centres : List Int} (hx0 : 0 ≤ x) (hxl : x ≤ len)
    (h : NearestPoint len d centres x y) : y = x ∨ ∃ m ∈ centres, y = m - d - 1 ∨ y = m + d + 1 := by
  obtain ⟨⟨hy0, hyl, hclear⟩, hmin⟩ := h
  by_cases heq : y = x
  · exact .inl heq
  · right
    -- one step toward `x` is nearer, so it is not clear
    obtain ⟨z, hz, hz0, hzl⟩ : ∃ z, (z - y = 1 ∧ y < x ∨ y - z = 1 ∧ x < y) ∧ 0 ≤ z ∧ z ≤ len := by
      rcases lt_or_gt_of_ne heq with hlt | hgt
      · exact ⟨y + 1, by omega, by omega, by omega⟩
      · exact ⟨y - 1, by omega, by omega, by omega⟩
    have hnot : ¬ ClearPoint len d centres z := fun hc => by
      have := hmin z hc
      omega
    have hnear : ¬ ∀ m ∈ centres, d < ((z - m).natAbs : Int) := fun hall => hnot ⟨hz0, hzl, hall⟩
    simp only [not_forall] at hnear
    obtain ⟨m, hm, hle⟩ := hnear
    have := hclear m hm
    exact ⟨m, hm, by omega⟩

theorem nearestClear_eq {len d x y : Int} {centres : List Int} (hx0 : 0 ≤ x) (hxl : x ≤ len)
    (h : NearestPoint len d centres x y) : nearestClear len d centres x = some y := by
  have hmem := nearest_mem_points hx0 hxl h
  obtain ⟨⟨hy0, hyl, hclear⟩, hmin⟩ := h
  unfold nearestClear
  refine foldl_nearer (x := x) _ none (.inl ?_) fun z hz => hmin z ?_
  · rw [List.mem_filter]
    refine ⟨?_, by simp [hy0, hyl, (clearOf_iff d centres y).2 hclear]⟩
    rcases hmem with rfl | ⟨m, hm, hy⟩
    · exact List.mem_cons_self
    · exact List.mem_cons_of_mem _ (List.mem_flatMap.2 ⟨m, hm, by simpa using hy⟩)
  · rcases hz with hz | hz
    · obtain ⟨-, hz⟩ := List.mem_filter.1 hz
      simp only [Bool.and_eq_true, decide_eq_true_eq] at hz
      exact ⟨hz.1.1, hz.1.2, (clearOf_iff d centres z).1 hz.2⟩
    · simp at hz

/-- A written position is taken to the nearest clear point. -/
theorem fixNear_eq {len : Int} {id inst : Nat} {centres : List Int} {p : Params} {x y : Int}
    (hget : p.get id inst = x) (hx0 : 0 ≤ x) (hxl : x ≤ len) (hput : p.put id inst x = p)
    (h : NearestPoint len p.parkReach centres x y) : fixNear len id inst centres p = some (p.put id inst y) := by
  subst hget
  unfold fixNear
  split
  · next hclear =>
    have hx : ClearPoint len p.parkReach centres (p.get id inst) := ⟨hx0, hxl, (clearOf_iff ..).1 hclear⟩
    have hmin := h.2 _ hx
    have heq : y = p.get id inst := by omega
    rw [heq, hput]
  · rw [nearestClear_eq hx0 hxl h]
    rfl

theorem fixPlane_near {l : List ConfigEntry} {k : Crane} {p : Params} {y : Int} (hl : writes l 10 k.val = true)
    (hin : 0 ≤ p.planePos[k] ∧ p.planePos[k] ≤ p.railLength[aisleOf k])
    (h : NearestPoint p.railLength[aisleOf k] p.parkReach
      (((cranesOf (aisleOf k)).filter (fun c => !writes l 11 c.val)).map (fun c => p.parkPos[c])) p.planePos[k] y) :
    fixPlane l k p = some { p with planePos := p.planePos.set k y } := by
  unfold fixPlane
  rw [if_pos hl, Params.get_railLength]
  simp only [Params.get_parkPos]
  rw [fixNear_eq (Params.get_planePos ..) hin.1 hin.2 (by rw [Params.put_planePos]; simp) h, Params.put_planePos]

theorem fixPark_near {l : List ConfigEntry} {k : Crane} {p : Params} {y : Int} (hl : writes l 11 k.val = true)
    (hin : 0 ≤ p.parkPos[k] ∧ p.parkPos[k] ≤ p.railLength[aisleOf k])
    (h : NearestPoint p.railLength[aisleOf k] p.parkReach ((cranesOf (aisleOf k)).map (fun c => p.planePos[c]))
      p.parkPos[k] y) : fixPark l k p = some { p with parkPos := p.parkPos.set k y } := by
  unfold fixPark
  rw [if_pos hl, Params.get_railLength]
  simp only [Params.get_planePos]
  rw [fixNear_eq (Params.get_parkPos ..) hin.1 hin.2 (by rw [Params.put_parkPos]; simp) h, Params.put_parkPos]

section
variable {first : Bool} {k : Crane} {v u : Int}

theorem get_set_ne {n : Nat} (a : Vector Int n) (y : Int) {i j : Fin n} (h : i ≠ j) : (a.set j y)[i] = a[i] :=
  Vector.getElem_set_ne _ _ fun he => h (Fin.ext he.symm)

theorem get_set_same {n : Nat} (a : Vector Int n) (y : Int) (i : Fin n) : (a.set i y)[i] = y :=
  Vector.getElem_set_self _

theorem mem_cranesOf_iff (a : Aisle) (c : Crane) : c ∈ cranesOf a ↔ aisleOf c = a := by
  revert a c
  decide

theorem insideRail_mem {len : Int} (h : 0 ≤ len) (y : Int) : 0 ≤ insideRail len y ∧ insideRail len y ≤ len := by
  unfold insideRail
  omega

/-- The pass over a frame that writes a plane and a park position of one station: each goes to its nearest clear point. -/
theorem consistent_planes {s : State} (hreach : s.params.parkReach < s.params.parkClearance)
    (hlen : 0 ≤ s.params.railLength[aisleOf k]) {w x : Int}
    (hw : NearestPoint s.params.railLength[aisleOf k] s.params.parkReach
      (((cranesOf (aisleOf k)).filter (· ≠ k)).map (fun c => s.params.parkPos[c]))
      (insideRail s.params.railLength[aisleOf k] v) w)
    (hx : NearestPoint s.params.railLength[aisleOf k] s.params.parkReach
      ((cranesOf (aisleOf k)).map (fun c => (s.params.planePos.set k w)[c]))
      (insideRail s.params.railLength[aisleOf k] u) x) :
    consistent s (pairEntries first ⟨10, k.val, v⟩ ⟨11, k.val, u⟩) =
      some { s.params with planePos := s.params.planePos.set k w, parkPos := s.params.parkPos.set k x } := by
  set l := pairEntries first ⟨10, k.val, v⟩ ⟨11, k.val, u⟩ with hl
  set len := s.params.railLength[aisleOf k] with hlenDef
  have hunwritten (id inst : Nat) (h10 : id ≠ 10) (h11 : id ≠ 11) : writes l id inst = false :=
    writes_pair_eq_false (.inl (Ne.symm h10)) (.inl (Ne.symm h11))
  have hin (y : Int) := insideRail_mem hlen y
  have hclamp : clampAll l s.params = { s.params with
      planePos := s.params.planePos.set k (max 0 (min v 200000)), parkPos := s.params.parkPos.set k (max 0 (min u 200000)) } := by
    cases first <;> simp [hl, pairEntries, clampAll, Params.put_planePos, Params.put_parkPos, clampParam, paramRange]
  have hpositions : fixPositions l (aisleOf k) (clampAll l s.params) = { s.params with
      planePos := s.params.planePos.set k (insideRail len v), parkPos := s.params.parkPos.set k (insideRail len u) } := by
    rw [fixPositions_eq, boundedPlaces_planes, if_pos rfl, hclamp]
    simp [Params.get_planePos, Params.get_parkPos, Params.get_railLength, Params.put_planePos, Params.put_parkPos, insideRail,
      hlenDef]
  have hplane : fixPlane l k { s.params with
      planePos := s.params.planePos.set k (insideRail len v), parkPos := s.params.parkPos.set k (insideRail len u) } =
      some { s.params with planePos := s.params.planePos.set k w, parkPos := s.params.parkPos.set k (insideRail len u) } := by
    have hcentres : ((cranesOf (aisleOf k)).filter (fun c => !writes l 11 c.val)).map
        (fun c => (s.params.parkPos.set k (insideRail len u))[c]) =
          ((cranesOf (aisleOf k)).filter (· ≠ k)).map (fun c => s.params.parkPos[c]) := by
      have hfilter : (fun c : Crane => !writes l 11 c.val) = fun c => decide (c ≠ k) := by
        funext c
        by_cases hc : c = k
        · rw [hc, writes_second]; simp
        · rw [writes_other _ _ hc]; simp [hc]
      rw [hfilter]
      refine List.map_congr_left fun c hc => ?_
      have hne : c ≠ k := by simpa using (List.mem_filter.1 hc).2
      exact get_set_ne _ _ hne
    refine (fixPlane_near (y := w) (writes_first ..) ?_ ?_).trans ?_
    · rw [get_set_same]
      exact hin v
    · rw [hcentres, get_set_same]
      exact hw
    · simp
  have hpark : fixPark l k { s.params with
      planePos := s.params.planePos.set k w, parkPos := s.params.parkPos.set k (insideRail len u) } =
      some { s.params with planePos := s.params.planePos.set k w, parkPos := s.params.parkPos.set k x } := by
    refine (fixPark_near (y := x) (writes_second ..) ?_ ?_).trans ?_
    · rw [get_set_same]
      exact hin u
    · rw [get_set_same]
      exact hx
    · simp
  refine consistent_steps ((foldl_aisles_one (aisleOf k) (fun a ha p => ?_) _).trans ?_)
    ((foldl_allCranes_one k (fun j hj p => fixLimits_unwritten p (writes_other _ _ hj _) (writes_other _ _ hj _)) _).trans
      (fixLimits_unwritten _ (hunwritten _ _ (by decide) (by decide)) (hunwritten _ _ (by decide) (by decide))))
    ((tryCranes_one k fun j hj p => fixPlane_unwritten _ (writes_other _ _ hj _)).trans hplane)
    ((tryCranes_one k fun j hj p => fixPark_unwritten _ (writes_other _ _ hj _)).trans hpark)
    (fixReach_unwritten _ (hunwritten _ _ (by decide) (by decide)) (hunwritten _ _ (by decide) (by decide))) ?_
    (fixGap_unwritten s _ (hunwritten _ _ (by decide) (by decide)))
  · rw [fixLength_unwritten p (hunwritten _ _ (by decide) (by decide)), fixPositions_eq, boundedPlaces_planes, if_neg ha]
    rfl
  · rw [fixLength_unwritten _ (hunwritten _ _ (by decide) (by decide)), hpositions]
  · show s.params.parkReach < _
    rw [lt_parkClearance] at hreach ⊢
    intro j c hc
    by_cases hj : j = k
    · subst hj
      have := hx.1.2.2 _ (List.mem_map_of_mem hc)
      simpa using this
    · have hpark : (s.params.parkPos.set k x)[j] = s.params.parkPos[j] := get_set_ne _ _ hj
      by_cases hck : c = k
      · subst hck
        have haisle : aisleOf c = aisleOf j := (mem_cranesOf_iff ..).1 hc
        have hmem : j ∈ (cranesOf (aisleOf c)).filter (· ≠ c) :=
          List.mem_filter.2 ⟨(mem_cranesOf_iff ..).2 haisle.symm, by simpa using hj⟩
        have := hw.1.2.2 _ (List.mem_map_of_mem (f := fun c => s.params.parkPos[c]) hmem)
        rw [hpark, ← Int.natAbs_neg, neg_sub]
        simpa using this
      · have hplane : (s.params.planePos.set k w)[c] = s.params.planePos[c] := get_set_ne _ _ hck
        rw [hpark, hplane]
        exact hreach j c hc

end

end Sys2Proof.Machine
end

section
namespace Sys2Proof.Machine

/-! ### A new rail length with a station position (R108, R171, steps 1 and 2) -/

/-- The frame and the records of a pass that changes the reservations of some aisles. -/
theorem changeLimits_spec (l : List ConfigEntry) (f : Crane → Reservation → Reservation) (s : State) :
    changeLimits l f s = { s with rails := (changeLimits l f s).rails }
      ∧ ∀ k, (changeLimits l f s).rail k = if writes l 8 (aisleOf k).val then
        { s.rail k with reservation := f k (s.rail k).reservation } else s.rail k := by
  have hstep (k : Crane) (s : State) : (if writes l 8 (aisleOf k).val then
      s.modRail k (fun r => { r with reservation := f k r.reservation }) else s) =
        s.modRail k (fun r => if writes l 8 (aisleOf k).val then { r with reservation := f k r.reservation } else r) := by
    split
    · rfl
    · simp [State.modRail]
  have heq : changeLimits l f s = { s with rails := (changeLimits l f s).rails } := by
    unfold changeLimits
    simp only [hstep]
    rfl
  refine ⟨heq, fun k => ?_⟩
  unfold changeLimits
  simp only [hstep]
  fin_cases k <;> simp [forCranes, allCranes, State.rail, State.modRail]

/-- The largest of some values that a bound lies above and meets. -/
theorem foldl_max_eq {α : Type} (f : α → Int) (l : List α) {m w : Int} (hm : m ≤ w) (hl : ∀ e ∈ l, f e ≤ w)
    (hw : w = m ∨ ∃ e ∈ l, w = f e) : l.foldl (fun m e => max m (f e)) m = w := by
  induction l generalizing m with
  | nil => exact (hw.resolve_right (by simp)).symm
  | cons a t ih =>
    have ha := hl a List.mem_cons_self
    refine ih (max_le hm ha) (fun e he => hl e (List.mem_cons_of_mem _ he)) ?_
    rcases hw with hw | ⟨e, he, hw⟩
    · exact .inl (by dsimp only; omega)
    · rcases List.mem_cons.1 he with rfl | he
      · exact .inl (by dsimp only; omega)
      · exact .inr ⟨e, he, hw⟩

theorem mem_aislePlaces (a : Aisle) (e : Nat × Nat) : e ∈ aislePlaces a ↔
    ∃ c ∈ cranesOf a, e = (9, c.val) ∨ e = (10, c.val) ∨ e = (11, c.val) ∨ e = (13, c.val) := by
  simp [aislePlaces]

section
variable {first : Bool} {k : Crane} {v u w : Int}

/-- A written rail length is raised to the largest unwritten position of its aisle (R171, step 1). -/
theorem fixLength_pair {p : Params} (hle : p.railLength[aisleOf k] ≤ w)
    (hall : ∀ c ∈ cranesOf (aisleOf k),
      (c ≠ k → p.stationPos[c] ≤ w) ∧ p.planePos[c] ≤ w ∧ p.parkPos[c] ≤ w ∧ p.tmax[c] ≤ w)
    (hw : w = p.railLength[aisleOf k] ∨ ∃ c ∈ cranesOf (aisleOf k),
      (c ≠ k ∧ w = p.stationPos[c]) ∨ w = p.planePos[c] ∨ w = p.parkPos[c] ∨ w = p.tmax[c]) :
    fixLength (pairEntries first ⟨8, (aisleOf k).val, v⟩ ⟨9, k.val, u⟩) (aisleOf k) p =
      { p with railLength := p.railLength.set (aisleOf k) w } := by
  have hwritten {id inst : Nat} (h8 : id ≠ 8) : writes (pairEntries first ⟨8, (aisleOf k).val, v⟩ ⟨9, k.val, u⟩) id inst = false ↔
      ¬ (id = 9 ∧ inst = k.val) := by
    rw [← Bool.not_eq_true, writes_pair]
    simp only
    omega
  have hmem (e : Nat × Nat) : e ∈ (aislePlaces (aisleOf k)).filter
      (fun e => !writes (pairEntries first ⟨8, (aisleOf k).val, v⟩ ⟨9, k.val, u⟩) e.1 e.2) ↔
        ∃ c ∈ cranesOf (aisleOf k), (c ≠ k ∧ e = (9, c.val)) ∨ e = (10, c.val) ∨ e = (11, c.val) ∨ e = (13, c.val) := by
    rw [List.mem_filter, mem_aislePlaces, Bool.not_eq_eq_eq_not, Bool.not_true]
    constructor
    · rintro ⟨⟨c, hc, rfl | h⟩, hne⟩
      · rw [hwritten (by simp)] at hne
        exact ⟨c, hc, .inl ⟨fun he => hne ⟨rfl, by rw [he]⟩, rfl⟩⟩
      · exact ⟨c, hc, .inr h⟩
    · rintro ⟨c, hc, h⟩
      have hid : e.1 = 9 ∧ c ≠ k ∧ e.2 = c.val ∨ 10 ≤ e.1 := by
        rcases h with ⟨hne, rfl⟩ | rfl | rfl | rfl
        · exact .inl ⟨rfl, hne, rfl⟩
        all_goals exact .inr (by simp)
      refine ⟨⟨c, hc, h.imp_left (·.2)⟩, (hwritten (by omega)).2 ?_⟩
      rintro ⟨h9, hk⟩
      rcases hid with ⟨-, hne, hinst⟩ | hid
      · exact hne (Fin.ext (hinst.symm.trans hk))
      · omega
  unfold fixLength
  rw [if_pos ((writes_pair ..).2 (.inl ⟨rfl, rfl⟩)), Params.put_railLength, Params.get_railLength,
    foldl_max_eq (fun e : Nat × Nat => p.get e.1 e.2) _ hle ?_ ?_]
  · intro e he
    obtain ⟨c, hc, he⟩ := (hmem e).1 he
    obtain ⟨h9, h10, h11, h13⟩ := hall c hc
    rcases he with ⟨hne, rfl⟩ | rfl | rfl | rfl
    · exact (Params.get_stationPos ..).trans_le (h9 hne)
    · exact (Params.get_planePos ..).trans_le h10
    · exact (Params.get_parkPos ..).trans_le h11
    · exact (Params.get_tmax ..).trans_le h13
  · refine hw.imp_right ?_
    rintro ⟨c, hc, ⟨hne, hw⟩ | hw | hw | hw⟩
    · exact ⟨_, (hmem _).2 ⟨c, hc, .inl ⟨hne, rfl⟩⟩, hw.trans (Params.get_stationPos ..).symm⟩
    · exact ⟨_, (hmem _).2 ⟨c, hc, .inr (.inl rfl)⟩, hw.trans (Params.get_planePos ..).symm⟩
    · exact ⟨_, (hmem _).2 ⟨c, hc, .inr (.inr (.inl rfl))⟩, hw.trans (Params.get_parkPos ..).symm⟩
    · exact ⟨_, (hmem _).2 ⟨c, hc, .inr (.inr (.inr rfl))⟩, hw.trans (Params.get_tmax ..).symm⟩

/-- The pass over a frame that writes a rail length and a station position of its aisle. -/
theorem consistent_length {s : State} (hreach : s.params.parkReach < s.params.parkClearance)
    (hle : max 1000 (min v 200000) ≤ w)
    (hall : ∀ c ∈ cranesOf (aisleOf k), (c ≠ k → s.params.stationPos[c] ≤ w) ∧ s.params.planePos[c] ≤ w
      ∧ s.params.parkPos[c] ≤ w ∧ s.params.tmax[c] ≤ w)
    (hw : w = max 1000 (min v 200000) ∨ ∃ c ∈ cranesOf (aisleOf k), (c ≠ k ∧ w = s.params.stationPos[c])
      ∨ w = s.params.planePos[c] ∨ w = s.params.parkPos[c] ∨ w = s.params.tmax[c]) :
    consistent s (pairEntries first ⟨8, (aisleOf k).val, v⟩ ⟨9, k.val, u⟩) =
      some { s.params with railLength := s.params.railLength.set (aisleOf k) w,
                           stationPos := s.params.stationPos.set k (insideRail w u) } := by
  set l := pairEntries first ⟨8, (aisleOf k).val, v⟩ ⟨9, k.val, u⟩ with hl
  have hunwritten (id inst : Nat) (h8 : id ≠ 8) (h9 : id ≠ 9) : writes l id inst = false :=
    writes_pair_eq_false (.inl (Ne.symm h8)) (.inl (Ne.symm h9))
  have hclamp : clampAll l s.params = { s.params with
      railLength := s.params.railLength.set (aisleOf k) (max 1000 (min v 200000)),
      stationPos := s.params.stationPos.set k (max 0 (min u 200000)) } := by
    cases first <;>
      simp [hl, pairEntries, clampAll, Params.put_railLength, Params.put_stationPos, clampParam, paramRange]
  have hlength : fixLength l (aisleOf k) (clampAll l s.params) = { s.params with
      railLength := s.params.railLength.set (aisleOf k) w,
      stationPos := s.params.stationPos.set k (max 0 (min u 200000)) } := by
    rw [hclamp]
    refine (fixLength_pair (w := w) ?_ (fun c hc => ?_) ?_).trans ?_
    · simpa using hle
    · exact ⟨fun hne => (get_set_ne _ _ hne).trans_le ((hall c hc).1 hne), (hall c hc).2⟩
    · refine hw.imp (fun h => by simpa using h) ?_
      rintro ⟨c, hc, ⟨hne, h⟩ | h⟩
      · exact ⟨c, hc, .inl ⟨hne, h.trans (get_set_ne _ _ hne).symm⟩⟩
      · exact ⟨c, hc, .inr h⟩
    · simp
  have hpositions : fixPositions l (aisleOf k) (fixLength l (aisleOf k) (clampAll l s.params)) = { s.params with
      railLength := s.params.railLength.set (aisleOf k) w,
      stationPos := s.params.stationPos.set k (insideRail w u) } := by
    rw [hlength, fixPositions_eq, boundedPlaces_length, if_pos rfl]
    simp [Params.get_stationPos, Params.get_railLength, Params.put_stationPos, insideRail]
  refine consistent_steps ((foldl_aisles_one (aisleOf k) (fun a ha p => ?_) _).trans hpositions)
    ((foldl_allCranes_one k (fun j hj p => fixLimits_unwritten p (hunwritten _ _ (by decide) (by decide))
      (hunwritten _ _ (by decide) (by decide))) _).trans
      (fixLimits_unwritten _ (hunwritten _ _ (by decide) (by decide)) (hunwritten _ _ (by decide) (by decide))))
    (tryCranes_fixed _ fun j => fixPlane_unwritten _ (hunwritten _ _ (by decide) (by decide)))
    (tryCranes_fixed _ fun j => fixPark_unwritten _ (hunwritten _ _ (by decide) (by decide)))
    (fixReach_unwritten _ (hunwritten _ _ (by decide) (by decide)) (hunwritten _ _ (by decide) (by decide))) hreach
    (fixGap_unwritten s _ (hunwritten _ _ (by decide) (by decide)))
  rw [fixLength_unwritten p (writes_pair_eq_false (.inr fun he => ha (Fin.ext he.symm)) (.inl (by simp))), fixPositions_eq,
    boundedPlaces_length, if_neg ha]
  rfl

/-- A limit after a new rail length of its aisle: one at the old rail end moves with it, any other is taken into the rail. -/
def Reservation.resized (oldLen newLen : Int) : Reservation → Reservation
  | .homeSide y => .homeSide (if y = oldLen then newLen else max 0 (min y newLen))
  | r => r

theorem Reservation.within_withLength {oldLen newLen : Int} (h : 0 ≤ newLen) (r : Reservation) :
    (r.withLength oldLen newLen).within newLen = r.resized oldLen newLen := by
  unfold Reservation.withLength
  split
  · next hr =>
    subst hr
    simp only [Reservation.within, Reservation.resized, if_true]
    congr 1
    omega
  · next hr =>
    cases r with
    | homeSide y =>
      have hy : y ≠ oldLen := fun he => hr (by rw [he])
      simp only [Reservation.within, Reservation.resized, if_neg hy]
      congr 1
      omega
    | _ => rfl

/-- New values that leave the lane table and the channels alone change the parameters and the HOME_SIDE limits. -/
theorem takeParams_limits {l : List ConfigEntry} {new : Params} {s : State}
    (hlanes : new.bays = s.params.bays ∧ new.levels = s.params.levels ∧ new.laneDepth = s.params.laneDepth)
    (hcap : new.capacity = s.params.capacity)
    (hchannel : new.pitch = s.params.pitch ∧ new.edgeMode = s.params.edgeMode ∧ new.inverted = s.params.inverted) :
    takeParams l new s = boundLimits l (moveLimits l s.params { s with params := new }) := by
  have hparams : (moveLimits l s.params { s with params := new }).params = new := by
    rw [moveLimits, (changeLimits_spec ..).1]
  unfold takeParams
  dsimp only
  rw [rebuildLanes_same hlanes, clampFills_same hcap.ge, faultReconfigured_same]
  intro c
  rw [hparams]
  exact reconfigured_same hchannel c

/-- The HOME_SIDE limits of the aisles whose rail length a frame writes follow the new lengths (R108). -/
theorem boundLimits_moveLimits {l : List ConfigEntry} (old : Params) (s : State) 
    (hlen : ∀ a : Aisle, writes l 8 a.val = true → 0 ≤ s.params.railLength[a]) :
    let t := boundLimits l (moveLimits l old s)
    t = { s with rails := t.rails } ∧ ∀ c, t.rail c = if writes l 8 (aisleOf c).val then
      { s.rail c with reservation :=
          (s.rail c).reservation.resized old.railLength[aisleOf c] s.params.railLength[aisleOf c] } else s.rail c := by
  obtain ⟨hmove, hmoveRail⟩ := changeLimits_spec l
    (fun c => Reservation.withLength old.railLength[aisleOf c] s.params.railLength[aisleOf c]) s
  unfold boundLimits moveLimits
  generalize changeLimits l
    (fun c => Reservation.withLength old.railLength[aisleOf c] s.params.railLength[aisleOf c]) s = s1 at *
  have hparams : s1.params = s.params := by rw [hmove]
  obtain ⟨hbound, hboundRail⟩ := changeLimits_spec l (fun c => Reservation.within s1.params.railLength[aisleOf c]) s1
  generalize changeLimits l (fun c => Reservation.within s1.params.railLength[aisleOf c]) s1 = t at *
  refine ⟨?_, fun c => ?_⟩
  · rw [hbound, hmove]
  · rw [hboundRail, hmoveRail, hparams]
    split
    · next hc => rw [← Reservation.within_withLength (hlen _ hc)]
    · rfl

end

end Sys2Proof.Machine
end

section
open Sys2Proof Sys2Proof.Machine

/-- Settles O51: the consistency pass of R171 is followed step by step for each frame. -/
theorem configureRebuildsTheLanes : Obligations.ConfigureRebuildsTheLanes := by
  unfold Obligations.ConfigureRebuildsTheLanes
  refine ⟨?geometry, ?globals, ?pairs⟩
  case geometry =>
    intro s q h hk hs hlen hreach hw hwf hinst v P answer rebuilt
    have hrebuilt {w : Int} {new : Params} (hid : 1 ≤ wordAt q.body 0 ∧ wordAt q.body 0 ≤ 4)
        (hv : clampParam (wordAt q.body 0) v = w) (hnew : P.put (wordAt q.body 0) 0 w = new)
        (hget : new.get (wordAt q.body 0) 0 = w) (hsame : new.parkReach = P.parkReach ∧ new.parkClearance = P.parkClearance
          ∧ new.pitch = P.pitch ∧ new.edgeMode = P.edgeMode ∧ new.inverted = P.inverted)
        (hne : P.bays ≠ new.bays ∨ P.levels ≠ new.levels ∨ P.laneDepth ≠ new.laneDepth)
        (hcap : P.capacity ≤ new.capacity) : rebuilt w new := by
      have hexec := configure_geometry h hk hs hlen hreach hw hinst hid hv hnew hget hsame
      rw [rebuildLanes_changed hne hcap] at hexec
      exact ⟨_, hexec, fun _ => rfl, fun b => bin?_rebuilt hwf b, rfl⟩
    refine ⟨fun w hid hwv hne => hrebuilt (by omega) ?_ (by rw [hid]; rfl) ?_ ⟨rfl, rfl, rfl, rfl, rfl⟩ (.inl hne.symm) le_rfl,
      fun w hid hwv hne => hrebuilt (by omega) ?_ (by rw [hid]; rfl) ?_ ⟨rfl, rfl, rfl, rfl, rfl⟩ (.inr (.inl hne.symm)) le_rfl,
      fun w hid hwv hne => hrebuilt (by omega) ?_ (by rw [hid]; rfl) ?_ ⟨rfl, rfl, rfl, rfl, rfl⟩ (.inr (.inr hne.symm)) le_rfl,
      fun w hid hwv hlt => ?_⟩
    · rw [hid, hwv]; rfl
    · rw [hid]; exact Int.toNat_of_nonneg (by omega)
    · rw [hid, hwv]; rfl
    · rw [hid]; exact Int.toNat_of_nonneg (by omega)
    · rw [hid, hwv]; rfl
    · rw [hid]; exact Int.toNat_of_nonneg (by omega)
    · have hexec := configure_geometry (w := w) (new := { P with capacity := w.toNat }) h hk hs hlen hreach hw hinst (by omega)
        (by rw [hid, hwv]; rfl) (by rw [hid]; rfl) (by rw [hid]; exact Int.toNat_of_nonneg (by omega)) ⟨rfl, rfl, rfl, rfl, rfl⟩
      rw [clampFills_lowered (new := { P with capacity := w.toNat }) ⟨rfl, rfl, rfl⟩ hlt] at hexec
      exact ⟨_, hexec, fun b => bin?_mapped s (fun r => { r with fill := min r.fill w.toNat }) b, rfl⟩
  case globals =>
    intro s q n h hk hs hn hn8 hlen hreach rows id value last hrows
    have hrowsEq : rows = globalIds.map globalRow := rfl
    clear_value rows
    subst hrowsEq
    have hf (j) (hj : j < n) : (entryAt q.body j).id ∈ globalIds ∧ (entryAt q.body j).inst = 0 := by
      obtain ⟨⟨row, hrow, hid⟩, hinst⟩ := hrows j hj
      obtain ⟨i, hi, rfl⟩ := List.mem_map.1 hrow
      exact ⟨show id j ∈ globalIds from hid ▸ hi, hinst⟩
    have hexec := configure_globals h hk hs hlen hreach hf
    have hids (j) (hj : j < n) := (hf j hj).1
    set new := clampAll ((List.range n).map (entryAt q.body)) s.params with hnew
    have hlast {j} (hj : j < n) (hl : last j) :
        new.get (id j) 0 = max (paramRange (id j)).1 (min (value j) (paramRange (id j)).2) :=
      (clampAll_get_last hids s.params hj hl).trans (global_clamp (hids j hj) _)
    refine ⟨new, _, hexec.trans (congrArg Host.Outcome.next (congrArg (State.answered _ .c q _) (congrArg _ ?_))), ?_,
      global_rebuild (clampAll_blank hids s.params), ?_, ?_⟩
    · refine List.flatMap_congr fun j hj => ?_
      rw [global_find (show id j ∈ globalIds from hids j (List.mem_range.1 hj))]
      rfl
    · intro row hrow
      obtain ⟨i, hi, rfl⟩ := List.mem_map.1 hrow
      refine ⟨?_, fun hnone => clampAll_get_unwritten hids s.params hi hnone⟩
      rintro j hj hl rfl
      exact hlast hj hl
    · cases valueClamped new ((List.range n).map (entryAt q.body))
      · exact .inl rfl
      · exact .inr rfl
    · rw [okOrClamped_eq_ok, valueClamped_globals s.params hf]
      constructor
      · intro hall row hrow j hj hl hij
        obtain ⟨i, hi, rfl⟩ := List.mem_map.1 hrow
        obtain rfl : id j = i := hij
        exact hall j hj hl
      · intro hall j hj hl
        exact hall _ (List.mem_map_of_mem (hids j hj)) j hj hl rfl
  case pairs =>
    intro s q first w x h hk hs hlen hreach P i j v u pair entry answer taken inside far clear nearest
    have hentries {id inst id' inst' : Nat} (hp : pair id inst id' inst') :
        configEntries q.body = pairEntries first ⟨id, inst, v⟩ ⟨id', inst', u⟩ := by
      obtain ⟨rfl, rfl, rfl, rfl⟩ := hp
      exact configEntries_pair hlen first
    have hexec {id inst id' inst' : Nat} (hp : pair id inst id' inst') {new : Params} {t : State}
        (hne : id ≠ id') (hinst : inst < paramInstances id ∧ inst' < paramInstances id')
        (hwing : s.wing = .loading ∨ isGeometry id = false ∧ isGeometry id' = false)
        (hcons : consistent s (pairEntries first ⟨id, inst, v⟩ ⟨id', inst', u⟩) = some new) (hw : new.get id inst = w)
        (hx : new.get id' inst' = x) (htake : takeParams (pairEntries first ⟨id, inst, v⟩ ⟨id', inst', u⟩) new s = t)
        (ht : t.settled) : exec .configure s = .next (answer t) := by
      have hconf := configure_pair h hk (hentries hp) (fun he => hne he.1) hinst hwing hcons hw hx htake ht
      obtain ⟨rfl, rfl, rfl, rfl⟩ := hp
      exact hconf
    have htaken {id inst id' inst' : Nat} (hp : pair id inst id' inst') {new : Params} (hne : id ≠ id')
        (h8 : id ≠ 8 ∧ id' ≠ 8) (hinst : inst < paramInstances id ∧ inst' < paramInstances id')
        (hwing : s.wing = .loading ∨ isGeometry id = false ∧ isGeometry id' = false)
        (hcons : consistent s (pairEntries first ⟨id, inst, v⟩ ⟨id', inst', u⟩) = some new) (hw : new.get id inst = w)
        (hx : new.get id' inst' = x)
        (hchannel : new.pitch = P.pitch ∧ new.edgeMode = P.edgeMode ∧ new.inverted = P.inverted)
        (hlanes : new.bays = P.bays ∧ new.levels = P.levels ∧ new.laneDepth = P.laneDepth)
        (hcap : new.capacity = P.capacity) : taken new :=
      hexec hp hne hinst hwing hcons hw hx
        (takeParams_params (fun a => writes_pair_eq_false (.inl h8.1) (.inl h8.2)) hchannel hlanes hcap) hs
    refine ⟨?reach, ?loading⟩
    case reach =>
      rintro t b rfl rfl hp hwx
      simp only [far, ← lt_parkClearance] at hwx
      refine htaken hp (by decide) (by decide) (by decide) (.inr ⟨rfl, rfl⟩) (consistent_reach first ?_ hwx) rfl rfl
        ⟨rfl, rfl, rfl⟩ ⟨rfl, rfl, rfl⟩ rfl
      rcases hwx with ⟨-, rfl, hlt, -⟩ | ⟨rfl, -, -, -, hlt, -⟩ <;> exact hlt
    case loading =>
      intro hload k L hL
      refine ⟨?limits, ?planes, ?length⟩
      case limits =>
        intro hp hw hx
        exact htaken hp (by decide) (by decide) ⟨k.isLt, k.isLt⟩ (.inl hload) (consistent_limits hreach hw hx)
          ((Params.get_tmin ..).trans (get_set_same ..)) ((Params.get_tmax ..).trans (get_set_same ..))
          ⟨rfl, rfl, rfl⟩ ⟨rfl, rfl, rfl⟩ rfl
      case planes =>
        intro hp hw hx
        exact htaken hp (by decide) (by decide) ⟨k.isLt, k.isLt⟩ (.inl hload) (consistent_planes hreach hL hw hx)
          ((Params.get_planePos ..).trans (get_set_same ..)) ((Params.get_parkPos ..).trans (get_set_same ..))
          ⟨rfl, rfl, rfl⟩ ⟨rfl, rfl, rfl⟩ rfl
      case length =>
        intro hp hle hall hmax hx
        have h0 : 0 ≤ w := le_trans (by omega) hle
        set l := pairEntries first ⟨8, (aisleOf k).val, v⟩ ⟨9, k.val, u⟩ with hl
        set new : Params := { P with railLength := P.railLength.set (aisleOf k) w, stationPos := P.stationPos.set k x } with hnew
        have hwrites (a : Aisle) : writes l 8 a.val = true ↔ a = aisleOf k := by
          rw [hl, writes_pair]
          simp [Fin.ext_iff, eq_comm]
        have hnewLen : new.railLength[aisleOf k] = w := get_set_same ..
        have hlimits := boundLimits_moveLimits (l := l) P { s with params := new } fun a ha => by
          rw [(hwrites a).1 ha]
          exact h0.trans_eq hnewLen.symm
        dsimp only at hlimits
        rw [← takeParams_limits (new := new) (s := s) ⟨rfl, rfl, rfl⟩ rfl ⟨rfl, rfl, rfl⟩] at hlimits
        have hcons : consistent s l = some new := by
          rw [hl, consistent_length hreach hle hall hmax, show insideRail w u = x from hx.symm]
        generalize htake : takeParams l new s = t at hlimits
        obtain ⟨hframe, hrail⟩ := hlimits
        refine ⟨_, hexec hp (by decide) ⟨(aisleOf k).isLt, k.isLt⟩ (.inl hload) hcons
          ((Params.get_railLength ..).trans hnewLen) ((Params.get_stationPos ..).trans (get_set_same ..)) htake ?_, ?_,
          fun c => ?_⟩
        · rw [hframe]
          exact hs
        · exact congrArg answer hframe
        · by_cases hc : aisleOf c = aisleOf k
          · have hlens : P.railLength[aisleOf c] = L ∧ new.railLength[aisleOf c] = w :=
              ⟨congrArg (fun a : Aisle => P.railLength[a]) hc,
                (congrArg (fun a : Aisle => new.railLength[a]) hc).trans hnewLen⟩
            refine ((hrail c).trans (if_pos ((hwrites _).2 hc))).trans (congrArg (fun r => { s.rail c with reservation := r }) ?_)
            show (s.rail c).reservation.resized _ _ = _
            rw [hlens.1, hlens.2]
            cases (s.rail c).reservation <;> simp [Reservation.resized, hc]
          · refine ((hrail c).trans (if_neg (mt (hwrites _).1 hc))).trans
              (congrArg (fun r => { s.rail c with reservation := r }) (?_ : (s.rail c).reservation = _))
            cases (s.rail c).reservation <;> simp [hc]
end

section
namespace Sys2Proof.Machine

/-! ### A wing with no BLOCKED task (R67) -/

/-- No task of the table is BLOCKED. -/
def State.NoneBlocked (s : State) : Prop := ∀ e ∈ s.tasks.entries, e.2.state ≠ .blocked

theorem State.NoneBlocked.task {s : State} (h : s.NoneBlocked) {id : Nat} {t : Task} (ht : s.task? id = some t) :
    t.state ≠ .blocked := h _ (mem_of_lookupEntry ht)

theorem State.NoneBlocked.setTask {s : State} (h : s.NoneBlocked) (id : Nat) {t : Task} (ht : t.state ≠ .blocked) :
    (s.setTask id t).NoneBlocked := fun e he => by
  rcases mem_insertEntry he with rfl | he
  · exact ht
  · exact h e he

/-- With no BLOCKED task a re-examination does nothing. -/
theorem State.NoneBlocked.reexamine {s : State} (h : s.NoneBlocked) (p : Task → Bool) : reexamine p s = s := by
  have hnone : s.tasks.entries.filter (fun e => decide (e.2.state = .blocked) && p e.2) = [] :=
    List.filter_eq_nil_iff.2 fun e he => by simp [h e he]
  unfold Machine.reexamine
  rw [hnone]
  rfl

/-! ### What a pick does (R69, R72) -/

/-- A bin on a crane's fork after its pick (R8, R10). -/
def Bin.lifted (k : Crane) (r : Bin) : Bin := { r with place := .onCrane k, reference := true }

/-- A task after its pick from a lane (R72). -/
def Task.picked (t : Task) : Task :=
  { t with step := t.stepAfterPick, hold := if t.step = .relocPick then t.hold + 1 else 0 }

/-- The incoming count of a lane after a pick of a task from it (R72). -/
def Task.incomingAfterPick (t : Task) (n : Nat) : Nat := if t.step = .relocPick then n + 1 else n - t.hold

/-- A lane after a pick of a task from it (R8, R72). -/
def Lane.picked (t : Task) (l : Lane) : Lane :=
  { l with contents := l.contents.tail, incoming := t.incomingAfterPick l.incoming }

/-- The backlog after the head claim of a bin has left it (R31). -/
def Bin.outOf (r : Bin) (backlog : List Nat) : List Nat :=
  match r.chain with
  | [] => backlog
  | h :: _ => backlog.erase h

theorem State.modBin_eq {s : State} {b : Nat} {r : Bin} (h : s.bin? b = some r) (f : Bin → Bin) :
    s.modBin b f = s.setBin b (f r) := by
  unfold State.modBin
  rw [h]

/-- The bin taken from the front of a lane (R8). -/
theorem pickFromLane_eq {s : State} {b i : Nat} {r : Bin} (h : s.bin? b = some r) (k : Crane) :
    pickFromLane k b i s = (s.setBin b (r.lifted k)).modLane i (fun l => { l with contents := l.contents.erase b }) := by
  unfold pickFromLane
  rw [State.modBin_eq h]
  rfl

theorem leaveBacklog_eq {s : State} {b : Nat} {r : Bin} (h : s.bin? b = some r) :
    leaveBacklog b s = { s with backlog := r.outOf s.backlog } := by
  unfold leaveBacklog State.chainHead Bin.outOf
  rw [h, Option.bind_some]
  generalize r.chain = chain
  cases chain <;> rfl

section
variable {s : State} {k : Crane} {id b i : Nat} {t : Task} {r : Bin}

theorem takeSlots_frame (i n : Nat) (s : State) : TaskFrame s (takeSlots i n s) := taskFrame_taskSteps.incoming ..

/-- The task unit's frame of a pick from a lane, from the state that the bin has left. -/
theorem applyPick_lane_frame (hr : s.bin? b = some r) (hsource : t.source = some (.lane i)) :
    TaskFrame ((s.setBin b (r.lifted k)).modLane i (fun l => { l with contents := l.contents.erase b }))
      (applyPick k id t b s) := by
  have h := taskFrame_taskSteps
  unfold applyPick
  rw [hsource]
  dsimp only
  rw [pickFromLane_eq hr]
  refine h.trans ?_ (h.leaveBacklog ..)
  split
  · exact h.trans (takeSlots_frame ..) (h.task ..)
  · exact h.trans (h.trans (h.incoming ..) (h.task ..)) (h.laneSlotFreed ..)

theorem applyPick_lane_eq (hr : s.bin? b = some r) (hsource : t.source = some (.lane i))
    (hstep : t.step = .relocPick ∨ t.step = .pick) (hblocked : s.NoneBlocked) (ht : t.state ≠ .blocked) :
    applyPick k id t b s = leaveBacklog b
      ((((s.setBin b (r.lifted k)).modLane i (fun l => { l with contents := l.contents.erase b })).modLane i
        (fun l => { l with incoming := t.incomingAfterPick l.incoming })).setTask id t.picked) := by
  have hfree {v : State} {x : Task} (hx : x.state = t.state) (hv : v.tasks = s.tasks) :
      laneSlotFreed (v.setTask id x) = v.setTask id x :=
    ((show v.NoneBlocked by rw [State.NoneBlocked, hv]; exact hblocked).setTask id (hx.trans_ne ht)).reexamine _
  unfold applyPick
  rw [hsource]
  dsimp only
  rw [pickFromLane_eq hr]
  rcases hstep with hstep | hstep
  · simp [takeSlots, Task.incomingAfterPick, Task.picked, Task.stepAfterPick, hstep, hsource]
  · rw [if_neg (by simp [hstep]), hfree (by rfl) (by rfl)]
    simp [Task.incomingAfterPick, Task.picked, Task.stepAfterPick, hstep, hsource]

/-- A pick from a lane with no BLOCKED task to re-examine (R69, R72). -/
theorem applyPick_lane (hr : s.bin? b = some r) (hsource : t.source = some (.lane i))
    (hstep : t.step = .relocPick ∨ t.step = .pick) (hfront : (s.lane i).contents.head? = some b) (hblocked : s.NoneBlocked)
    (ht : t.state ≠ .blocked) :
    let u := applyPick k id t b s
    (∀ c, u.bin? c = if c = b then some (r.lifted k) else s.bin? c)
    ∧ (∀ j, u.lane j = if j = i then (s.lane i).picked t else s.lane j)
    ∧ (∀ j, u.task? j = if j = id then some t.picked else s.task? j)
    ∧ u = { s with bins := u.bins, lanes := u.lanes, tasks := u.tasks, backlog := r.outOf s.backlog } := by
  rw [applyPick_lane_eq hr hsource hstep hblocked ht]
  set v := ((s.setBin b (r.lifted k)).modLane i (fun l => { l with contents := l.contents.erase b })).modLane i
    (fun l => { l with incoming := t.incomingAfterPick l.incoming }) with hv
  have hbin (c) : v.bin? c = if c = b then some (r.lifted k) else s.bin? c := State.bin?_setBin ..
  have hlane (j) : v.lane j = if j = i then (s.lane i).picked t else s.lane j := by
    by_cases hj : j = i
    · subst hj
      rw [hv, State.lane_modLane_self, State.lane_modLane_self, if_pos rfl]
      obtain ⟨rest, hrest⟩ : ∃ rest, (s.lane j).contents = b :: rest := List.head?_eq_some_iff.1 hfront
      rw [show (s.setBin b (r.lifted k)).lane j = s.lane j from rfl, hrest, List.erase_cons_head]
      simp [Lane.picked, hrest]
    · rw [hv, State.lane_modLane_other _ hj, State.lane_modLane_other _ hj, if_neg hj]
      rfl
  have hframe : v = { s with bins := v.bins, lanes := v.lanes } := rfl
  clear_value v
  dsimp only
  rw [leaveBacklog_eq (s := v.setTask id t.picked) (r := r.lifted k) ((hbin b).trans (if_pos rfl))]
  refine ⟨hbin, hlane, fun j => ?_, ?_⟩
  · rw [hframe]
    exact Table.find?_insert ..
  · rw [hframe]
    rfl

/-- A station whose position has been picked (R8). -/
def Station.emptied (p : Pos) (st : Station) : Station := { st with bins := st.bins.set p none }

variable {p : Pos}

theorem applyPick_station_eq (hr : s.bin? b = some r) (hsource : t.source = some (.station p)) :
    applyPick k id t b s = leaveBacklog b (positionFreed k
      (((s.setTask id { t with step := .set }).setBin b (r.lifted k)).modStation k (Station.emptied p))) := by
  unfold applyPick
  rw [hsource]
  dsimp only
  unfold pickFromStation
  rw [State.modBin_eq (s := s.setTask id _) hr]
  simp only [← hsource]
  rfl

/-- The task unit's frame of a pick at a station, from the state that the bin has left. -/
theorem applyPick_station_frame (hr : s.bin? b = some r) (hsource : t.source = some (.station p)) :
    TaskFrame ((s.setBin b (r.lifted k)).modStation k (Station.emptied p)) (applyPick k id t b s) := by
  have h := taskFrame_taskSteps
  rw [applyPick_station_eq hr hsource]
  exact h.trans (h.trans (.of_tasks rfl) (h.positionFreed ..)) (h.leaveBacklog ..)

/-- A pick at a station with no BLOCKED task to re-examine (R69). -/
theorem applyPick_station (hr : s.bin? b = some r) (hsource : t.source = some (.station p)) (hblocked : s.NoneBlocked)
    (ht : t.state ≠ .blocked) :
    let u := applyPick k id t b s
    (∀ c, u.bin? c = if c = b then some (r.lifted k) else s.bin? c)
    ∧ (∀ j, u.station j = if j = k then (s.station k).emptied p else s.station j)
    ∧ (∀ j, u.task? j = if j = id then some { t with step := .set } else s.task? j)
    ∧ u = { s with bins := u.bins, stations := u.stations, tasks := u.tasks, backlog := r.outOf s.backlog } := by
  rw [applyPick_station_eq hr hsource]
  set v := ((s.setTask id { t with step := .set }).setBin b (r.lifted k)).modStation k (Station.emptied p) with hv
  have hfreed : positionFreed k v = v :=
    (show v.NoneBlocked from hblocked.setTask id (t := { t with step := .set }) ht).reexamine _
  have hbin (c) : v.bin? c = if c = b then some (r.lifted k) else s.bin? c := State.bin?_setBin ..
  rw [hfreed]
  dsimp only
  rw [leaveBacklog_eq (r := r.lifted k) ((hbin b).trans (if_pos rfl))]
  refine ⟨hbin, fun j => ?_, fun j => Table.find?_insert .., rfl⟩
  show v.station j = _
  rw [hv, State.station_modStation]
  by_cases hj : k = j
  · subst hj
    rw [if_pos rfl, if_pos rfl]
    rfl
  · rw [if_neg hj, if_neg (Ne.symm hj)]
    rfl

/-! ### The checks of a pick (R69) -/

/-- A task's source as the place where its crane works (R63). -/
def Source.dest : Source → Dest
  | .lane i => .lane i
  | .station p => .station p

theorem place_of_pick (hstep : t.step = .relocPick ∨ t.step = .pick) {src : Source} (hsource : t.source = some src) :
    t.place = some src.dest := by
  unfold Task.place
  rcases hstep with h | h <;> rw [h, hsource] <;> rfl

theorem pickPasses_lane (hstep : t.step = .relocPick ∨ t.step = .pick) (hfork : s.fork k = none)
    (hbin : t.stepBin = some b) (hsource : t.source = some (.lane i)) (hfront : (s.lane i).contents.head? = some b)
    (hr : s.bin? b = some r) (hplace : r.place = .stored i) (hvalid : (s.channel k).pick.valid = true)
    (hnear : (((s.channel k).pick.pos - s.params.bayMm (s.params.laneAisle i) (s.params.laneBay i)).natAbs : Int)
      ≤ s.params.tPick) : s.pickPasses k t b = true := by
  have hlane : s.withinPick (s.channel k).pick.pos (s.placeMm k (Source.lane i).dest) = true := decide_eq_true hnear
  have hsteps : (decide (t.step = .relocPick) || decide (t.step = .pick)) = true := by simpa using hstep
  have hat : s.atSource k t b = true := by simp [State.atSource, hsource, hfront, hr, hplace]
  unfold State.pickPasses
  rw [hsteps, hat, place_of_pick hstep hsource]
  simp [hfork, hbin, hvalid, hlane]

theorem pickPasses_station (hstep : t.step = .pick) (hfork : s.fork k = none) (hbin : t.bin = some b)
    (hsource : t.source = some (.station p)) (hat : (s.station k).bins[p] = some b) (hr : s.bin? b = some r)
    (hplace : r.place = .atStation k p) (hvalid : (s.channel k).pick.valid = true)
    (hnear : (((s.channel k).pick.pos - s.params.stationPos[k]).natAbs : Int) ≤ s.params.tPick) :
    s.pickPasses k t b = true := by
  have hstation : s.withinPick (s.channel k).pick.pos (s.placeMm k (Source.station p).dest) = true := decide_eq_true hnear
  have hsteps : (decide (t.step = .relocPick) || decide (t.step = .pick)) = true := by simp [hstep]
  have hstepBin : t.stepBin = some b := by simp [Task.stepBin, hstep, hbin]
  have hsrc : s.atSource k t b = true := by
    unfold State.atSource
    rw [hsource]
    simpa [hr, hplace] using hat
  unfold State.pickPasses
  rw [hsteps, hsrc, place_of_pick (.inr hstep) hsource]
  simp [hfork, hstepBin, hvalid, hstation]

theorem judgedTask_active (hmark : (s.crane k).undelivered = .none ∨ (s.crane k).undelivered = .redirect)
    (ha : (s.crane k).active = some id) : s.judgedTask k = some id := by
  unfold State.judgedTask
  rcases hmark with h | h <;> rw [h] <;> exact ha

theorem judgedTask_stack {rest : List Nat} (hmark : (s.crane k).undelivered = .push ∨ (s.crane k).undelivered = .parkPush)
    (hstack : (s.crane k).stack = id :: rest) : s.judgedTask k = some id := by
  unfold State.judgedTask
  rcases hmark with h | h <;> rw [h, hstack] <;> rfl

variable {q : Request} (h : s.hasRequest (.k k) q) (hk : q.kind = .picked) (hb : wordAt q.body 0 = b)
  (hjudged : s.judgedTask k = some id) (ht : s.task? id = some t) (hpass : s.pickPasses k t b = true)
include h hk hb hjudged ht hpass

/-- PICKED outside a marker PUSH is applied to the judged task (R69). -/
theorem execPicked_plain (hpush : (s.crane k).undelivered ≠ .push) : exec (.picked k) s = .next
    ((settle (applyPick k id t b (consumePick k s))).answered (.k k) q .ok (put8 t.stepAfterPick.code)) := by
  refine congrArg Host.Outcome.next (take_eq_answered h hk rfl ?_)
  unfold servePicked
  rw [hjudged, Option.bind_some, ht, Option.map_some, hb]
  dsimp only
  rw [decide_eq_false hpush, hpass, if_pos (by simp), if_neg (by simp)]
  have ht' : (consumePick k s).task? id = some t := ht
  rw [ht', Option.getD_some]

/-- PICKED under a marker PUSH in NORMAL reverses the preemption before it is applied (R69, R77). -/
theorem execPicked_push (hpush : (s.crane k).undelivered = .push) (hnormal : s.normal (aisleOf k) = true) {t' : Task}
    (ht' : (reversePush k (consumePick k s)).task? id = some t') : exec (.picked k) s = .next
      ((settle (applyPick k id t' b (reversePush k (consumePick k s)))).answered (.k k) q .ok
        (put8 t.stepAfterPick.code)) := by
  refine congrArg Host.Outcome.next (take_eq_answered h hk rfl ?_)
  unfold servePicked
  rw [hjudged, Option.bind_some, ht, Option.map_some, hb]
  dsimp only
  rw [decide_eq_true hpush, hpass, hnormal, if_pos (by simp), if_pos rfl, ht', Option.getD_some]

end

end Sys2Proof.Machine
end

section
namespace Sys2Proof.Machine

/-! ### Giving back slots and promises with no BLOCKED task (R5, R23) -/

/-- A state whose lanes have given back incoming slots, and nothing else. -/
structure State.GivesSlots (s u : State) (n : Nat → Nat) : Prop where
  lane : ∀ j, u.lane j = { s.lane j with incoming := (s.lane j).incoming - n j }
  frame : u = { s with lanes := u.lanes }

theorem State.GivesSlots.refl (s : State) : s.GivesSlots s (fun _ => 0) := ⟨fun _ => rfl, rfl⟩

theorem State.GivesSlots.trans {s u v : State} {n m : Nat → Nat} (h : s.GivesSlots u n) (g : u.GivesSlots v m) :
    s.GivesSlots v (fun j => n j + m j) :=
  ⟨fun j => by rw [g.lane, h.lane, Nat.sub_add_eq], by rw [g.frame, h.frame]⟩

theorem State.GivesSlots.noneBlocked {s u : State} {n : Nat → Nat} (h : s.GivesSlots u n) (hb : s.NoneBlocked) :
    u.NoneBlocked := by rw [h.frame]; exact hb

theorem State.GivesSlots.congr {s u : State} {n m : Nat → Nat} (h : s.GivesSlots u n) (hn : ∀ j, n j = m j) :
    s.GivesSlots u m := funext hn ▸ h

theorem slotsIn_fetch {t : Task} (hkind : t.kind = .fetch) (hstate : t.state = .active) (hredirect : t.redirect = none) (j : Nat) :
    t.slotsIn j = t.unfinished.countP (fun e => e.2 == j) + if t.sourceLane = some j then t.hold else 0 := by
  unfold Task.slotsIn Task.slotGivenUp Task.atWork
  rw [hkind]
  simp [hstate, hredirect]

theorem slotsIn_stow {t : Task} (hkind : t.kind = .stow) (hstate : t.state = .active) (hredirect : t.redirect = none) (j : Nat) :
    t.slotsIn j = if t.destLane = some j then 1 else 0 := by
  unfold Task.slotsIn Task.slotGivenUp Task.atWork
  rw [hkind]
  simp [hstate, hredirect]

section
variable {s : State} (hb : s.NoneBlocked)
include hb

theorem releaseSlots_gives (i n : Nat) : s.GivesSlots (releaseSlots i n s) (fun j => if j = i then n else 0) := by
  unfold releaseSlots
  split
  · next h0 => exact (State.GivesSlots.refl s).congr fun j => by simp [h0]
  · rw [show laneSlotFreed _ = _ from
      State.NoneBlocked.reexamine (show (s.modLane i fun l => { l with incoming := l.incoming - n }).NoneBlocked from hb) _]
    refine ⟨fun j => ?_, rfl⟩
    by_cases hj : j = i
    · subst hj
      rw [State.lane_modLane_self, if_pos rfl]
    · rw [State.lane_modLane_other _ hj, if_neg hj]
      rfl

theorem releaseEntries_gives (l : List (Nat × Nat)) :
    s.GivesSlots (releaseEntries l s) (fun j => l.countP (fun e => e.2 == j)) := by
  induction l generalizing s with
  | nil => exact .refl s
  | cons e t ih =>
    have h := releaseSlots_gives hb e.2 1
    refine (h.trans (ih (h.noneBlocked hb))).congr fun j => ?_
    rw [List.countP_cons, add_comm]
    by_cases hj : j = e.2
    · simp [hj]
    · simp [hj, Ne.symm hj]

theorem releaseHold_gives (t : Task) :
    s.GivesSlots (releaseHold t s) (fun j => if t.sourceLane = some j then t.hold else 0) := by
  unfold releaseHold
  cases hsource : t.sourceLane with
  | none => exact (State.GivesSlots.refl s).congr fun j => by simp
  | some i => exact (releaseSlots_gives hb i t.hold).congr fun j => by simp [eq_comm]

/-- The positions promised to a task that gives its promise up (R23). -/
theorem releasePromise_spec (k : Crane) (id : Nat) :
    let u := releasePromise k id s
    (∀ (j : Crane) (p : Pos), (u.station j).promises[p] =
      if j = k ∧ (s.station k).promises[p] = some id then none else (s.station j).promises[p])
    ∧ (∀ j, u.station j = { s.station j with promises := (u.station j).promises })
    ∧ u = { s with stations := u.stations } := by
  by_cases hany : allPos.any (fun p => decide ((s.station k).promises[p] = some id)) = true
  · have hu : releasePromise k id s = s.modStation k (fun st =>
        { st with promises := st.promises.map (fun o => if o = some id then none else o) }) :=
      (if_pos hany).trans (State.NoneBlocked.reexamine (s := State.modStation _ _ _) hb _)
    rw [hu]
    refine ⟨fun j p => ?_, fun j => ?_, rfl⟩
    · rw [State.station_modStation]
      by_cases hj : k = j
      · subst hj
        simp
      · rw [if_neg hj, if_neg (fun h => hj h.1.symm)]
    · rw [State.station_modStation]
      split
      · next h => subst h; rfl
      · rfl
  · rw [show releasePromise k id s = s from if_neg hany]
    refine ⟨fun j p => ?_, fun j => rfl, rfl⟩
    rw [if_neg]
    rintro ⟨-, hp⟩
    refine hany (List.any_eq_true.2 ⟨p, ?_, by simpa using hp⟩)
    fin_cases p <;> simp [allPos]

/-- What a task that has not picked gives back when a reversal returns it to the queue (R5, R77). -/
theorem giveBack_spec (id : Nat) {t : Task} (hkind : t.kind = .fetch ∨ t.kind = .stow) (hstate : t.state = .active)
    (hredirect : t.redirect = none) :
    let u := giveBack id t s
    (∀ j, u.lane j = { s.lane j with incoming := (s.lane j).incoming - t.slotsIn j })
    ∧ (∀ (j : Crane) (p : Pos), (u.station j).promises[p] =
      if j = t.crane ∧ t.kind = .fetch ∧ (s.station t.crane).promises[p] = some id then none else (s.station j).promises[p])
    ∧ (∀ j, u.station j = { s.station j with promises := (u.station j).promises })
    ∧ u = { s with lanes := u.lanes, stations := u.stations } := by
  unfold giveBack
  rcases hkind with hkind | hkind
  · obtain ⟨hpromise, hstation, hframe⟩ := releasePromise_spec hb t.crane id
    rw [hkind]
    dsimp only
    generalize releasePromise t.crane id s = w at hpromise hstation hframe
    have hw : w.NoneBlocked := by rw [hframe]; exact hb
    have hentries := releaseEntries_gives hw t.unfinished
    have hgives := hentries.trans (releaseHold_gives (hentries.noneBlocked hw) t)
    generalize releaseHold t (releaseEntries t.unfinished w) = u at hgives
    obtain ⟨hlane, hu⟩ := hgives
    have hkeep (j) : u.station j = w.station j := by rw [hu]; rfl
    refine ⟨fun j => ?_, fun j p => ?_, fun j => ?_, ?_⟩
    · rw [hlane, slotsIn_fetch hkind hstate hredirect]
      have : w.lane j = s.lane j := by rw [hframe]; rfl
      rw [this]
    · rw [hkeep, hpromise]
      simp
    · rw [hkeep, hstation]
    · rw [hu, hframe]
  · rw [hkind]
    dsimp only
    have hgives : s.GivesSlots (t.destLane.elim s (fun i => releaseSlots i 1 s)) (fun j => if t.destLane = some j then 1 else 0) := by
      cases hd : t.destLane with
      | none => exact (State.GivesSlots.refl s).congr fun j => by simp
      | some i => exact (releaseSlots_gives hb i 1).congr fun j => by simp [eq_comm]
    generalize t.destLane.elim s (fun i => releaseSlots i 1 s) = u at hgives
    obtain ⟨hlane, hu⟩ := hgives
    have hkeep (j) : u.station j = s.station j := by rw [hu]; rfl
    refine ⟨fun j => ?_, fun j p => ?_, fun j => ?_, ?_⟩
    · rw [hlane, slotsIn_stow hkind hstate hredirect]
    · rw [hkeep]
      simp
    · rw [hkeep]
    · rw [hu]

end

theorem State.task?_setTask (s : State) (id j : Nat) (t : Task) :
    (s.setTask id t).task? j = if j = id then some t else s.task? j := Table.find?_insert ..

theorem State.modCrane_congr {s : State} {k : Crane} {f g : CraneTasks → CraneTasks} (h : f (s.crane k) = g (s.crane k)) :
    s.modCrane k f = s.modCrane k g := by
  unfold State.modCrane
  rw [show f s.cranes[k] = g s.cranes[k] from h]

/-! ### The reversal of a preemption (R77) -/

/-- A task that a reversal returns to the queue (R77, log 46). -/
def Task.returned (t : Task) : Task :=
  { t with state := .queued, dest := none, dig := [], digLeft := 0, hold := 0, step := .pick, yield := none,
           source := if t.kind = .fetch then none else t.source }

theorem claimFetching_same {s : State} {c : Nat} (h : ∀ x ∈ s.claim? c, x.state = .fetching) : claimFetching c s = s := by
  unfold claimFetching
  cases hx : s.claim? c with
  | none => rfl
  | some x => exact if_neg (by simp [h x hx])

/-- A suspended task whose claim is FETCHING, or that has none, becomes ACTIVE again with no other effect. -/
theorem resumeTask_eq {s : State} {id : Nat} {t : Task} (ht : s.task? id = some t)
    (hclaim : t.kind = .fetch → ∀ c ∈ t.claim, ∀ x ∈ s.claim? c, x.state = .fetching) :
    resumeTask id s = s.setTask id { t with state := .active } := by
  unfold resumeTask
  rw [State.modTask_eq ht]
  dsimp only
  rw [State.task?_setTask_self]
  dsimp only
  split
  · next hkind =>
    cases hc : t.claim with
    | none => rfl
    | some c =>
      exact claimFetching_same (hclaim hkind c hc)
  · rfl

/-- The reversal of a preemption by a FETCH or STOW that is alone at work over the suspended task, with no BLOCKED task. -/
theorem reversePush_spec {s : State} {k : Crane} {new old : Nat} {rest : List Nat} {t o : Task} (hb : s.NoneBlocked)
    (ha : (s.crane k).active = some new) (hstack : (s.crane k).stack = old :: rest) (hq : (s.crane k).queue = [])
    (hne : new ≠ old) (ht : s.task? new = some t) (ho : s.task? old = some o) (hk : t.crane = k)
    (hkind : t.kind = .fetch ∨ t.kind = .stow) (hstate : t.state = .active) (hredirect : t.redirect = none)
    (hclaim : o.kind = .fetch → ∀ c ∈ o.claim, ∀ x ∈ s.claim? c, x.state = .fetching) :
    let u := reversePush k s
    (∀ j, u.task? j = if j = old then some { o with state := .active } else if j = new then some t.returned else s.task? j)
    ∧ u.crane k = { s.crane k with active := some old, stack := rest, queue := [new], undelivered := .none }
    ∧ (∀ j, j ≠ k → u.crane j = s.crane j)
    ∧ (∀ j, u.lane j = { s.lane j with incoming := (s.lane j).incoming - t.slotsIn j })
    ∧ (∀ (j : Crane) (p : Pos), (u.station j).promises[p] =
      if j = k ∧ t.kind = .fetch ∧ (s.station k).promises[p] = some new then none else (s.station j).promises[p])
    ∧ (∀ j, u.station j = { s.station j with promises := (u.station j).promises })
    ∧ u.NoneBlocked
    ∧ u = { s with tasks := u.tasks, cranes := u.cranes, lanes := u.lanes, stations := u.stations, due := s.due.set k true } := by
  set v := ((s.setTask new t.returned).setTask old { o with state := .active }).modCrane k (fun c =>
    { c with active := some old, stack := rest, queue := [new], undelivered := .none }) with hv
  have heq : reversePush k s = markDue k (giveBack new t v) := by
    have ho' : (s.setTask new t.returned).task? old = some o := (State.task?_setTask_other s (Ne.symm hne) _).trans ho
    unfold reversePush
    rw [ha, hstack]
    dsimp only
    rw [ht]
    dsimp only
    show markDue k (giveBack new t ((resumeTask old (s.setTask new t.returned)).modCrane k _)) = _
    rw [resumeTask_eq ho' hclaim]
    refine congrArg (markDue k) (congrArg (giveBack new t) (State.modCrane_congr ?_))
    have hcrane : (((s.setTask new t.returned).setTask old { o with state := .active }).crane k).queue = [] := hq
    rw [hcrane]
    rfl
  have hvblocked : v.NoneBlocked :=
    (hb.setTask new (t := t.returned) (by simp [Task.returned])).setTask old (t := { o with state := .active }) (by simp)
  have hvtask (j) : v.task? j =
      if j = old then some { o with state := .active } else if j = new then some t.returned else s.task? j := by
    show ((s.setTask new t.returned).setTask old { o with state := .active }).task? j = _
    rw [State.task?_setTask, State.task?_setTask]
  obtain ⟨hlane, hpromise, hstation, hframe⟩ := giveBack_spec hvblocked new hkind hstate hredirect
  rw [heq]
  generalize giveBack new t v = u at hlane hpromise hstation hframe
  have hcrane (j) : u.crane j = v.crane j := by rw [hframe]; rfl
  have htask (j) : u.task? j = v.task? j := by rw [hframe]; rfl
  refine ⟨fun j => (htask j).trans (hvtask j), ?_, fun j hj => ?_, hlane, ?_, hstation, ?_, ?_⟩
  · refine (hcrane k).trans ?_
    rw [hv, State.crane_modCrane_self]
    rfl
  · refine (hcrane j).trans ?_
    rw [hv, State.crane_modCrane_other _ (Ne.symm hj)]
    rfl
  · rw [← hk]
    exact hpromise
  · show u.NoneBlocked
    rw [hframe]
    exact hvblocked
  · show _ = { s with tasks := u.tasks, cranes := u.cranes, lanes := u.lanes, stations := u.stations, due := s.due.set k true }
    rw [hframe]
    rfl

/-- A test whose one candidate does not preempt leaves the room refusal flag as it is or clears it. -/
theorem settle_held {s : State} {k : Crane} {new old : Nat} {x y : Task} (hs : s.owesOnly k) (hq : (s.crane k).queue = [new])
    (ha : (s.crane k).active = some old) (hx : s.task? new = some x) (hy : s.task? old = some y) (hcls : x.cls < y.cls)
    (himm : x.immediate = false) (hstep : y.step = .relocSet ∨ y.step = .set) :
    (∀ j, (settle s).crane j = { s.crane j with roomRefusal := ((settle s).crane j).roomRefusal })
    ∧ (∀ j, j ≠ k → (settle s).crane j = s.crane j)
    ∧ settle s = { s with due := (settle s).due, cranes := (settle s).cranes } := by
  have hbound : (x.immediate || s.undue.atBoundary k y) = false := by
    have : s.undue.atBoundary k y = false := by
      unfold State.atBoundary
      rcases hstep with h | h <;> simp [h]
    rw [himm, this]
    rfl
  by_cases helig : s.undue.eligibleId new = true
  · have htest : TestOf k [] s.undue new x old y := by
      refine ⟨?_, hx, ha, hy⟩
      show (s.crane k).queue.find? _ = _
      rw [hq]
      simp [helig]
    have heq := preemptTest_eq htest
    rw [if_pos hcls, if_neg (by rw [hbound]; simp)] at heq
    rw [show settle s = s.undue from settleTests_test hs heq s.undue_settled]
    exact ⟨fun _ => rfl, fun _ _ => rfl, rfl⟩
  · have heq : preemptTest k [] s.undue = (s.undue.modCrane k (fun c => { c with roomRefusal := false }), []) := by
      refine preemptTest_noCandidate ?_
      show (s.crane k).queue.find? _ = _
      rw [hq]
      simp [helig]
    rw [show settle s = s.undue.modCrane k (fun c => { c with roomRefusal := false }) from
      settleTests_test hs heq s.undue_settled]
    refine ⟨fun j => ?_, fun j hj => State.crane_modCrane_other _ (Ne.symm hj) _, rfl⟩
    rw [State.crane_modCrane]
    split
    · next h => subst h; rfl
    · rfl

end Sys2Proof.Machine
end

section
namespace Sys2Proof.Machine

theorem consumePick_channel (k j : Crane) (s : State) : (consumePick k s).channel j =
    if j = k then { s.channel k with pick := { (s.channel k).pick with valid := false } } else s.channel j := by
  unfold consumePick
  rw [State.channel_modChannel]
  by_cases h : k = j
  · subst h; simp
  · rw [if_neg h, if_neg (Ne.symm h)]

theorem answered_slot (s : State) (p : Port) (q : Request) (st : Status) (body : List Byte) :
    ((s.answered p q st body).port p).slot = .holding ⟨st, BitVec.ofNat 8 q.kind.code, q.tag, body⟩ := by
  simp [State.answered]

end Sys2Proof.Machine

open Sys2Proof Sys2Proof.Machine

/-- Settles O30: a pick is the bin's move and the task's next step; under PUSH the reversal comes first, and the test that it
owes finds a candidate that does not preempt. -/
theorem pickedTakesTheBin : Obligations.PickedTakesTheBin := by
  unfold Obligations.PickedTakesTheBin
  refine ⟨?lane, ?station, ?laneUnder, ?stationUnder⟩
  case lane =>
    intro s k q id b i t r h hk hs hb hmark ha ht hstep hfork hbin hsource hfront hr hplace hvalid hnear new
    have hpush : (s.crane k).undelivered ≠ .push := by rcases hmark with h | h <;> simp [h]
    have hexec := execPicked_plain h hk hb (judgedTask_active hmark ha) ht
      (pickPasses_lane hstep hfork hbin hsource hfront hr hplace hvalid hnear) hpush
    have hf : TaskFrame _ (settle (applyPick k id t b (consumePick k s))) :=
      taskFrame_taskSteps.trans (applyPick_lane_frame (s := consumePick k s) hr hsource) (settle_frame _)
    have hblocked (hb : s.NoneBlocked) := applyPick_lane (s := consumePick k s) (k := k) (id := id) hr hsource hstep hfront hb
      (hb.task ht)
    have hu (hb : s.NoneBlocked) : settle (applyPick k id t b (consumePick k s)) = applyPick k id t b (consumePick k s) := by
      obtain ⟨-, -, -, hu⟩ := hblocked hb
      refine settle_of_settled ?_
      rw [hu]
      exact hs
    generalize settle (applyPick k id t b (consumePick k s)) = u at hexec hf hu
    have hcontents (j) : (u.lane j).contents = if j = i then (s.lane i).contents.tail else (s.lane j).contents := by
      rw [hf.contents]
      by_cases hj : j = i
      · subst hj
        obtain ⟨rest, hrest⟩ : ∃ rest, (s.lane j).contents = b :: rest := List.head?_eq_some_iff.1 hfront
        rw [if_pos rfl, State.lane_modLane_self]
        show (s.lane j).contents.erase b = _
        rw [hrest, List.erase_cons_head, List.tail_cons]
      · rw [if_neg hj, State.lane_modLane_other _ hj]
        rfl
    refine ⟨_, hexec, (hf.bin? b).trans ((State.bin?_setBin ..).trans (if_pos rfl)),
      fun c hc => (hf.bin? c).trans ((State.bin?_setBin ..).trans (if_neg hc)), hcontents,
      (hf.channel k).trans ((consumePick_channel k k s).trans (if_pos rfl)),
      fun j hj => (hf.channel j).trans ((consumePick_channel k j s).trans (if_neg hj)), ?_,
      hf.rails, hf.fires, hf.shutters, hf.search, hf.sweep, hf.wing, hf.params, hf.wingTime, hf.pending, fun hb => ?_⟩
    · exact answered_slot ..
    · obtain ⟨-, hlane, htask, hframe⟩ := hblocked hb
      rw [← hu hb] at hlane htask hframe
      have hkeep (j) : (consumePick k s).lane j = s.lane j := rfl
      refine ⟨(htask id).trans (if_pos rfl), fun j hj => (htask j).trans (if_neg hj), ?_, fun j hj => ?_, ?_⟩
      · exact congrArg Lane.incoming ((hlane i).trans (if_pos rfl))
      · exact (hlane j).trans (if_neg hj)
      · refine (congrArg (fun v => State.answered v (.k k) q .ok (put8 new.code)) hframe).trans ?_
        show _ = State.answered { s with
          bins := u.bins, lanes := u.lanes, tasks := u.tasks, channels := u.channels, backlog := r.outOf s.backlog } _ _ _ _
        rw [hf.channels]
        rfl
  case station =>
    intro s k q id b p t r h hk hs hb hmark ha ht hstep hfork hbin hsource hat hr hplace hvalid hnear
    have hpush : (s.crane k).undelivered ≠ .push := by rcases hmark with h | h <;> simp [h]
    have hexec := execPicked_plain h hk hb (judgedTask_active hmark ha) ht
      (pickPasses_station hstep hfork hbin hsource hat hr hplace hvalid hnear) hpush
    have hafter : t.stepAfterPick = .set := by simp [Task.stepAfterPick, hstep]
    have hf : TaskFrame _ (settle (applyPick k id t b (consumePick k s))) :=
      taskFrame_taskSteps.trans (applyPick_station_frame (s := consumePick k s) hr hsource) (settle_frame _)
    have hblocked (hb : s.NoneBlocked) := applyPick_station (s := consumePick k s) (k := k) (id := id) hr hsource hb (hb.task ht)
    have hu (hb : s.NoneBlocked) : settle (applyPick k id t b (consumePick k s)) = applyPick k id t b (consumePick k s) := by
      obtain ⟨-, -, -, hu⟩ := hblocked hb
      refine settle_of_settled ?_
      rw [hu]
      exact hs
    rw [hafter] at hexec
    generalize settle (applyPick k id t b (consumePick k s)) = u at hexec hf hu
    have hbins (j) : (u.station j).bins = if j = k then (s.station k).bins.set p none else (s.station j).bins := by
      rw [hf.stationBins]
      by_cases hj : j = k
      · subst hj
        rw [if_pos rfl, State.station_modStation_self]
        rfl
      · rw [if_neg hj, State.station_modStation_other _ (Ne.symm hj)]
        rfl
    refine ⟨_, hexec, (hf.bin? b).trans ((State.bin?_setBin ..).trans (if_pos rfl)),
      fun c hc => (hf.bin? c).trans ((State.bin?_setBin ..).trans (if_neg hc)), hbins,
      (hf.channel k).trans ((consumePick_channel k k s).trans (if_pos rfl)),
      fun j hj => (hf.channel j).trans ((consumePick_channel k j s).trans (if_neg hj)), answered_slot ..,
      hf.rails, hf.fires, hf.shutters, hf.search, hf.sweep, hf.wing, hf.params, hf.wingTime, hf.pending, fun hb => ?_⟩
    obtain ⟨-, hstation, htask, hframe⟩ := hblocked hb
    rw [← hu hb] at hstation htask hframe
    refine ⟨(htask id).trans (if_pos rfl), fun j hj => (htask j).trans (if_neg hj), fun j => ?_, ?_⟩
    · show u.station j = { s.station j with bins := (u.station j).bins }
      rw [hstation]
      by_cases hj : j = k
      · subst hj
        rw [if_pos rfl]
        rfl
      · rw [if_neg hj]
        rfl
    · refine (congrArg (fun v => State.answered v (.k k) q .ok (put8 TaskStep.set.code)) hframe).trans ?_
      show _ = State.answered { s with bins := u.bins, stations := u.stations, tasks := u.tasks, channels := u.channels,
                                        backlog := r.outOf s.backlog } _ _ _ _
      rw [hf.channels]
      rfl
  case laneUnder =>
    intro s k q new old b i t o r rest h hk hs hb hback ha hstack hq hne ht ho htk hok hcls hstate hredirect hclaim hblocked
      hstep hyield hfork hbin hsource hfront hr hplace hvalid hnear step picked taken
    have hpass := pickPasses_lane hstep hfork hbin hsource hfront hr hplace hvalid hnear
    refine ⟨fun hmark hnormal hkind => ?_, fun hmark => ?_⟩
    · obtain ⟨htask0, hcrane0, hcranes0, hlane0, hpromise0, hstation0, hblocked0, hframe0⟩ :=
        reversePush_spec (s := consumePick k s) hblocked ha hstack hq hne ht ho htk hkind hstate hredirect fun _ => hclaim
      have hexec := execPicked_push h hk hb (judgedTask_stack (.inl hmark) hstack) ho hpass hmark (by simp [State.normal, hnormal])
        ((htask0 old).trans (if_pos rfl))
      generalize reversePush k (consumePick k s) = u at *
      obtain ⟨hbin1, hlane1, htask1, hframe1⟩ := applyPick_lane (s := u) (k := k) (id := old) (b := b) (i := i) (r := r)
        (t := { o with state := .active }) (by rw [hframe0]; exact hr) hsource hstep (by rw [hlane0]; exact hfront) hblocked0
        (by simp)
      generalize applyPick k old { o with state := .active } b u = v at *
      have hcrane1 (j) : v.crane j = u.crane j := by rw [hframe1]; rfl
      have hdue1 : v.due = s.due.set k true := by rw [hframe1, hframe0]; rfl
      obtain ⟨hcrane2, hcranes2, hframe2⟩ := settle_held (s := v) (k := k) (new := new) (old := old) (owesOnly_of_due hs hdue1)
        (by rw [hcrane1, hcrane0]) (by rw [hcrane1, hcrane0]) ((htask1 new).trans ((if_neg hne).trans ((htask0 new).trans
          ((if_neg hne).trans (if_pos rfl))))) ((htask1 old).trans (if_pos rfl)) hcls
        (by rcases hkind with h | h <;> simp [Task.immediate, Task.returned, h])
        (by rcases hstep with h | h <;> simp [Task.picked, Task.stepAfterPick, h])
      generalize settle v = w at *
      have hwtask (j) : w.task? j = v.task? j := by rw [hframe2]; rfl
      have hwlane (j) : w.lane j = v.lane j := by rw [hframe2]; rfl
      have hwbin (j) : w.bin? j = v.bin? j := by rw [hframe2]; rfl
      have hubin (j) : u.bin? j = s.bin? j := by rw [hframe0]; rfl
      have hwstation (j) : w.station j = u.station j := by rw [hframe2, hframe1]; rfl
      have hwcrane : w.crane k = { s.crane k with
          active := some old, stack := rest, queue := [new], undelivered := .none,
          roomRefusal := (w.crane k).roomRefusal } := by
        rw [hcrane2, hcrane1, hcrane0]
        rfl
      have hchannel : w.channel k = (consumePick k s).channel k := by rw [hframe2, hframe1, hframe0]; rfl
      refine ⟨_, hexec, ⟨(hwbin b).trans ((hbin1 b).trans (if_pos rfl)),
        fun c hc => (hwbin c).trans ((hbin1 c).trans ((if_neg hc).trans (hubin c))),
        (hwtask old).trans ((htask1 old).trans (if_pos rfl)), fun j hj hj' => ?_,
        hchannel.trans ((consumePick_channel k k s).trans (if_pos rfl)), answered_slot .., ?_⟩, ?_,
        congrArg CraneTasks.active hwcrane, congrArg CraneTasks.stack hwcrane, congrArg CraneTasks.queue hwcrane,
        congrArg CraneTasks.undelivered hwcrane, fun j hj => ?_, fun j => ?_, fun j => ?_, fun j p => ?_⟩
      · exact (hwtask j).trans ((htask1 j).trans ((if_neg hj).trans ((htask0 j).trans ((if_neg hj).trans (if_neg hj')))))
      · rw [hframe2, hframe1, hframe0]
        exact ⟨rfl, rfl, rfl, rfl, rfl⟩
      · exact (hwtask new).trans ((htask1 new).trans ((if_neg hne).trans ((htask0 new).trans ((if_neg hne).trans (if_pos rfl)))))
      · exact (hcranes2 j hj).trans ((hcrane1 j).trans (hcranes0 j hj))
      · refine (hwlane j).trans ((hlane1 j).trans ?_)
        by_cases hj : j = i
        · subst hj
          rw [if_pos rfl, if_pos rfl, hlane0]
          rfl
        · rw [if_neg hj, if_neg hj, hlane0]
          rfl
      · exact (congrArg Station.bins (hwstation j)).trans (by rw [hstation0]; rfl)
      · exact (congrArg (fun st : Station => st.promises[p]) (hwstation j)).trans (hpromise0 j p)
    · have hpush : (s.crane k).undelivered ≠ .push := by simp [hmark]
      have hexec := execPicked_plain h hk hb (judgedTask_stack (.inr hmark) hstack) ho hpass hpush
      obtain ⟨hbin1, hlane1, htask1, hframe1⟩ := applyPick_lane (s := consumePick k s) (k := k) (id := old) (b := b) hr hsource
        hstep hfront hblocked (State.NoneBlocked.task hblocked ho)
      rw [settle_of_settled (by rw [hframe1]; exact hs)] at hexec
      generalize applyPick k old o b (consumePick k s) = v at *
      have hchannel : v.channel k = (consumePick k s).channel k := by rw [hframe1]; rfl
      refine ⟨_, hexec, ⟨(hbin1 b).trans (if_pos rfl), fun c hc => (hbin1 c).trans (if_neg hc),
        (htask1 old).trans (if_pos rfl), fun j hj _ => (htask1 j).trans (if_neg hj),
        hchannel.trans ((consumePick_channel k k s).trans (if_pos rfl)), answered_slot .., ?_⟩,
        (htask1 new).trans ((if_neg hne).trans ht), fun j => ?_, ?_⟩
      · rw [hframe1]
        exact ⟨rfl, rfl, rfl, rfl, rfl⟩
      · refine (hlane1 j).trans ?_
        by_cases hj : j = i
        · subst hj
          rw [if_pos rfl, if_pos rfl]
          rfl
        · rw [if_neg hj, if_neg hj]
          rfl
      · rw [hframe1]
        exact ⟨rfl, rfl⟩
  case stationUnder =>
    intro s k q new old b p t o r rest h hk hs hb hback ha hstack hq hne ht ho htk hok hcls hstate hredirect hblocked hkindO
      hstep hyield hfork hbin hsource hat hr hplace hvalid hnear picked
    have hpass := pickPasses_station hstep hfork hbin hsource hat hr hplace hvalid hnear
    have hafter : o.stepAfterPick = .set := by simp [Task.stepAfterPick, hstep]
    refine ⟨fun hmark hnormal hkind => ?_, fun hmark => ?_⟩
    · obtain ⟨htask0, hcrane0, hcranes0, hlane0, hpromise0, hstation0, hblocked0, hframe0⟩ :=
        reversePush_spec (s := consumePick k s) hblocked ha hstack hq hne ht ho htk hkind hstate hredirect
          fun h => absurd (h.symm.trans hkindO) (by simp)
      have hexec := execPicked_push h hk hb (judgedTask_stack (.inl hmark) hstack) ho hpass hmark (by simp [State.normal, hnormal])
        ((htask0 old).trans (if_pos rfl))
      rw [hafter] at hexec
      generalize reversePush k (consumePick k s) = u at *
      obtain ⟨hbin1, hstation1, htask1, hframe1⟩ := applyPick_station (s := u) (k := k) (id := old) (b := b) (r := r) (p := p)
        (t := { o with state := .active }) (by rw [hframe0]; exact hr) hsource hblocked0 (by simp)
      generalize applyPick k old { o with state := .active } b u = v at *
      have hcrane1 (j) : v.crane j = u.crane j := by rw [hframe1]; rfl
      have hdue1 : v.due = s.due.set k true := by rw [hframe1, hframe0]; rfl
      obtain ⟨hcrane2, hcranes2, hframe2⟩ := settle_held (s := v) (k := k) (new := new) (old := old) (owesOnly_of_due hs hdue1)
        (by rw [hcrane1, hcrane0]) (by rw [hcrane1, hcrane0]) ((htask1 new).trans ((if_neg hne).trans ((htask0 new).trans
          ((if_neg hne).trans (if_pos rfl))))) ((htask1 old).trans (if_pos rfl)) hcls
        (by rcases hkind with h | h <;> simp [Task.immediate, Task.returned, h]) (.inr rfl)
      generalize settle v = w at *
      have hwtask (j) : w.task? j = v.task? j := by rw [hframe2]; rfl
      have hwlane (j) : w.lane j = u.lane j := by rw [hframe2, hframe1]; rfl
      have hwbin (j) : w.bin? j = v.bin? j := by rw [hframe2]; rfl
      have hubin (j) : u.bin? j = s.bin? j := by rw [hframe0]; rfl
      have hwstation (j) : w.station j = v.station j := by rw [hframe2]; rfl
      have hwpromises (j) : (w.station j).promises = (u.station j).promises := by
        rw [hwstation, hstation1]
        split
        · next hj => subst hj; rfl
        · rfl
      have hubins (j) : (u.station j).bins = (s.station j).bins := by rw [hstation0]; rfl
      have hwcrane : w.crane k = { s.crane k with
          active := some old, stack := rest, queue := [new], undelivered := .none,
          roomRefusal := (w.crane k).roomRefusal } := by
        rw [hcrane2, hcrane1, hcrane0]
        rfl
      have hchannel : w.channel k = (consumePick k s).channel k := by rw [hframe2, hframe1, hframe0]; rfl
      refine ⟨_, hexec, ⟨(hwbin b).trans ((hbin1 b).trans (if_pos rfl)),
        fun c hc => (hwbin c).trans ((hbin1 c).trans ((if_neg hc).trans (hubin c))),
        (hwtask old).trans ((htask1 old).trans (if_pos rfl)), fun j hj hj' => ?_, fun j => ?_,
        hchannel.trans ((consumePick_channel k k s).trans (if_pos rfl)), answered_slot .., ?_⟩, ?_,
        congrArg CraneTasks.active hwcrane, congrArg CraneTasks.stack hwcrane, congrArg CraneTasks.queue hwcrane,
        congrArg CraneTasks.undelivered hwcrane, fun j hj => ?_, fun j => (hwlane j).trans (hlane0 j), fun j p => ?_⟩
      · exact (hwtask j).trans ((htask1 j).trans ((if_neg hj).trans ((htask0 j).trans ((if_neg hj).trans (if_neg hj')))))
      · refine (congrArg Station.bins ((hwstation j).trans (hstation1 j))).trans ?_
        split
        · exact congrArg (fun v => Vector.set v p.val none p.isLt) (hubins k)
        · exact hubins j
      · rw [hframe2, hframe1, hframe0]
        exact ⟨rfl, rfl, rfl, rfl, rfl⟩
      · exact (hwtask new).trans ((htask1 new).trans ((if_neg hne).trans ((htask0 new).trans ((if_neg hne).trans (if_pos rfl)))))
      · exact (hcranes2 j hj).trans ((hcrane1 j).trans (hcranes0 j hj))
      · exact (congrArg (fun v => v[p]) (hwpromises j)).trans (hpromise0 j p)
    · have hpush : (s.crane k).undelivered ≠ .push := by simp [hmark]
      have hexec := execPicked_plain h hk hb (judgedTask_stack (.inr hmark) hstack) ho hpass hpush
      obtain ⟨hbin1, hstation1, htask1, hframe1⟩ := applyPick_station (s := consumePick k s) (k := k) (id := old) (b := b) hr
        hsource hblocked (State.NoneBlocked.task hblocked ho)
      rw [settle_of_settled (by rw [hframe1]; exact hs), hafter] at hexec
      generalize applyPick k old o b (consumePick k s) = v at *
      have hchannel : v.channel k = (consumePick k s).channel k := by rw [hframe1]; rfl
      refine ⟨_, hexec, ⟨(hbin1 b).trans (if_pos rfl), fun c hc => (hbin1 c).trans (if_neg hc),
        (htask1 old).trans (if_pos rfl), fun j hj _ => (htask1 j).trans (if_neg hj), fun j => ?_,
        hchannel.trans ((consumePick_channel k k s).trans (if_pos rfl)), answered_slot .., ?_⟩,
        (htask1 new).trans ((if_neg hne).trans ht), ?_, ?_, fun j => ?_⟩
      · refine (congrArg Station.bins (hstation1 j)).trans ?_
        split
        · rfl
        · rfl
      · rw [hframe1]
        exact ⟨rfl, rfl, rfl, rfl, rfl⟩
      · rw [hframe1]
        rfl
      · rw [hframe1]
        rfl
      · refine (congrArg Station.promises (hstation1 j)).trans ?_
        split
        · next hj => subst hj; rfl
        · rfl
end

section
namespace Sys2Proof.Machine

/-! ### The checks of a set-down (R70) -/

theorem consumeSetDown_channel (k j : Crane) (s : State) : (consumeSetDown k s).channel j =
    if j = k then { s.channel k with setDown := { (s.channel k).setDown with valid := false } } else s.channel j := by
  unfold consumeSetDown
  rw [State.channel_modChannel]
  by_cases h : k = j
  · subst h; simp
  · rw [if_neg h, if_neg (Ne.symm h)]

section
variable {s : State} {k : Crane} {id b i : Nat} {t : Task} {r : Bin} {p : Pos}

theorem setBinOf_eq (hstep : t.step = .relocSet ∨ t.step = .set) (hfork : s.fork k = some b) (hbin : t.stepBin = some b) :
    s.setBinOf k t = some b := by
  unfold State.setBinOf
  rw [if_pos hstep, hfork]
  exact if_pos hbin

/-- The bay of a lane lies within T_pick of the set-down capture (R70). -/
theorem withinPick_lane
    (hnear : (((s.channel k).setDown.pos - s.params.bayMm (s.params.laneAisle i) (s.params.laneBay i)).natAbs : Int)
      ≤ s.params.tPick) : s.withinPick (s.channel k).setDown.pos (s.placeMm k (.lane i)) = true := decide_eq_true hnear

theorem withinPick_station (hnear : (((s.channel k).setDown.pos - s.params.stationPos[k]).natAbs : Int) ≤ s.params.tPick) :
    s.withinPick (s.channel k).setDown.pos (s.placeMm k (.station p)) = true := decide_eq_true hnear

theorem setDownPlace_plain {d : Dest} (hredirect : t.redirect = none) (hplace : t.place = some d)
    (hvalid : (s.channel k).setDown.valid = true)
    (hnear : s.withinPick (s.channel k).setDown.pos (s.placeMm k d) = true) : s.setDownPlace k t = some d := by
  unfold State.setDownPlace
  rw [hredirect, hplace]
  simp [hvalid, hnear]

/-! ### SET DOWN of a judged task (R70) -/

/-- The step code that answers a set-down. -/
def Task.setDownAnswer (t : Task) : List Byte := if t.goesOn = true then put8 t.stepAfterSet.code else [255]

variable {q : Request} (h : s.hasRequest (.k k) q) (hk : q.kind = .setDown)
  (hjudged : s.judgedTask k = some id) (ht : s.task? id = some t) (hb : s.setBinOf k t = some b)
include h hk hjudged ht hb

theorem execSetDown_lane (hd : s.setDownPlace k t = some (.lane i)) : exec (.setDown k) s = .next
    ((settle (markDue k (readyIfNewlyQueued k s (setDownInLane k id t b i (consumeSetDown k s))))).answered (.k k) q .ok
      t.setDownAnswer) := by
  refine congrArg Host.Outcome.next (take_eq_answered h hk rfl ?_)
  unfold serveSetDown
  rw [hjudged, Option.bind_some, ht, Option.map_some]
  dsimp only
  rw [hb, hd]
  dsimp only
  unfold Task.setDownAnswer
  split <;> rfl

theorem execSetDown_station (hd : s.setDownPlace k t = some (.station p)) : exec (.setDown k) s = .next
    ((settle (markDue k (readyIfNewlyQueued k s (setDownAtStation k id t b p (consumeSetDown k s))))).answered (.k k) q .ok
      t.setDownAnswer) := by
  refine congrArg Host.Outcome.next (take_eq_answered h hk rfl ?_)
  unfold serveSetDown
  rw [hjudged, Option.bind_some, ht, Option.map_some]
  dsimp only
  rw [hb, hd]
  dsimp only
  unfold Task.setDownAnswer
  split <;> rfl

end

/-! ### The end of a task (R60, R73) -/

theorem popStack_empty {s : State} {k : Crane} (h : (s.crane k).stack = []) (notice : Bool) : popStack k notice s = s := by
  unfold popStack
  split
  · next hstack _ => rw [h] at hstack; contradiction
  · rfl

section
variable {s : State} {k : Crane} {id : Nat} {t : Task} (ht : s.task? id = some t) (hk : t.crane = k)
include ht hk

theorem endTask_active (ha : (s.crane k).active = some id) (hq : id ∉ (s.crane k).queue) (hstack : (s.crane k).stack = []) :
    endTask id s = markDue k ((s.dropTask id).modCrane k (fun c => { c with active := none })) := by
  subst hk
  have hcrane : (s.dropTask id).modCrane t.crane (fun c => { c with
      queue := c.queue.erase id, stack := c.stack.erase id, active := if c.active = some id then none else c.active }) =
        (s.dropTask id).modCrane t.crane (fun c => { c with active := none }) := by
    refine State.modCrane_congr ?_
    simp [ha, hstack, List.erase_of_not_mem hq]
  unfold endTask
  rw [ht]
  dsimp only
  rw [hcrane]
  simp only [ha, hstack, hq, List.contains_eq_mem, decide_false, Bool.false_and, Bool.false_eq_true, if_false, decide_true,
    Bool.true_or, if_true]
  refine popStack_empty ?_ ..
  rw [markDue_crane, State.crane_modCrane_self]
  exact hstack

theorem endTask_suspended {rest : List Nat} (ha : (s.crane k).active ≠ some id) (hq : id ∉ (s.crane k).queue)
    (hstack : (s.crane k).stack = id :: rest) :
    endTask id s = markDue k ((s.dropTask id).modCrane k (fun c => { c with stack := rest })) := by
  subst hk
  have hcrane : (s.dropTask id).modCrane t.crane (fun c => { c with
      queue := c.queue.erase id, stack := c.stack.erase id, active := if c.active = some id then none else c.active }) =
        (s.dropTask id).modCrane t.crane (fun c => { c with stack := rest }) := by
    refine State.modCrane_congr ?_
    simp [ha, hstack, List.erase_of_not_mem hq]
  unfold endTask
  rw [ht]
  dsimp only
  rw [hcrane]
  simp [ha, hstack, hq]

theorem completeTask_eq : completeTask id s = endTask id (s.modCrane k (fun c => { c with lastCompleted := some (id, t.kind) })) := by
  subst hk
  unfold completeTask
  rw [ht]

end

section
variable {s : State} {k : Crane} {id : Nat} {t : Task} (ht : s.task? id = some t) (hk : t.crane = k)

/-- The frame of a completed task: its entry is free and its crane's record has changed. -/
structure Completes (s u : State) (k : Crane) (id : Nat) (c : CraneTasks) : Prop where
  task : ∀ j, u.task? j = if j = id then none else s.task? j
  crane : u.crane k = c
  cranes : ∀ j, j ≠ k → u.crane j = s.crane j
  frame : u = { s with tasks := u.tasks, cranes := u.cranes, due := s.due.set k true }

include ht hk

/-- An active task completes over an empty stack. -/
theorem completeTask_active (ha : (s.crane k).active = some id) (hq : id ∉ (s.crane k).queue) (hstack : (s.crane k).stack = []) :
    Completes s (completeTask id s) k id { s.crane k with active := none, lastCompleted := some (id, t.kind) } := by
  set s1 := s.modCrane k (fun c => { c with lastCompleted := some (id, t.kind) }) with hs1
  have hcrane : s1.crane k = { s.crane k with lastCompleted := some (id, t.kind) } := State.crane_modCrane_self ..
  rw [completeTask_eq ht hk, endTask_active (s := s1) ht hk (by rw [hcrane]; exact ha) (by rw [hcrane]; exact hq)
    (by rw [hcrane]; exact hstack)]
  refine ⟨fun j => Table.find?_erase .., ?_, fun j hj => ?_, rfl⟩
  · rw [markDue_crane, State.crane_modCrane_self]
    show { s1.crane k with active := none } = _
    rw [hcrane]
  · rw [markDue_crane, State.crane_modCrane_other _ (Ne.symm hj)]
    exact (State.crane_modCrane_other s (Ne.symm hj) _ : s1.crane j = s.crane j)

/-- A task that is suspended on top of its crane's stack completes (R77). -/
theorem completeTask_suspended {rest : List Nat} (ha : (s.crane k).active ≠ some id) (hq : id ∉ (s.crane k).queue)
    (hstack : (s.crane k).stack = id :: rest) :
    Completes s (completeTask id s) k id { s.crane k with stack := rest, lastCompleted := some (id, t.kind) } := by
  set s1 := s.modCrane k (fun c => { c with lastCompleted := some (id, t.kind) }) with hs1
  have hcrane : s1.crane k = { s.crane k with lastCompleted := some (id, t.kind) } := State.crane_modCrane_self ..
  rw [completeTask_eq ht hk, endTask_suspended (s := s1) (rest := rest) ht hk (by rw [hcrane]; exact ha) (by rw [hcrane]; exact hq)
    (by rw [hcrane]; exact hstack)]
  refine ⟨fun j => Table.find?_erase .., ?_, fun j hj => ?_, rfl⟩
  · rw [markDue_crane, State.crane_modCrane_self]
    show { s1.crane k with stack := rest } = _
    rw [hcrane]
  · rw [markDue_crane, State.crane_modCrane_other _ (Ne.symm hj)]
    exact (State.crane_modCrane_other s (Ne.symm hj) _ : s1.crane j = s.crane j)

end

/-! ### The test after a set-down (R74) -/

/-- No preemption is due at a crane: it has nothing queued, no active task, or one candidate of no lower class. -/
def State.calm (s : State) (k : Crane) : Prop :=
  (s.crane k).queue = [] ∨ (s.crane k).active = none ∨ ∃ new old x y, (s.crane k).queue = [new] ∧ (s.crane k).active = some old
    ∧ s.task? new = some x ∧ s.task? old = some y ∧ y.cls ≤ x.cls

theorem preemptTest_calm {s : State} {k : Crane} (h : s.calm k) :
    preemptTest k [] s = (s.modCrane k (fun c => { c with roomRefusal := false }), []) := by
  rcases h with hq | ha | ⟨new, old, x, y, hq, ha, hx, hy, hcls⟩
  · refine preemptTest_noCandidate ?_
    rw [hq]
    rfl
  · exact preemptTest_inactive ha
  · by_cases helig : s.eligibleId new = true
    · have htest : TestOf k [] s new x old y := ⟨by rw [hq]; simp [helig], hx, ha, hy⟩
      rw [preemptTest_eq htest, if_neg (by omega)]
    · refine preemptTest_noCandidate ?_
      rw [hq]
      simp [helig]

/-- A step that owes one test, which finds no preemption due, clears the crane's room refusal flag. -/
theorem settle_calm {s : State} {k : Crane} (hs : s.owesOnly k) (h : s.calm k) :
    settle s = s.undue.modCrane k (fun c => { c with roomRefusal := false }) :=
  settleTests_test hs (preemptTest_calm h) s.undue_settled

end Sys2Proof.Machine
end

section
namespace Sys2Proof.Machine

/-! ### What a set-down in a lane does (R8, R70, R73) -/

/-- A bin that has been set down in a lane (R8). -/
def Bin.storedIn (i : Nat) (r : Bin) : Bin := { r with place := .stored i }

/-- A lane after a bin has been set down in it (R8). -/
def Lane.received (b : Nat) (l : Lane) : Lane := { l with contents := b :: l.contents, incoming := l.incoming - 1 }

/-- A FETCH after the set-down of a blocking bin (R70, R73). -/
def Task.advanced (t : Task) : Task := { t with digLeft := t.digLeft - 1, step := t.stepAfterSet, redirect := none }

section
variable {s : State} {k : Crane} {id b i : Nat} {t : Task} {r : Bin} {p : Pos}

theorem setInLane_spec (hr : s.bin? b = some r) :
    let w := setInLane b i s
    (∀ c, w.bin? c = if c = b then some (r.storedIn i) else s.bin? c)
    ∧ (∀ j, w.lane j = if j = i then (s.lane i).received b else s.lane j)
    ∧ w = { s with bins := w.bins, lanes := w.lanes } := by
  have heq : setInLane b i s = (s.setBin b (r.storedIn i)).modLane i (Lane.received b) := by
    unfold setInLane
    rw [State.modBin_eq hr]
    rfl
  rw [heq]
  refine ⟨fun c => State.bin?_setBin .., fun j => ?_, rfl⟩
  by_cases hj : j = i
  · subst hj
    rw [State.lane_modLane_self, if_pos rfl]
    rfl
  · rw [State.lane_modLane_other _ hj, if_neg hj]
    rfl

theorem goesOn_iff (t : Task) : t.goesOn = true ↔ t.kind = .fetch ∧ t.step = .relocSet := by simp [Task.goesOn]

theorem advanceTask_on (h : t.goesOn = true) : advanceTask id t s = s.setTask id t.advanced := if_pos h

theorem advanceTask_done (h : ¬ t.goesOn = true) : advanceTask id t s = completeTask id s := if_neg h

theorem setDownInLane_plain (h : t.redirect = none) :
    setDownInLane k id t b i s = advanceTask id t (binStored b (laneQuieter (setInLane b i s))) := by
  unfold setDownInLane
  rw [h]

theorem binStored_unclaimed (hr : s.bin? b = some r) (hchain : r.chain = []) : binStored b s = s := by
  unfold binStored State.chainHead
  rw [hr, Option.bind_some, hchain]
  rfl

/-- A set-down in a lane of a bin with no claim, with no BLOCKED task to re-examine. -/
theorem setDownInLane_unclaimed (hr : s.bin? b = some r) (hchain : r.chain = []) (hredirect : t.redirect = none)
    (hblocked : s.NoneBlocked) : setDownInLane k id t b i s = advanceTask id t (setInLane b i s) := by
  obtain ⟨hbin, -, hframe⟩ := setInLane_spec (i := i) hr
  rw [setDownInLane_plain hredirect]
  generalize setInLane b i s = w at hbin hframe
  have hw : w.NoneBlocked := by rw [hframe]; exact hblocked
  rw [show laneQuieter w = w from hw.reexamine _, binStored_unclaimed ((hbin b).trans (if_pos rfl)) hchain]

/-- The task unit's frame of a set-down in a lane that was not redirected. -/
theorem setDownInLane_frame (hredirect : t.redirect = none) : TaskFrame (setInLane b i s) (setDownInLane k id t b i s) := by
  have h := taskFrame_taskSteps
  rw [setDownInLane_plain hredirect]
  exact h.trans (h.trans (h.reexamine ..) (h.binStored ..)) (h.advanceTask ..)

/-- The end of a set-down that leaves no preemption due. -/
theorem setDown_settles {x : State} (hs : s.settled) (hdue : x.due = s.due ∨ x.due = s.due.set k true) (hcalm : x.calm k)
    (hready : readyIfNewlyQueued k s x = x) : settle (markDue k (readyIfNewlyQueued k s x)) =
      x.undue.modCrane k (fun c => { c with roomRefusal := false }) := by
  have hset : (markDue k x).due = s.due.set k true := by
    show x.due.set k true = _
    rcases hdue with h | h <;> rw [h]
    simp
  rw [hready]
  exact settle_calm (owesOnly_of_due hs hset) hcalm

theorem readyIfNewlyQueued_empty {x : State} (hq : (x.crane k).queue = []) (s : State) : readyIfNewlyQueued k s x = x := by
  unfold readyIfNewlyQueued
  rw [hq]
  simp

end

/-- The crane's record with its room refusal flag cleared. -/
theorem crane_cleared (x : State) (k : Crane) :
    (x.undue.modCrane k (fun c => { c with roomRefusal := false })).crane k = { x.crane k with roomRefusal := false } :=
  State.crane_modCrane_self ..

theorem due_of_settled {s : State} (h : s.settled) : s.due = Vector.replicate 4 false :=
  (congrArg State.due (State.undue_eq h)).symm

/-! ### What a set-down at a station does (R8, R32, R70) -/

/-- A bin that stands at a station position (R8). -/
def Bin.standingAt (k : Crane) (p : Pos) (r : Bin) : Bin := { r with place := .atStation k p }

/-- A station after a bin has been set down at a promised position (R8, R23). -/
def Station.received (p : Pos) (b : Nat) (st : Station) : Station :=
  { st with bins := st.bins.set p (some b), promises := st.promises.set p none }

/-- A claim that is presented at a station in some state and loses its task (R32). -/
def Claim.presentedAt (st : Station) (time dwell : Nat) (c : Claim) : Claim :=
  { c with state := if st.state = .shuttered then .held else .presented, presented := some time, dwell := dwell * 1000,
           unseen := true, task := none }

section
variable {s : State} {k : Crane} {id b i cid : Nat} {t : Task} {r : Bin} {p : Pos} {c : Claim}

theorem setAtStation_spec (hr : s.bin? b = some r) :
    let w := setAtStation k b p s
    (∀ c, w.bin? c = if c = b then some (r.standingAt k p) else s.bin? c)
    ∧ (∀ j, w.station j = if j = k then (s.station k).received p b else s.station j)
    ∧ w = { s with bins := w.bins, stations := w.stations } := by
  have heq : setAtStation k b p s = (s.setBin b (r.standingAt k p)).modStation k (Station.received p b) := by
    unfold setAtStation
    rw [State.modBin_eq hr]
    rfl
  rw [heq]
  refine ⟨fun c => State.bin?_setBin .., fun j => ?_, rfl⟩
  rw [State.station_modStation]
  by_cases hj : k = j
  · subst hj
    rw [if_pos rfl, if_pos rfl]
    rfl
  · rw [if_neg hj, if_neg (Ne.symm hj)]
    rfl

theorem State.claim?_setClaim (s : State) (cid j : Nat) (c : Claim) :
    (s.setClaim cid c).claim? j = if j = cid then some c else s.claim? j := Table.find?_insert ..

/-- A change of a claim marks it for its owner and latches CLAIM_CHANGED (R32). -/
theorem touchClaim_spec (hc : s.claim? cid = some c) (f : Claim → Claim) :
    let w := touchClaim cid f s
    (∀ j, w.claim? j = if j = cid then some { f c with unseen := true } else s.claim? j)
    ∧ w = { s with claims := w.claims, portC := { s.portC with latch := s.portC.latch ||| 8 } } := by
  have heq : touchClaim cid f s = latchC .claimChanged (s.setClaim cid { f c with unseen := true }) := by
    unfold touchClaim
    rw [hc]
  rw [heq]
  exact ⟨fun j => State.claim?_setClaim .., rfl⟩

theorem presentClaim_spec (hc : s.claim? cid = some c) :
    let w := claimLosesTask cid (presentClaim cid s)
    (∀ j, w.claim? j = if j = cid then some (c.presentedAt (s.station c.station) s.wingTime s.params.dwell) else s.claim? j)
    ∧ w = { s with claims := w.claims, portC := { s.portC with latch := s.portC.latch ||| 8 } } := by
  obtain ⟨hclaim, hframe⟩ := touchClaim_spec (cid := cid) hc (fun c =>
    { c with state := if (s.station c.station).state = .shuttered then .held else .presented,
             presented := some s.wingTime, dwell := s.params.dwell * 1000 })
  unfold claimLosesTask presentClaim
  generalize touchClaim cid (fun c =>
    { c with state := if (s.station c.station).state = .shuttered then .held else .presented,
             presented := some s.wingTime, dwell := s.params.dwell * 1000 }) s = v at hclaim hframe
  rw [(hclaim cid).trans (if_pos rfl)]
  dsimp only
  by_cases htask : c.task.isSome = true
  · rw [if_pos htask]
    obtain ⟨hclaim', hframe'⟩ := touchClaim_spec ((hclaim cid).trans (if_pos rfl)) (fun c => { c with task := none })
    generalize touchClaim cid (fun c => { c with task := none }) v = w at hclaim' hframe'
    refine ⟨fun j => ?_, ?_⟩
    · rw [hclaim', hclaim]
      by_cases hj : j = cid
      · rw [if_pos hj, if_pos hj]
        rfl
      · rw [if_neg hj, if_neg hj, if_neg hj]
    · rw [hframe', hframe]
      simp only [BitVec.or_assoc, BitVec.or_self]
  · rw [if_neg htask]
    have hnone : c.task = none := by simpa using htask
    refine ⟨fun j => ?_, hframe⟩
    rw [hclaim, Claim.presentedAt, hnone]

theorem setDownAtStation_plain (hredirect : t.redirect = none) (hclaim : t.claim = some cid) :
    setDownAtStation k id t b p s = advanceTask id t (claimLosesTask cid (presentClaim cid (setAtStation k b p s))) := by
  unfold setDownAtStation Task.servedClaim
  rw [hredirect, hclaim]

end

end Sys2Proof.Machine
end

section
namespace Sys2Proof.Machine

/-! ### A report that fails its checks (R71) -/

/-- A READY crane that is stopped: its rail record changes, and latches. -/
theorem stopCrane_ready {s : State} {k : Crane} (h : (s.rail k).state = .ready) (cause : StopCause) :
    let u := stopCrane k cause s
    u = { s with rails := u.rails, portC := u.portC, portK := u.portK, sources := u.sources }
    ∧ u.rail k = { s.rail k with
        state := .stopped, silentFrom := none, stopCause := cause, granted := none, pending := none } := by
  set f : Rail → Rail := fun r =>
    { r with state := .stopped, silentFrom := none, stopCause := cause, granted := none, pending := none } with hf
  have hmod : modRailStop k f s = { s.modRail k f with portK := (modRailStop k f s).portK } := by
    unfold modRailStop
    dsimp only
    split <;> rfl
  have hrail : (modRailStop k f s).rail k = f (s.rail k) := by
    rw [hmod]
    exact State.rail_modRail_self ..
  have hready (u : State) : readyIfNewlyEligible k s u = { u with portK := (readyIfNewlyEligible k s u).portK } := by
    unfold readyIfNewlyEligible
    split <;> rfl
  have hchange : changeRail k f s = { s.modRail k f with portK := (changeRail k f s).portK } := by
    have hst : ¬ (((modRailStop k f s).rail k).state ≠ (s.rail k).state
        ∧ (((modRailStop k f s).rail k).state = .ready ∨ ((modRailStop k f s).rail k).state = .unhomed)) := by
      rw [hrail]
      simp [hf]
    have heq : changeRail k f s = readyIfNewlyEligible k s (modRailStop k f s) := by
      unfold changeRail
      dsimp only
      rw [if_neg hst]
    rw [heq, hready, hmod]
  have heq : stopCrane k cause s = latchCraneFault k (changeRail k f s) := by
    unfold stopCrane
    rw [h]
  rw [heq]
  generalize changeRail k f s = v at hchange
  rw [hchange]
  exact ⟨rfl, State.rail_modRail_self ..⟩

section
variable {s : State} {k : Crane} {id b i cid : Nat} {t : Task} {r : Bin} {p : Pos} {c : Claim} {kept : Bool} {d : Redirect}

theorem execSetDown_mismatch {q : Request} (h : s.hasRequest (.k k) q) (hk : q.kind = .setDown)
    (hjudged : s.judgedTask k = some id) (ht : s.task? id = some t) (hd : s.setDownPlace k t = none) :
    exec (.setDown k) s = .next
      ((settle (stopCrane k .mismatch (consumeSetDown k s))).answered (.k k) q .mismatch []) := by
  refine congrArg Host.Outcome.next (take_eq_answered h hk rfl ?_)
  unfold serveSetDown
  rw [hjudged, Option.bind_some, ht, Option.map_some]
  dsimp only
  rw [hd]
  cases s.setBinOf k t <;> rfl

/-! ### A redirected step (R70, R78) -/

/-- Where the set-down of a redirected step is taken (R70, R78). -/
theorem setDownPlace_redirected (hredirect : t.redirect = some d) (hlane : t.plannedLane = some i)
    (hvalid : (s.channel k).setDown.valid = true) : s.setDownPlace k t =
      if s.withinPick (s.channel k).setDown.pos (s.placeMm k (.station d.pos)) = true then some (.station d.pos)
      else if d.kept = true ∧ s.withinPick (s.channel k).setDown.pos (s.placeMm k (.lane i)) = true then some (.lane i)
      else none := by
  unfold State.setDownPlace
  rw [hredirect, hlane]
  simp only [hvalid, Bool.true_and, Option.map_some, Option.filter_some]
  split
  · rfl
  · cases d.kept <;> simp

theorem setDownAtStation_redirected (hredirect : t.redirect = some ⟨some cid, p, kept⟩) (hlane : t.plannedLane = some i) :
    setDownAtStation k id t b p s = advanceTask id t (claimLosesTask cid (presentClaim cid
      (releaseSlots i (if kept = true then 1 else 0) (setAtStation k b p s)))) := by
  unfold setDownAtStation Task.servedClaim
  rw [hredirect, hlane]
  cases kept <;> rfl

theorem setDownInLane_redirected (hredirect : t.redirect = some ⟨some cid, p, kept⟩) :
    setDownInLane k id t b i s = advanceTask id t (binStored b (laneQuieter (touchClaim cid
      (fun c => { c with state := .queued, task := none }) (releasePosition k p (setInLane b i s))))) := by
  unfold setDownInLane
  rw [hredirect]
  rfl

/-- A task after its set-down over an empty stack: a FETCH's RELOC_SET goes on, any other completes (R70, R73). -/
structure Advances (s u : State) (k : Crane) (id : Nat) (t : Task) : Prop where
  others : ∀ j, j ≠ id → u.task? j = s.task? j
  on : t.goesOn = true → u.task? id = some t.advanced ∧ u.crane k = s.crane k
  done : ¬ t.goesOn = true → u.task? id = none
    ∧ u.crane k = { s.crane k with active := none, lastCompleted := some (id, t.kind) }
  queue : (u.crane k).queue = (s.crane k).queue
  due : u.due = s.due ∨ u.due = s.due.set k true
  frame : u = { s with tasks := u.tasks, cranes := u.cranes, due := u.due }

theorem advanceTask_advances (ht : s.task? id = some t) (hk : t.crane = k) (ha : (s.crane k).active = some id)
    (hq : id ∉ (s.crane k).queue) (hstack : (s.crane k).stack = []) : Advances s (advanceTask id t s) k id t := by
  by_cases hon : t.goesOn = true
  · rw [advanceTask_on hon]
    exact ⟨fun j hj => State.task?_setTask_other s hj _, fun _ => ⟨State.task?_setTask_self .., rfl⟩, fun h => absurd hon h,
      rfl, .inl rfl, rfl⟩
  · rw [advanceTask_done hon]
    obtain ⟨htask, hcrane, -, hframe⟩ := completeTask_active ht hk ha hq hstack
    generalize completeTask id s = u at htask hcrane hframe
    refine ⟨fun j hj => (htask j).trans (if_neg hj), fun h => absurd h hon, fun _ => ⟨(htask id).trans (if_pos rfl), hcrane⟩,
      ?_, .inr ?_, ?_⟩
    · rw [hcrane]
    · rw [hframe]
    · rw [hframe]

/-- The end of a set-down: no preemption is due, and TASK_READY may be latched. -/
theorem setDown_ends {x : State} (hs : s.settled) (hdue : x.due = s.due ∨ x.due = s.due.set k true) (hcalm : x.calm k) :
    let u := settle (markDue k (readyIfNewlyQueued k s x))
    u = { x with due := u.due, cranes := u.cranes, portK := u.portK } ∧ u.crane k = { x.crane k with roomRefusal := false } := by
  have hready : readyIfNewlyQueued k s x = { x with portK := (readyIfNewlyQueued k s x).portK } := by
    unfold readyIfNewlyQueued
    dsimp only
    split <;> rfl
  generalize readyIfNewlyQueued k s x = y at hready
  have hset : (markDue k y).due = s.due.set k true := by
    rw [hready]
    show x.due.set k true = _
    rcases hdue with h | h <;> rw [h]
    simp
  have hcalm' : (markDue k y).calm k := by rw [hready]; exact hcalm
  have hcrane : (markDue k y).crane k = x.crane k := by rw [hready]; rfl
  rw [settle_calm (owesOnly_of_due hs hset) hcalm']
  refine ⟨?_, (crane_cleared ..).trans (by rw [hcrane])⟩
  rw [hready]
  rfl

/-! ### A claim placed again with a FETCH (R30, R70, R78) -/

theorem releasePosition_eq (hb : s.NoneBlocked) :
    releasePosition k p s = s.modStation k (fun st => { st with promises := st.promises.set p none }) := by
  unfold releasePosition positionFreed
  exact State.NoneBlocked.reexamine (s := State.modStation _ _ _) hb _

/-- The head claim of a bin that is stored again waits with reason STORAGE and is placed (R30, R70). -/
theorem binStored_placed {chain : List Nat} (hr : s.bin? b = some r) (hchain : r.chain = cid :: chain)
    (hc : s.claim? cid = some c) (hstate : c.state = .queued) (htask : c.task = none) (hback : s.backlog = []) :
    binStored b s = placeClaim cid s := by
  unfold binStored State.chainHead
  rw [hr, Option.bind_some, hchain, List.head?_cons]
  dsimp only
  rw [hc]
  exact if_pos ⟨hstate, htask, by simp [hback]⟩

/-- A claim whose bin is stored, with no spare FETCH and with room in the queue, is given a FETCH (R30). -/
theorem placeClaim_stored (hc : s.claim? cid = some c) (hr : s.bin? c.bin = some r) (hplace : r.place = .stored i)
    (hspare : s.spareFetch c.bin c.station = none) (hroom : s.fetchRoom c.station = true) :
    placeClaim cid s = admitFetch cid s := by
  unfold placeClaim
  rw [hc]
  dsimp only
  rw [hr]
  dsimp only
  rw [hplace, hspare]
  simp [hroom]

/-- The FETCH that is admitted for a claim (R30). -/
def Claim.fetch (cid : Nat) (c : Claim) : Task :=
  { Task.new c.station .fetch c.cls .pick with bin := some c.bin, claim := some cid }

/-- A FETCH admitted for a claim of a crane with nothing queued (R30, R62). -/
theorem admitFetch_spec {tid : Nat} (hc : s.claim? cid = some c) (htid : s.tasks.lowestFree 64 = some tid)
    (hk : c.station = k) (hq : (s.crane k).queue = []) :
    let u := admitFetch cid s
    (∀ j, u.claim? j = if j = cid then some { c with task := some tid, unseen := true } else s.claim? j)
    ∧ (∀ j, u.task? j = if j = tid then some ((c.fetch cid).admittedAt s.wingTime) else s.task? j)
    ∧ u.crane k = { s.crane k with queue := [tid] }
    ∧ u.due = s.due.set k true
    ∧ u = { s with claims := u.claims, tasks := u.tasks, cranes := u.cranes, due := u.due, portC := u.portC, portK := u.portK } := by
  subst hk
  have heq : admitFetch cid s = touchClaim cid (fun c => { c with task := some tid }) (admitAt tid (c.fetch cid) s) := by
    unfold admitFetch
    rw [hc, htid]
    rfl
  have htask := admitAt_task? tid (c.fetch cid) s
  have hcrane := (admitAt_crane tid (c.fetch cid) s c.station).trans (if_pos rfl)
  have hdue : _ = s.due.set c.station true := admitAt_due tid (c.fetch cid) s
  obtain ⟨_, _, _, _, hframe⟩ := admitAt_frame tid (c.fetch cid) s
  rw [heq]
  generalize admitAt tid (c.fetch cid) s = v at *
  obtain ⟨hclaim, hframe'⟩ := touchClaim_spec (s := v) (cid := cid) (c := c) (by rw [hframe]; exact hc)
    (fun c => { c with task := some tid })
  generalize touchClaim cid (fun c => { c with task := some tid }) v = u at *
  have hvclaim (j) : v.claim? j = s.claim? j := by rw [hframe]; rfl
  have hucrane : u.crane c.station = v.crane c.station := by rw [hframe']; rfl
  refine ⟨fun j => ?_, fun j => ?_, ?_, ?_, ?_⟩
  · rw [hclaim, hvclaim]
  · refine Eq.trans ?_ (htask j)
    rw [hframe']
    rfl
  · rw [hucrane, hcrane, hq]
    rfl
  · rw [← hdue, hframe']
  · rw [hframe', hframe]

end

end Sys2Proof.Machine
end

section
open Sys2Proof Sys2Proof.Machine

/-- Settles O31: a set-down is the bin's move, the claim's presentation or its new FETCH, and the task's advance; the test
that it owes finds no preemption due. -/
theorem setDownPlacesTheBin : Obligations.SetDownPlacesTheBin := by
  unfold Obligations.SetDownPlacesTheBin
  refine ⟨?lane, ?station, ?redirected, ?parkPush⟩
  case lane =>
    intro s k q id b i t r h hk hs hmark ha ht hstep hfork hbin hredirect hplace hr hvalid hnear goesOn next
    have hexec := execSetDown_lane h hk (judgedTask_active hmark ha) ht (setBinOf_eq hstep hfork hbin)
      (setDownPlace_plain hredirect hplace hvalid (withinPick_lane hnear))
    obtain ⟨hbin1, hlane1, hframe1⟩ := setInLane_spec (s := consumeSetDown k s) (b := b) (i := i) hr
    have hf : TaskFrame _ (settle (markDue k (readyIfNewlyQueued k s (setDownInLane k id t b i (consumeSetDown k s))))) :=
      have g := taskFrame_taskSteps
      g.trans (g.trans (setDownInLane_frame hredirect) (g.trans (g.readyIfNewlyQueued ..) (g.due ..))) (settle_frame _)
    have hexact (hblocked : s.NoneBlocked) (hchain : r.chain = []) :
        setDownInLane k id t b i (consumeSetDown k s) = advanceTask id t (setInLane b i (consumeSetDown k s)) :=
      setDownInLane_unclaimed (s := consumeSetDown k s) hr hchain hredirect hblocked
    have hgoes : t.goesOn = true ↔ goesOn := goesOn_iff t
    generalize setInLane b i (consumeSetDown k s) = w at *
    generalize hu : settle (markDue k (readyIfNewlyQueued k s (setDownInLane k id t b i (consumeSetDown k s)))) = u at *
    have hchannel (j) : u.channel j = (consumeSetDown k s).channel j := (hf.channel j).trans (by rw [hframe1]; rfl)
    refine ⟨_, hexec, (hf.bin? b).trans ((hbin1 b).trans (if_pos rfl)), fun c hc => (hf.bin? c).trans ((hbin1 c).trans (if_neg hc)),
      fun j => ?_, (hchannel k).trans ((consumeSetDown_channel k k s).trans (if_pos rfl)),
      fun j hj => (hchannel j).trans ((consumeSetDown_channel k j s).trans (if_neg hj)), fun hon => ?_, fun hoff => ?_,
      hf.rails.trans (by rw [hframe1]; rfl), hf.fires.trans (by rw [hframe1]; rfl), hf.shutters.trans (by rw [hframe1]; rfl),
      hf.search.trans (by rw [hframe1]; rfl), hf.sweep.trans (by rw [hframe1]; rfl), hf.wing.trans (by rw [hframe1]; rfl),
      hf.params.trans (by rw [hframe1]; rfl), hf.wingTime.trans (by rw [hframe1]; rfl), hf.pending.trans (by rw [hframe1]; rfl),
      fun hblocked hq hstack htk hchain => ?_⟩
    · show (u.lane j).contents = _
      rw [hf.contents, hlane1]
      split <;> rfl
    · refine (answered_slot ..).trans ?_
      rw [Task.setDownAnswer, if_pos (hgoes.2 hon)]
      rfl
    · refine (answered_slot ..).trans ?_
      rw [Task.setDownAnswer, if_neg (mt hgoes.1 hoff)]
    · rw [hexact hblocked hchain] at hu
      have hwcrane (j) : w.crane j = s.crane j := by rw [hframe1]; rfl
      have hwtask (j) : w.task? j = s.task? j := by rw [hframe1]; rfl
      have hdue := due_of_settled hs
      obtain ⟨hulane, hutask, huon, huoff, huframe⟩ : (∀ j, u.lane j = w.lane j) ∧ (∀ j, j ≠ id → u.task? j = s.task? j)
          ∧ (goesOn → u.task? id = some t.advanced ∧ (u.crane k).active = some id)
          ∧ (¬ goesOn → u.task? id = none ∧ (u.crane k).active = none ∧ (u.crane k).lastCompleted = some (id, t.kind))
          ∧ u = { s with bins := u.bins, lanes := u.lanes, tasks := u.tasks, cranes := u.cranes, channels := u.channels } := by
        by_cases hon : t.goesOn = true
        · rw [advanceTask_on hon, setDown_settles (x := w.setTask id t.advanced) hs (.inl (by rw [hframe1]; rfl))
            (.inl (by show (w.crane k).queue = []; rw [hwcrane, hq]))
            (readyIfNewlyQueued_empty (by show (w.crane k).queue = []; rw [hwcrane, hq]) s)] at hu
          rw [← hu]
          refine ⟨fun j => rfl, fun j hj => (State.task?_setTask_other w hj _).trans (hwtask j),
            fun _ => ⟨State.task?_setTask_self .., ?_⟩, fun hoff => absurd (hgoes.1 hon) hoff, ?_⟩
          · rw [crane_cleared]
            exact (congrArg CraneTasks.active (hwcrane k)).trans ha
          · rw [hframe1, hdue]
            rfl
        · have hdone := completeTask_active (s := w) ((hwtask id).trans ht) htk ((congrArg _ (hwcrane k)).trans ha)
            (by rw [hwcrane, hq]; simp) (by rw [hwcrane, hstack])
          rw [advanceTask_done hon] at hu
          generalize completeTask id w = x at hu hdone
          obtain ⟨hxtask, hxcrane, hxcranes, hxframe⟩ := hdone
          have hxq : (x.crane k).queue = [] := by rw [hxcrane, hwcrane, hq]
          rw [setDown_settles (x := x) hs (.inr (by rw [hxframe, hframe1]; rfl)) (.inl hxq) (readyIfNewlyQueued_empty hxq s)] at hu
          rw [← hu]
          refine ⟨fun j => ?_, fun j hj => ?_, fun hoff => absurd (hgoes.2 hoff) hon,
            fun _ => ⟨(hxtask id).trans (if_pos rfl), ?_, ?_⟩, ?_⟩
          · show x.lane j = _
            rw [hxframe]
            rfl
          · exact (hxtask j).trans ((if_neg hj).trans (hwtask j))
          · rw [crane_cleared, hxcrane]
          · rw [crane_cleared, hxcrane]
          · rw [hxframe, hframe1, hdue]
            rfl
      clear hu hexact
      have hadvanced : t.advanced = { t with digLeft := t.digLeft - 1, step := next } := by
        simp [Task.advanced, Task.stepAfterSet, hredirect, next]
      rw [hadvanced] at huon
      refine ⟨?_, fun j hj => ?_, hutask, huon, huoff, ?_⟩
      · exact congrArg Lane.incoming ((hulane i).trans ((hlane1 i).trans (if_pos rfl)))
      · exact (hulane j).trans ((hlane1 j).trans (if_neg hj))
      · rw [huframe]
        rfl
  case station =>
    intro s k q id b cid p t r c h hk hs hmark ha hq hstack ht htk hkind hstep hfork hbin hredirect hdest hclaim hc hck hr hvalid
      hnear
    have hexec := execSetDown_station h hk (judgedTask_active (.inl hmark) ha) ht
      (setBinOf_eq (.inr hstep) hfork (by simp [Task.stepBin, hstep, hbin]))
      (setDownPlace_plain (d := .station p) hredirect (by simp [Task.place, hstep, hredirect, hdest]) hvalid
        (withinPick_station hnear))
    have hoff : ¬ t.goesOn = true := by simp [Task.goesOn, hstep]
    obtain ⟨hbin1, hstation1, hframe1⟩ := setAtStation_spec (s := consumeSetDown k s) (k := k) (p := p) hr
    rw [setDownAtStation_plain hredirect hclaim, advanceTask_done hoff] at hexec
    generalize setAtStation k b p (consumeSetDown k s) = w at *
    obtain ⟨hclaim2, hframe2⟩ := presentClaim_spec (s := w) (cid := cid) (c := c) (by rw [hframe1]; exact hc)
    generalize claimLosesTask cid (presentClaim cid w) = v at *
    have hvcrane (j) : v.crane j = s.crane j := by rw [hframe2, hframe1]; rfl
    have hvtask (j) : v.task? j = s.task? j := by rw [hframe2, hframe1]; rfl
    have hdone := completeTask_active (s := v) ((hvtask id).trans ht) htk ((congrArg _ (hvcrane k)).trans ha)
      (by rw [hvcrane, hq]; simp) (by rw [hvcrane, hstack])
    generalize completeTask id v = x at hexec hdone
    obtain ⟨hxtask, hxcrane, hxcranes, hxframe⟩ := hdone
    have hxq : (x.crane k).queue = [] := by rw [hxcrane, hvcrane, hq]
    rw [setDown_settles (x := x) hs (.inr (by rw [hxframe, hframe2, hframe1]; rfl)) (.inl hxq) (readyIfNewlyQueued_empty hxq s)]
      at hexec
    have hxbin (j) : x.bin? j = w.bin? j := by rw [hxframe, hframe2]; rfl
    have hxstation (j) : x.station j = w.station j := by rw [hxframe, hframe2]; rfl
    have hxclaim (j) : x.claim? j = v.claim? j := by rw [hxframe]; rfl
    have hwclaim (j) : w.claim? j = s.claim? j := by rw [hframe1]; rfl
    have hxchannel : x.channel k = (consumeSetDown k s).channel k := by rw [hxframe, hframe2, hframe1]; rfl
    have hdue := due_of_settled hs
    refine ⟨_, hexec, (hxbin b).trans ((hbin1 b).trans (if_pos rfl)), fun j hj => (hxbin j).trans ((hbin1 j).trans (if_neg hj)),
      (hxstation k).trans ((hstation1 k).trans (if_pos rfl)), fun j hj => (hxstation j).trans ((hstation1 j).trans (if_neg hj)),
      ?_, fun j hj => (hxclaim j).trans ((hclaim2 j).trans ((if_neg hj).trans (hwclaim j))), (hxtask id).trans (if_pos rfl),
      fun j hj => (hxtask j).trans ((if_neg hj).trans (hvtask j)), ?_, ?_,
      hxchannel.trans ((consumeSetDown_channel k k s).trans (if_pos rfl)), ?_⟩
    · refine (hxclaim cid).trans ((hclaim2 cid).trans ((if_pos rfl).trans ?_))
      have hst : (w.station c.station).state = (s.station k).state := by rw [hck, hstation1, if_pos rfl]; rfl
      have hparams : w.params = s.params ∧ w.wingTime = s.wingTime := by rw [hframe1]; exact ⟨rfl, rfl⟩
      rw [Claim.presentedAt, hst, hparams.1, hparams.2]
    · exact (congrArg CraneTasks.active ((crane_cleared x k).trans (by rw [hxcrane]))).trans rfl
    · refine (congrArg CraneTasks.lastCompleted ((crane_cleared x k).trans (by rw [hxcrane]))).trans ?_
      rw [hkind]
    · rw [hxframe, hframe2, hframe1, Task.setDownAnswer, if_neg hoff, hdue]
      rfl
  case redirected =>
    intro s k q id b i cid p kept t r c chain h hk hs hmark ha hq hstack hblocked ht htk hredirect hfork hr hchain hc hcb hck hct
      hkinds hvalid near lane next advanced
    have hgoes : t.goesOn = true ↔ t.kind = .fetch := by
      rw [goesOn_iff]
      rcases hkinds with ⟨h, -⟩ | ⟨h, -⟩ | ⟨h, hstep, -⟩
      · simp [h]
      · simp [h]
      · simp [h, hstep]
    have hstep : t.step = .relocSet ∨ t.step = .set := by
      rcases hkinds with ⟨-, h, -⟩ | ⟨-, h, -⟩ | ⟨-, h, -⟩ <;> simp [h]
    have hbin : t.stepBin = some b := by
      rcases hkinds with ⟨hkind, h, hb, -⟩ | ⟨hkind, h, hb, -⟩ | ⟨hkind, h, hb⟩ <;> simp [Task.stepBin, hkind, h, hb]
    have hlane : t.plannedLane = some i := by
      rcases hkinds with ⟨hkind, h, -, hd⟩ | ⟨hkind, h, -, hd⟩ | ⟨hkind, h, hd⟩ <;>
        simp [Task.plannedLane, Task.destLane, hkind, h, hd]
    have hjudged := judgedTask_active hmark ha
    have hset := setBinOf_eq hstep hfork hbin
    have hplace := setDownPlace_redirected hredirect hlane hvalid
    have hnearStation : s.withinPick (s.channel k).setDown.pos (s.placeMm k (.station p)) = true ↔ near s.params.stationPos[k] :=
      decide_eq_true_iff
    have hnearLane : s.withinPick (s.channel k).setDown.pos (s.placeMm k (.lane i)) = true ↔ near lane := decide_eq_true_iff
    have hadvanced : t.advanced = { t with digLeft := t.digLeft - 1, step := next, redirect := none } := rfl
    have hfinish {v x u : State} (hvbin : ∀ x, x ≠ b → v.bin? x = s.bin? x) (hvclaim : ∀ j, j ≠ cid → v.claim? j = s.claim? j)
        (hvlane : ∀ j, j ≠ i → v.lane j = s.lane j) (hvchannel : v.channel k = (consumeSetDown k s).channel k)
        (hvrest : v.rails = s.rails ∧ v.fires = s.fires ∧ v.shutters = s.shutters ∧ v.wing = s.wing ∧ v.params = s.params)
        (hva : (v.crane k).active = some id) (hx : Advances v x k id t)
        (hu : u = { x with due := u.due, cranes := u.cranes, portK := u.portK })
        (hucrane : u.crane k = { x.crane k with roomRefusal := false }) :
        advanced (u.answered (.k k) q .ok t.setDownAnswer) := by
      obtain ⟨-, hon, hoff, -, -, hframe⟩ := hx
      have hubin (j) : u.bin? j = v.bin? j := by rw [hu, hframe]; rfl
      have huclaim (j) : u.claim? j = v.claim? j := by rw [hu, hframe]; rfl
      have hulane (j) : u.lane j = v.lane j := by rw [hu, hframe]; rfl
      have huchannel : u.channel k = v.channel k := by rw [hu, hframe]; rfl
      have hutask (j) : u.task? j = x.task? j := by rw [hu]; rfl
      have hurest : u.rails = v.rails ∧ u.fires = v.fires ∧ u.shutters = v.shutters ∧ u.wing = v.wing ∧ u.params = v.params := by
        rw [hu, hframe]
        exact ⟨rfl, rfl, rfl, rfl, rfl⟩
      obtain ⟨hrails, hfires, hshutters, hwing, hparams⟩ := hvrest
      obtain ⟨hrails', hfires', hshutters', hwing', hparams'⟩ := hurest
      refine ⟨fun x hx => (hubin x).trans (hvbin x hx), fun j hj => (huclaim j).trans (hvclaim j hj),
        fun j hj => (hulane j).trans (hvlane j hj), ?_, hrails'.trans hrails, hfires'.trans hfires, hshutters'.trans hshutters,
        hwing'.trans hwing, hparams'.trans hparams, ?_⟩
      · show (u.channel k).setDown.valid = false
        rw [huchannel, hvchannel, consumeSetDown_channel, if_pos rfl]
      · split
        · next hkind =>
          obtain ⟨htask, hcrane⟩ := hon (hgoes.2 hkind)
          refine ⟨(hutask id).trans htask, ?_, (answered_slot ..).trans ?_⟩
          · exact (congrArg CraneTasks.active hucrane).trans ((congrArg CraneTasks.active hcrane).trans hva)
          · rw [Task.setDownAnswer, if_pos (hgoes.2 hkind)]
            rfl
        · next hkind =>
          obtain ⟨htask, hcrane⟩ := hoff (mt hgoes.1 hkind)
          have hucrane' := hucrane.trans (by rw [hcrane])
          refine ⟨(hutask id).trans htask, congrArg CraneTasks.active hucrane', congrArg CraneTasks.lastCompleted hucrane',
            (answered_slot ..).trans ?_⟩
          rw [Task.setDownAnswer, if_neg (mt hgoes.1 hkind)]
    refine ⟨fun hst => ?station, fun tid hst hln hkept hback hspare htid hcls => ?lane, fun hst hno hready => ?mismatch⟩
    case mismatch =>
      rw [if_neg (mt hnearStation.1 hst), if_neg (by
        rintro ⟨hkept, hln⟩
        rcases hno with hno | hno
        · exact absurd (hno.symm.trans hkept) (by simp)
        · exact hno (hnearLane.1 hln))] at hplace
      have hexec := execSetDown_mismatch h hk hjudged ht hplace
      obtain ⟨hframe, hrail⟩ := stopCrane_ready (s := consumeSetDown k s) hready .mismatch
      rw [settle_of_settled (by rw [hframe]; exact hs)] at hexec
      generalize stopCrane k .mismatch (consumeSetDown k s) = u at *
      have hrail' : (u.answered (.k k) q .mismatch []).rail k = u.rail k := rfl
      refine ⟨_, hexec, ?_, ?_, ?_, ?_, ?_, ?_, ?_, answered_slot ..⟩
      · rw [hframe]; rfl
      · rw [hframe]; rfl
      · rw [hframe]; rfl
      · rw [hframe]; rfl
      · rw [hframe]; rfl
      · rw [hrail', hrail]
      · rw [hrail', hrail]
    case station =>
      rw [if_pos (hnearStation.2 hst)] at hplace
      have hexec := execSetDown_station h hk hjudged ht hset hplace
      obtain ⟨hbin1, hstation1, hframe1⟩ := setAtStation_spec (s := consumeSetDown k s) (k := k) (p := p) hr
      rw [setDownAtStation_redirected hredirect hlane] at hexec
      generalize setAtStation k b p (consumeSetDown k s) = w1 at *
      have hblocked1 : w1.NoneBlocked := by rw [hframe1]; exact hblocked
      obtain ⟨hlane2, hframe2⟩ := releaseSlots_gives hblocked1 i (if kept = true then 1 else 0)
      generalize releaseSlots i (if kept = true then 1 else 0) w1 = w2 at *
      obtain ⟨hclaim3, hframe3⟩ := presentClaim_spec (s := w2) (cid := cid) (c := c) (by rw [hframe2, hframe1]; exact hc)
      generalize claimLosesTask cid (presentClaim cid w2) = v at *
      have hvcrane (j) : v.crane j = s.crane j := by rw [hframe3, hframe2, hframe1]; rfl
      have hvtask (j) : v.task? j = s.task? j := by rw [hframe3, hframe2, hframe1]; rfl
      have hvbin (j) : v.bin? j = w1.bin? j := by rw [hframe3, hframe2]; rfl
      have hvstation (j) : v.station j = w1.station j := by rw [hframe3, hframe2]; rfl
      have hvlane (j) : v.lane j = w2.lane j := by rw [hframe3]; rfl
      have hw1lane (j) : w1.lane j = s.lane j := by rw [hframe1]; rfl
      have hw2claim (j) : w2.claim? j = s.claim? j := by rw [hframe2, hframe1]; rfl
      have hx := advanceTask_advances (s := v) ((hvtask id).trans ht) htk ((congrArg _ (hvcrane k)).trans ha)
        (by rw [hvcrane, hq]; simp) (by rw [hvcrane, hstack])
      generalize advanceTask id t v = x at *
      have hxq : (x.crane k).queue = [] := by rw [hx.queue, hvcrane, hq]
      obtain ⟨hu, hucrane⟩ := setDown_ends (s := s) (x := x) (k := k) hs (by
        have : v.due = s.due := by rw [hframe3, hframe2, hframe1]; rfl
        rw [← this]
        exact hx.due) (.inl hxq)
      generalize settle (markDue k (readyIfNewlyQueued k s x)) = u at *
      have hxv := hx.frame
      have hubin (j) : u.bin? j = v.bin? j := by rw [hu, hxv]; rfl
      have huclaim (j) : u.claim? j = v.claim? j := by rw [hu, hxv]; rfl
      have hulane (j) : u.lane j = v.lane j := by rw [hu, hxv]; rfl
      have hustation (j) : u.station j = v.station j := by rw [hu, hxv]; rfl
      have hutask (j) : u.task? j = x.task? j := by rw [hu]; rfl
      have hulaneI := (hulane i).trans ((hvlane i).trans (hlane2 i))
      refine ⟨_, hexec, hfinish (fun j hj => (hvbin j).trans ((hbin1 j).trans (if_neg hj)))
        (fun j hj => (hclaim3 j).trans ((if_neg hj).trans (hw2claim j))) (fun j hj => ?_) (by rw [hframe3, hframe2, hframe1]; rfl)
        (by rw [hframe3, hframe2, hframe1]; exact ⟨rfl, rfl, rfl, rfl, rfl⟩) ((congrArg _ (hvcrane k)).trans ha) hx hu hucrane,
        ?_, ?_, ?_, ?_, ?_, fun j hj => ?_, ?_⟩
      · rw [hvlane, hlane2, hw1lane, if_neg hj, Nat.sub_zero]
      · exact (hubin b).trans ((hvbin b).trans ((hbin1 b).trans (if_pos rfl)))
      · exact (hustation k).trans ((hvstation k).trans ((hstation1 k).trans (if_pos rfl)))
      · exact (congrArg Lane.contents hulaneI).trans (by rw [hw1lane])
      · refine (congrArg Lane.incoming hulaneI).trans ?_
        rw [hw1lane, if_pos rfl]
        cases kept <;> simp
      · refine (huclaim cid).trans ((hclaim3 cid).trans ((if_pos rfl).trans ?_))
        have hst' : (w2.station c.station).state = (s.station k).state := by
          have : w2.station c.station = w1.station k := by rw [hck, hframe2]; rfl
          rw [this, hstation1, if_pos rfl]
          rfl
        have hrest : w2.params = s.params ∧ w2.wingTime = s.wingTime := by rw [hframe2, hframe1]; exact ⟨rfl, rfl⟩
        rw [Claim.presentedAt, hst', hrest.1, hrest.2]
      · exact (hutask j).trans ((hx.others j hj).trans (hvtask j))
      · exact (congrArg CraneTasks.queue hucrane).trans hxq
    case lane =>
      rw [if_neg (mt hnearStation.1 hst), if_pos ⟨hkept, hnearLane.2 hln⟩] at hplace
      have hexec := execSetDown_lane h hk hjudged ht hset hplace
      obtain ⟨hbin1, hlane1, hframe1⟩ := setInLane_spec (s := consumeSetDown k s) (b := b) (i := i) hr
      rw [setDownInLane_redirected hredirect] at hexec
      generalize setInLane b i (consumeSetDown k s) = w1 at *
      have hblocked1 : w1.NoneBlocked := by rw [hframe1]; exact hblocked
      rw [releasePosition_eq hblocked1] at hexec
      have hstation2 := State.station_modStation_self (s := w1) k (fun st => { st with promises := st.promises.set p none })
      have hframe2 : w1.modStation k (fun st => { st with promises := st.promises.set p none }) =
        { w1 with stations := (w1.modStation k (fun st => { st with promises := st.promises.set p none })).stations } := rfl
      generalize w1.modStation k (fun st => { st with promises := st.promises.set p none }) = w2 at *
      obtain ⟨hclaim3, hframe3⟩ := touchClaim_spec (s := w2) (cid := cid) (c := c) (by rw [hframe2, hframe1]; exact hc)
        (fun c => { c with state := .queued, task := none })
      generalize touchClaim cid (fun c => { c with state := .queued, task := none }) w2 = w3 at *
      have hblocked3 : w3.NoneBlocked := by rw [hframe3, hframe2]; exact hblocked1
      have hbin3 (j) : w3.bin? j = w1.bin? j := by rw [hframe3, hframe2]; rfl
      have htasks3 : w3.tasks = s.tasks := by rw [hframe3, hframe2, hframe1]; rfl
      have hcrane3 (j) : w3.crane j = s.crane j := by rw [hframe3, hframe2, hframe1]; rfl
      have hbinB := (hbin3 b).trans ((hbin1 b).trans (if_pos rfl))
      have hclaimC := (hclaim3 cid).trans (if_pos rfl)
      have hspare3 : w3.spareFetch b k = none := by
        unfold State.spareFetch
        rw [htasks3]
        exact hspare
      have hroom3 : w3.fetchRoom k = true := by
        unfold State.fetchRoom State.queuedFetches
        rw [hcrane3, hq]
        rfl
      rw [show laneQuieter w3 = w3 from hblocked3.reexamine _,
        binStored_placed hbinB hchain hclaimC rfl rfl (by rw [hframe3, hframe2, hframe1]; exact hback),
        placeClaim_stored hclaimC (by rw [← hcb] at hbinB; exact hbinB) rfl (by rw [← hcb, ← hck] at hspare3; exact hspare3)
          (by rw [← hck] at hroom3; exact hroom3)] at hexec
      obtain ⟨hclaim4, htask4, hcrane4, hdue4, hframe4⟩ := admitFetch_spec (k := k) hclaimC (by rw [htasks3]; exact htid) hck
        (by rw [hcrane3, hq])
      generalize admitFetch cid w3 = v at *
      have hne : id ≠ tid := by
        rintro rfl
        have := Table.lowestFree_free htid
        rw [State.task?, this] at ht
        contradiction
      have hw3task (j) : w3.task? j = s.task? j := by unfold State.task?; rw [htasks3]
      have hvtask (j) (hj : j ≠ tid) : v.task? j = s.task? j := (htask4 j).trans ((if_neg hj).trans (hw3task j))
      have hvcrane : v.crane k = { s.crane k with queue := [tid] } := by rw [hcrane4, hcrane3]
      have hvbin (j) : v.bin? j = w1.bin? j := (by rw [hframe4]; rfl : v.bin? j = w3.bin? j).trans (hbin3 j)
      have hvlane (j) : v.lane j = w1.lane j := by rw [hframe4, hframe3, hframe2]; rfl
      have hvstation : v.station k = w2.station k := by rw [hframe4, hframe3]; rfl
      have hvclaim (j) (hj : j ≠ cid) : v.claim? j = s.claim? j :=
        (hclaim4 j).trans ((if_neg hj).trans ((hclaim3 j).trans ((if_neg hj).trans (by rw [hframe2, hframe1]; rfl))))
      have hva : (v.crane k).active = some id := (congrArg CraneTasks.active hvcrane).trans ha
      have hvq : (v.crane k).queue = [tid] := congrArg CraneTasks.queue hvcrane
      have hvnew := (htask4 tid).trans (if_pos rfl)
      have hx := advanceTask_advances (s := v) ((hvtask id hne).trans ht) htk hva (by rw [hvq]; simpa using hne)
        ((congrArg CraneTasks.stack hvcrane).trans hstack)
      generalize advanceTask id t v = x at *
      have hxq : (x.crane k).queue = [tid] := hx.queue.trans hvq
      have hxnew := (hx.others tid (Ne.symm hne)).trans hvnew
      have hcalm : x.calm k := by
        by_cases hon : t.goesOn = true
        · obtain ⟨hxtask, hxcrane⟩ := hx.on hon
          exact .inr (.inr ⟨tid, id, _, _, hxq, by rw [hxcrane]; exact hva, hxnew, hxtask, hcls⟩)
        · obtain ⟨-, hxcrane⟩ := hx.done hon
          exact .inr (.inl (by rw [hxcrane]))
      have hxdue : x.due = s.due.set k true := by
        have hvdue : v.due = s.due.set k true := hdue4.trans (by rw [hframe3, hframe2, hframe1]; rfl)
        rcases hx.due with h | h <;> rw [h, hvdue]
        simp
      obtain ⟨hu, hucrane⟩ := setDown_ends (s := s) (x := x) (k := k) hs (.inr hxdue) hcalm
      generalize settle (markDue k (readyIfNewlyQueued k s x)) = u at *
      have hxv := hx.frame
      have hubin (j) : u.bin? j = v.bin? j := by rw [hu, hxv]; rfl
      have huclaim (j) : u.claim? j = v.claim? j := by rw [hu, hxv]; rfl
      have hulane (j) : u.lane j = v.lane j := by rw [hu, hxv]; rfl
      have hustation (j) : u.station j = v.station j := by rw [hu, hxv]; rfl
      have hutask (j) : u.task? j = x.task? j := by rw [hu]; rfl
      have hulaneI := (hulane i).trans ((hvlane i).trans ((hlane1 i).trans (if_pos rfl)))
      have hw1lane (j) (hj : j ≠ i) : w1.lane j = s.lane j := (hlane1 j).trans (if_neg hj)
      refine ⟨_, hexec, hfinish (fun j hj => (hvbin j).trans ((hbin1 j).trans (if_neg hj))) hvclaim
        (fun j hj => (hvlane j).trans (hw1lane j hj)) (by rw [hframe4, hframe3, hframe2, hframe1]; rfl)
        (by rw [hframe4, hframe3, hframe2, hframe1]; exact ⟨rfl, rfl, rfl, rfl, rfl⟩) hva hx hu hucrane,
        (hubin b).trans ((hvbin b).trans ((hbin1 b).trans (if_pos rfl))), ?_, congrArg Lane.contents hulaneI,
        congrArg Lane.incoming hulaneI, (huclaim cid).trans ((hclaim4 cid).trans (if_pos rfl)), ?_, fun j hj hj' => ?_, ?_⟩
      · refine (hustation k).trans (hvstation.trans (hstation2.trans ?_))
        rw [hframe1]
        rfl
      · refine (hutask tid).trans (hxnew.trans ?_)
        rw [Claim.fetch, Task.admittedAt, Task.new, hframe3, hframe2, hframe1, hck, hcb]
        rfl
      · exact (hutask j).trans ((hx.others j hj).trans (hvtask j hj'))
      · exact (congrArg CraneTasks.queue hucrane).trans hxq
  case parkPush =>
    intro s k q new old b i t o r rest h hk hs hmark ha ht hstack hne hrest hq hblocked ho hok hkind hstep hredirect hbin hdest
      hfork hr hchain hvalid hnear
    have hexec := execSetDown_lane h hk (judgedTask_stack (.inr hmark) hstack) ho
      (setBinOf_eq (.inr hstep) hfork (by simp [Task.stepBin, hstep, hbin]))
      (setDownPlace_plain (d := .lane i) hredirect (by simp [Task.place, hstep, hredirect, hdest]) hvalid (withinPick_lane hnear))
    have hoff : ¬ o.goesOn = true := by simp [Task.goesOn, hstep]
    obtain ⟨hbin1, hlane1, hframe1⟩ := setInLane_spec (s := consumeSetDown k s) (b := b) (i := i) hr
    rw [setDownInLane_unclaimed (s := consumeSetDown k s) hr hchain hredirect hblocked, advanceTask_done hoff] at hexec
    generalize setInLane b i (consumeSetDown k s) = w at *
    have hwcrane (j) : w.crane j = s.crane j := by rw [hframe1]; rfl
    have hwtask (j) : w.task? j = s.task? j := by rw [hframe1]; rfl
    have hdone := completeTask_suspended (s := w) (rest := rest) ((hwtask old).trans ho) hok
      (by rw [hwcrane, ha]; simpa using hne) (by rw [hwcrane, hq]; simp) (by rw [hwcrane, hstack])
    generalize completeTask old w = x at hexec hdone
    obtain ⟨hxtask, hxcrane, hxcranes, hxframe⟩ := hdone
    have hxq : (x.crane k).queue = [] := by rw [hxcrane, hwcrane, hq]
    rw [setDown_settles (x := x) hs (.inr (by rw [hxframe, hframe1]; rfl)) (.inl hxq) (readyIfNewlyQueued_empty hxq s)] at hexec
    have hxbin (j) : x.bin? j = w.bin? j := by rw [hxframe]; rfl
    have hxlane (j) : x.lane j = w.lane j := by rw [hxframe]; rfl
    have hucrane := (crane_cleared x k).trans (by rw [hxcrane, hwcrane])
    have hulane := (hxlane i).trans ((hlane1 i).trans (if_pos rfl))
    refine ⟨_, hexec, (hxbin b).trans ((hbin1 b).trans (if_pos rfl)), fun j hj => (hxbin j).trans ((hbin1 j).trans (if_neg hj)),
      congrArg Lane.contents hulane, congrArg Lane.incoming hulane, fun j hj => (hxlane j).trans ((hlane1 j).trans (if_neg hj)),
      (hxtask old).trans (if_pos rfl), fun j hj => (hxtask j).trans ((if_neg hj).trans (hwtask j)),
      (congrArg CraneTasks.active hucrane).trans ha, congrArg CraneTasks.stack hucrane,
      (congrArg CraneTasks.lastCompleted hucrane).trans (by rw [hkind]), ?_⟩
    rw [hxframe, hframe1]
    exact ⟨rfl, rfl, rfl, rfl⟩
end

section
namespace Sys2Proof.Machine

/-! ### STATION (R22) -/

/-- The record that an accepted STATION leaves (R22). -/
def Station.setting (st : Station) (setting : Staff) (mask : BitVec 8) : Station :=
  { st with
    staff := setting, keyMask := mask,
    state := if st.state = .shuttered then .shuttered else if setting = .opened then .opened else .closed }

/-- The response of STATION: the record as it stands (R22, log 13). -/
def Station.fields (st : Station) : List Byte :=
  put8 st.state.code ++ put8 st.staff.code ++ [st.keyMask] ++ put16? st.bins[0] ++ put16? st.bins[1]
    ++ putFlag st.promises[0].isSome ++ putFlag st.promises[1].isSome

theorem serveStation_refused {s : State} {body : List Byte} {k : Crane} (hk : byteAt body 0 = k.val)
    (h : 1 < byteAt body 1) : serveStation body s = refuse .outOfRange s := by
  simp [serveStation, hk, h]

theorem serveStation_eq {s : State} {body : List Byte} {k : Crane} {setting : Staff} (hk : byteAt body 0 = k.val)
    (h : byteAt body 1 = setting.code) : serveStation body s = reply .ok
      (((s.station k).setting setting (body.getD 2 0)).fields)
      (s.modStation k (fun _ => (s.station k).setting setting (body.getD 2 0))) := by
  have hbody : (((s.modStation k (fun _ => (s.station k).setting setting (body.getD 2 0))).station k).fields)
      = ((s.station k).setting setting (body.getD 2 0)).fields := by simp
  rw [← hbody]
  unfold serveStation
  rw [hk, craneOf_val, h]
  cases setting <;> rfl

end Sys2Proof.Machine

open Sys2Proof.Machine

/-- Settles O15: a setting above 1 is refused, and a setting of the table is written into the record that is answered. -/
theorem stationTakesTheSetting : Obligations.StationTakesTheSetting := by
  unfold Obligations.StationTakesTheSetting
  intro s q k h hk h0
  refine ⟨fun h1 => congrArg _ (take_eq_answered h hk rfl (serveStation_refused h0 h1)), fun setting h1 => ?_⟩
  exact congrArg _ (take_eq_answered h hk rfl (serveStation_eq h0 h1))
end

section
namespace Sys2Proof.Machine

/-! ### Requests that name a claim (R35) -/

theorem liveClaim_ok {s : State} {id : Nat} {c : Claim} (hw : s.wing = .opened) (hid : id ≤ 127)
    (hc : s.claim? id = some c) (hlive : c.state.live = true) : s.liveClaim id false = .ok c := by
  simp [State.liveClaim, hw, Nat.not_lt.mpr hid, hc, hlive]

theorem presentedClaim_ok {s : State} {id : Nat} {c : Claim} (hw : s.wing = .opened) (hid : id ≤ 127)
    (hc : s.claim? id = some c) (hp : c.state = .presented) : s.presentedClaim id false = .ok c := by
  simp [State.presentedClaim, liveClaim_ok hw hid hc (by rw [hp]; rfl), hp]

/-! ### PICK (R35) and COUNT (R36) -/

theorem servePick_eq {s : State} {body : List Byte} {c : Claim} {r : Bin} {it : Item} {o : ItemOutcome}
    (hw : s.wing = .opened) (hid : byteAt body 0 ≤ 127) (hc : s.claim? (byteAt body 0) = some c)
    (hp : c.state = .presented) (hi : c.items[byteAt body 1]? = some it) (hit : it.outcome = .pending)
    (hr : s.bin? c.bin = some r) (ho : pickOutcomeOf (byteAt body 2) = some o) (hfits : outcomeFits c.kind o = true) :
    let items := c.items.set (byteAt body 1) { it with outcome := o }
    let r' := r.picked o it.units
    servePick body s = reply (if o = .taken ∧ r.fill < it.units then .clamped else .ok)
      (put8 (byteAt body 0) ++ put8 (byteAt body 1) ++ put8 r'.fill ++ put8 r'.reserved
        ++ put8 (items.filter (fun x => decide (x.outcome = .pending))).length)
      { (s.setBin c.bin r').setClaim (byteAt body 0) { c with items := items, unseen := true } with
        portC := { s.portC with latch := s.portC.latch ||| 8 } } := by
  intro items r'
  have hclaim : (s.setBin c.bin r').claim? (byteAt body 0) = some c := hc
  have hs1 : touchClaim (byteAt body 0) (fun c => { c with items := c.items.set (byteAt body 1) { it with outcome := o } })
      (s.setBin c.bin r') = { (s.setBin c.bin r').setClaim (byteAt body 0) { c with items := items, unseen := true } with
        portC := { s.portC with latch := s.portC.latch ||| 8 } } := by
    unfold touchClaim
    rw [hclaim]
    rfl
  unfold servePick
  dsimp only
  rw [ho, Option.isNone_some, presentedClaim_ok hw hid hc hp]
  dsimp only
  rw [hi]
  dsimp only
  rw [if_neg (by simp [hfits]), if_neg (by simp [hit]), State.modBin_eq hr, hs1, hr]
  have hbin : State.bin? { (s.setBin c.bin r').setClaim (byteAt body 0) { c with items := items, unseen := true } with
        portC := { s.portC with latch := s.portC.latch ||| 8 } } c.bin = some r' := State.bin?_setBin_self s c.bin r'
  have hcl : State.claim? { (s.setBin c.bin r').setClaim (byteAt body 0) { c with items := items, unseen := true } with
        portC := { s.portC with latch := s.portC.latch ||| 8 } } (byteAt body 0)
        = some { c with items := items, unseen := true } := State.claim?_setClaim_self (s.setBin c.bin r') _ _
  rw [hbin, hcl]
  show reply (if (decide (o = .taken) && decide (r.fill < it.units)) = true then _ else _) _ _ = _
  rw [← Bool.decide_and]
  simp only [decide_eq_true_eq]
  rfl

theorem serveCount_eq {s : State} {body : List Byte} {c : Claim} {r : Bin} (hw : s.wing = .opened)
    (hid : byteAt body 0 ≤ 127) (hc : s.claim? (byteAt body 0) = some c) (hp : c.state = .presented)
    (hkind : c.kind = .audit) (hr : s.bin? c.bin = some r) :
    let o := countOutcome s.params.capacity r (byteAt body 1)
    let r' := r.counted s.params.capacity (byteAt body 1)
    serveCount body s = reply (if o = 2 then .clamped else .ok) (put8 o ++ put8 r'.fill) (s.setBin c.bin r') := by
  simp [serveCount, presentedClaim_ok hw hid hc hp, hkind, hr]

/-! ### QUERY CLAIM (R44) -/

theorem serveQueryClaim_eq {s : State} {body : List Byte} {c : Claim} (fields : State → Nat → Claim → List Byte)
    (hid : byteAt body 0 ≤ 127) (hc : s.claim? (byteAt body 0) = some c) :
    serveQueryClaim fields false body s =
      reply .ok (fields s (byteAt body 0) c) (readClaim (byteAt body 0) c s) := by
  simp [serveQueryClaim, Nat.not_lt.mpr hid, hc]

theorem live_eq_false_iff (st : ClaimState) : st.live = false ↔ st = .done ∨ st = .cancelled ∨ st = .expired := by
  cases st <;> simp [ClaimState.live]

/-- A claim that is read loses its flag, or its entry where it is final (R26, R27, R44). -/
theorem readClaim_spec (id : Nat) (c : Claim) (s : State) : let u := readClaim id c s
    u.claim? id = (if c.state = .done ∨ c.state = .cancelled ∨ c.state = .expired then none
        else some { c with unseen := false })
      ∧ (∀ j, j ≠ id → u.claim? j = s.claim? j) ∧ u = { s with claims := u.claims } := by
  unfold readClaim
  simp only [← live_eq_false_iff]
  cases c.state.live with
  | true => exact ⟨State.claim?_setClaim_self .., fun j hj => State.claim?_setClaim_other _ hj _, rfl⟩
  | false =>
    exact ⟨Table.find?_erase_self .., fun j hj => (Table.find?_erase s.claims id j).trans (if_neg hj), rfl⟩

theorem answered_claims (s : State) (p : Port) (q : Request) (st : Status) (body : List Byte) :
    (s.answered p q st body).claims = s.claims := by cases p <;> rfl

/-- An answer leaves what is said of a state's claims. -/
theorem answered_read {s u : State} {q : Request} (hu : u = { s with claims := u.claims }) (body : List Byte) :
    u.answered .c q .ok body = State.answered { s with claims := (u.answered .c q .ok body).claims } .c q .ok body := by
  rw [answered_claims, ← hu]

end Sys2Proof.Machine

open Sys2Proof.Machine

/-- Settles O17: each outcome of the manual's table fits its kind of claim, and the record it gives is `Bin.picked`. -/
theorem pickRecordsTheOutcome : Obligations.PickRecordsTheOutcome := by
  unfold Obligations.PickRecordsTheOutcome
  intro s q c r it h hk hw id i hid hc hp hi hit hr picked
  have key (o : ItemOutcome) (ho : pickOutcomeOf (byteAt q.body 2) = some o) (hfits : outcomeFits c.kind o = true)
      {st : Status} (hst : (if o = .taken ∧ r.fill < it.units then Status.clamped else .ok) = st) :
      picked o (r.picked o it.units) st :=
    hst ▸ congrArg _ (take_eq_answered h hk rfl (servePick_eq hw hid hc hp hi hit hr ho hfits))
  refine ⟨fun hkind h2 hle => ?_, fun hkind h2 hlt => ?_, fun hkind h2 => ?_, fun hkind h2 => ?_⟩
  · have hclamp : ¬ r.fill < it.units := Nat.not_lt.mpr hle
    simpa [Bin.picked, hclamp] using key .taken (by rw [h2]; rfl) (by rw [hkind]; rfl) (st := .ok) (by simp [hclamp])
  · have hzero : r.fill - it.units = 0 := by omega
    simpa [Bin.picked, hlt, hzero] using key .taken (by rw [h2]; rfl) (by rw [hkind]; rfl) (st := .clamped) (by simp [hlt])
  · exact key .absent (by rw [h2]; rfl) (by rw [hkind]; rfl) rfl
  · exact key .placed (by rw [h2]; rfl) (by rw [hkind]; rfl) rfl

/-- Settles O18: the three rows of the manual's table, in its order. -/
theorem countConfirmsTheFill : Obligations.CountConfirmsTheFill := by
  unfold Obligations.CountConfirmsTheFill
  intro s q c r h hk hw id f hid hc hp hkind hr counted
  have key {o : Nat} (ho : countOutcome s.params.capacity r f = o) :
      counted o (r.counted s.params.capacity f) (if o = 2 then .clamped else .ok) :=
    ho ▸ congrArg _ (take_eq_answered h hk rfl (serveCount_eq hw hid hc hp hkind hr))
  refine ⟨fun hf => ?_, fun hf hle => ?_, fun hf hlt => ?_⟩
  · have ho : countOutcome s.params.capacity r f = 0 := if_pos hf
    simpa [Bin.counted, ho] using key ho
  · have ho : countOutcome s.params.capacity r f = 1 := (if_neg hf).trans (if_neg (Nat.not_lt.mpr hle))
    simpa [Bin.counted, ho] using key ho
  · have ho : countOutcome s.params.capacity r f = 2 := (if_neg hf).trans (if_pos hlt)
    simpa [Bin.counted, ho] using key ho

/-- Settles O20: both forms read the claim in the same way, and answer the fields of their form. -/
theorem queryClaimReadsAndRetires : Obligations.QueryClaimReadsAndRetires := by
  unfold Obligations.QueryClaimReadsAndRetires
  intro s q c h hk hid hc id read
  obtain ⟨hself, hothers, hframe⟩ := readClaim_spec id c s
  have key (body : List (BitVec 8)) : read ((readClaim id c s).answered .c q .ok body) body := by
    refine ⟨?_, fun j hj => ?_, answered_read hframe body⟩
    · rw [← hself]; exact congrArg (Table.find? · id) (answered_claims ..)
    · rw [← hothers j hj]; exact congrArg (Table.find? · j) (answered_claims ..)
  refine ⟨fun h1 => ⟨_, congrArg Host.Outcome.next (take_eq_answered h hk ?_ ?_), key _⟩,
    fun h1 => ⟨_, congrArg Host.Outcome.next (take_eq_answered h hk ?_ ?_), key _⟩⟩
  · simp [itemsForm, h1]
  · rw [h1]
    simpa [putClaim, putList] using serveQueryClaim_eq putClaim hid hc
  · simp [itemsForm, h1]
  · exact serveQueryClaim_eq _ hid hc
end

section
namespace Sys2Proof.Machine

/-! ### The millisecond (R173) -/

/-- The events of a millisecond are the same in whatever order they wait (log 11). -/
theorem arrange_perm (time n : Nat) (l : List Instr) : (arrange time n l).Perm l := by
  induction n generalizing l with
  | zero => exact List.Perm.refl l
  | succ n ih =>
    unfold arrange
    split
    · exact List.Perm.refl l
    · extract_lets i
      have hi : i < l.length := Nat.mod_lt _ (by omega)
      rw [List.getElem?_eq_getElem hi]
      exact ((ih _).cons l[i]).trans (List.getElem_cons_eraseIdx_perm hi)

theorem runsOut_iff (running : Bool) (left : Nat) : runsOut running left = true ↔ running = true ∧ left = 1 := by
  simp [runsOut]

theorem linkCounts_iff (s : State) (k : Crane) :
    s.linkCounts k = true ↔ (s.rail k).linkArmed = true ∧ ∃ r, (s.port (.k k)).slot = .holding r := by
  unfold State.linkCounts
  cases (s.port (.k k)).slot <;> simp

theorem aisle_eq (a : Aisle) : a = 0 ∨ a = 1 := by revert a; decide

variable (s : State)

theorem windowEnd_expiring (k : Crane) : Instr.windowEnd k ∈ s.expiring ↔ (s.channel k).windowLeft = 1 := by
  simp [State.expiring, runsOut_iff, mem_allCranes]

theorem linkExpiry_expiring (k : Crane) : Instr.linkExpiry k ∈ s.expiring ↔ (s.rail k).linkArmed = true
    ∧ (s.rail k).linkLeft = 1 ∧ ∃ r, (s.port (.k k)).slot = .holding r := by
  simp [State.expiring, runsOut_iff, mem_allCranes, linkCounts_iff, and_comm, and_left_comm]

theorem dwellExpiry_expiring (h : s.claims.wf = true) (id : Nat) : Instr.dwellExpiry id ∈ s.expiring ↔
    ∃ c, s.claim? id = some c ∧ c.state = .presented ∧ c.dwell = 1 := by
  simp [State.expiring, runsOut_iff, Claim.counts, Table.mem_entries h, State.claim?]

theorem timer_runsOut (t : Timer) : runsOut t.running t.left = true ↔ t = ⟨true, 1⟩ := by
  rw [runsOut_iff, Timer.mk.injEq]

theorem shutterHoldExpiry_expiring (a : Aisle) :
    Instr.shutterHoldExpiry a ∈ s.expiring ↔ (s.fire a).hold = ⟨true, 1⟩ := by
  rw [← timer_runsOut]
  simp [State.expiring, aisle_eq]

theorem shutterConfirmExpiry_expiring (a : Aisle) :
    Instr.shutterConfirmExpiry a ∈ s.expiring ↔ (s.fire a).confirm = ⟨true, 1⟩ := by
  rw [← timer_runsOut]
  simp [State.expiring, aisle_eq]

/-! ### The timers after a millisecond -/

theorem countTimers_channel (k : Crane) :
    (countTimers s).channel k = { s.channel k with windowLeft := (s.channel k).windowLeft - 1 } := by
  simp [countTimers, State.channel, countDown]

theorem countTimers_rail (k : Crane) : (countTimers s).rail k =
    { s.rail k with linkLeft := countDown (s.linkCounts k) (s.rail k).linkLeft } := by
  simp [countTimers, State.rail]

theorem countTimers_fire (a : Aisle) : (countTimers s).fire a =
    { s.fire a with hold := (s.fire a).hold.tick, confirm := (s.fire a).confirm.tick } := by
  simp [countTimers, State.fire]

theorem countTimers_claim? (id : Nat) : (countTimers s).claim? id = (s.claim? id).map Claim.tick :=
  lookupEntry_map Claim.tick id s.claims.entries

theorem claim_tick_eq (c : Claim) :
    c.tick = { c with dwell := if c.state = .presented then c.dwell - 1 else c.dwell } := by
  simp [Claim.tick, countDown, Claim.counts]

end Sys2Proof.Machine

open Sys2Proof.Machine

/-- Settles O5: each timer is counted down by its own record, and the events that wait are those of `State.expiring`, in
an order that does not matter for what waits. -/
theorem aMillisecondCountsTheTimers : Obligations.AMillisecondCountsTheTimers := by
  unfold Obligations.AMillisecondCountsTheTimers
  intro s hp hr hwf
  have htick : tick s = { countTimers s with
      wingTime := (s.wingTime + 1) % 2 ^ 64,
      pending := s.pending ++ arrange s.wingTime s.expiring.length s.expiring } := if_neg (by simp [hr])
  have hstep : step s = .next (tick s) := by unfold step; rw [hp]
  have hwait (c : Sys2Proof.Instr) : c ∈ (tick s).pending ↔ c ∈ s.expiring := by
    rw [htick, hp]
    exact (arrange_perm ..).mem_iff
  have hrail (k : Sys2Proof.Crane) : (tick s).rail k =
      { s.rail k with linkLeft := countDown (s.linkCounts k) (s.rail k).linkLeft } := by
    rw [htick]; exact countTimers_rail s k
  refine ⟨tick s, hstep, by rw [htick], fun k => by rw [htick]; exact countTimers_channel s k, fun k => by rw [hrail],
    fun k r hslot => ?_, fun k q hslot => ?_, fun id => ?_, fun a => by rw [htick]; exact countTimers_fire s a,
    by rw [htick]; rfl, fun k => ?_, fun k => ?_, fun id => ?_, fun a => ?_, fun a => ?_⟩
  · rw [hrail]
    simp [State.linkCounts, hslot, countDown]
  · rw [hrail]
    simp [State.linkCounts, hslot, countDown]
  · rw [htick]
    exact (countTimers_claim? s id).trans (congrArg (Option.map · _) (funext claim_tick_eq))
  · rw [hwait, windowEnd_expiring]
  · rw [hwait, linkExpiry_expiring]
  · rw [hwait, dwellExpiry_expiring s hwf]
  · rw [hwait, shutterHoldExpiry_expiring]
  · rw [hwait, shutterConfirmExpiry_expiring]
end

section
namespace Sys2Proof.Machine

/-! ### The end of a claim (R38, R39, R42) -/

/-- A claim that has ended (R38): its PENDING items are settled, and it names no task. -/
def Claim.ended (final : ClaimState) (c : Claim) : Claim :=
  { c with
    state := final, unseen := true, task := none,
    items := c.items.map (fun i => { i with
      outcome := if i.outcome = .pending then (if c.kind = .ret then .withdrawn else .notCollected) else i.outcome }) }

/-- A bin that a claim has left: it gives back the units of the claim's PENDING items (R34, R38). -/
def Bin.left (id : Nat) (c : Claim) (r : Bin) : Bin :=
  { r with
    chain := r.chain.erase id,
    reserved := r.reserved - (if c.kind = .ret
      then ((c.items.filter (fun i => decide (i.outcome = .pending))).map Item.units).sum else 0) }

theorem item_settled_eq (kind : ClaimKind) (i : Item) : i.settled kind = { i with
    outcome := if i.outcome = .pending then (if kind = .ret then .withdrawn else .notCollected) else i.outcome } := by
  unfold Item.settled
  split
  · cases kind <;> rfl
  · rfl

theorem pendingUnits_eq (c : Claim) : c.pendingUnits =
    if c.kind = .ret then ((c.items.filter (fun i => decide (i.outcome = .pending))).map Item.units).sum else 0 := by
  unfold Claim.pendingUnits
  cases c.kind <;> rfl

variable {s : State} {id tid : Nat} {c : Claim} {r : Bin} {p : Pos}

theorem endClaim_spec (hc : s.claim? id = some c) (hr : s.bin? c.bin = some r) (final : ClaimState) :
    let u := endClaim id final s
    (∀ j, u.claim? j = if j = id then some (c.ended final) else s.claim? j)
      ∧ (∀ b, u.bin? b = if b = c.bin then some (r.left id c) else s.bin? b)
      ∧ u = { s with
          claims := u.claims, bins := u.bins, backlog := s.backlog.erase id,
          portC := { s.portC with latch := s.portC.latch ||| 8 } } := by
  have hleft : { r with reserved := r.reserved - c.pendingUnits, chain := r.chain.erase id } = r.left id c := by
    rw [pendingUnits_eq]; rfl
  have hitems : c.items.map (Item.settled c.kind) = (c.ended final).items :=
    List.map_congr_left (fun i _ => item_settled_eq c.kind i)
  let w : State := { s.setBin c.bin (r.left id c) with backlog := s.backlog.erase id }
  have hu : endClaim id final s = touchClaim id
      (fun c => { c with state := final, items := c.items.map (Item.settled c.kind), task := none }) w := by
    unfold endClaim
    rw [hc]
    dsimp only
    rw [State.modBin_eq hr, hleft]
    rfl
  obtain ⟨hclaim, hframe⟩ := touchClaim_spec (s := w) hc
    (fun c => { c with state := final, items := c.items.map (Item.settled c.kind), task := none })
  rw [hu]
  refine ⟨fun j => ?_, fun b => ?_, ?_⟩
  · rw [hclaim, hitems]; rfl
  · rw [hframe]; exact State.bin?_setBin s c.bin b _
  · rw [hframe]; rfl

/-- A presented claim that ends with no other claim on its bin and no STOW for it: the bin's STOW is queued (R33, R38). -/
theorem settle_endPresented (hs : s.settled) (hc : s.claim? id = some c) (hr : s.bin? c.bin = some r)
    (hchain : r.chain = [id]) (hplace : r.place = .atStation c.station p) (hstow : s.stowOf c.bin = none)
    (ha : (s.crane c.station).active = none) (htid : s.tasks.lowestFree 64 = some tid) (final : ClaimState) :
    let u := settle (endPresented id final s)
    (∀ j, u.claim? j = if j = id then some (c.ended final) else s.claim? j)
      ∧ (∀ b, u.bin? b = if b = c.bin then some (r.left id c) else s.bin? b)
      ∧ (∀ j, u.task? j = if j = tid then some (enteringStow c.station p c.bin s.wingTime) else s.task? j)
      ∧ tid ∈ (u.crane c.station).queue
      ∧ u = { s with
          claims := u.claims, bins := u.bins, backlog := s.backlog.erase id, tasks := u.tasks, cranes := u.cranes,
          portK := u.portK, portC := u.portC, due := u.due } := by
  obtain ⟨hclaim, hbin, hframe⟩ := endClaim_spec hc hr final
  generalize hw : endClaim id final s = w at hclaim hbin hframe
  have hwbin : w.bin? c.bin = some (r.left id c) := by rw [hbin, if_pos rfl]
  have hhead : w.chainHead c.bin = none := by simp [State.chainHead, hwbin, Bin.left, hchain]
  have htasks : w.tasks = s.tasks := by rw [hframe]
  have hcranes : w.cranes = s.cranes := by rw [hframe]
  have hhand : endPresented id final s = admitAt tid (standingStow c.station p c.bin) w := by
    unfold endPresented
    rw [hc]
    dsimp only
    rw [hw]
    unfold handOnBin
    rw [hwbin]
    dsimp only
    rw [show (r.left id c).place = _ from hplace]
    dsimp only
    unfold handOn
    rw [hhead]
    exact admitStow_new (by unfold State.stowOf; rw [htasks]; exact hstow) (by rw [htasks]; exact htid) ..
  have hsettled : w.settled := by unfold State.settled; rw [hframe]; exact hs
  have hidle : (w.crane (standingStow c.station p c.bin).crane).active = none := by
    unfold State.crane; rw [hcranes]; exact ha
  have hu := settle_admitAt_inactive hsettled tid hidle
  obtain ⟨tasks, cranes, portK, due, hadmit⟩ := admitAt_frame tid (standingStow c.station p c.bin) w
  have htask := admitAt_task? tid (standingStow c.station p c.bin) w
  have hqueue := admitAt_crane tid (standingStow c.station p c.bin) w c.station
  rw [hhand, hu]
  refine ⟨fun j => ?_, fun b => ?_, fun j => ?_, ?_, ?_⟩
  · rw [← hclaim, hadmit]; rfl
  · rw [← hbin, hadmit]; rfl
  · refine (htask j).trans ?_
    rw [admittedAt_standingStow, show w.wingTime = s.wingTime by rw [hframe]]
    simp only [State.task?, htasks]
  · show tid ∈ (State.crane (State.modCrane _ c.station _) c.station).queue
    rw [State.crane_modCrane_self]
    show tid ∈ ((admitAt tid (standingStow c.station p c.bin) w).crane c.station).queue
    rw [hqueue, if_pos (standingStow_crane ..).symm]
    exact (State.mem_enqueue ..).mpr (Or.inl rfl)
  · rw [hadmit, hframe]
    rfl

theorem serveCancel_presented {body : List Byte} (hw : s.wing = .opened) (hid : byteAt body 0 ≤ 127)
    (hc : s.claim? (byteAt body 0) = some c) (hp : c.state = .presented) :
    serveCancel body s = reply .ok [] (settle (endPresented (byteAt body 0) .cancelled s)) := by
  simp [serveCancel, liveClaim_ok hw hid hc (by rw [hp]; rfl), hp]

theorem serveRelease_presented {body : List Byte} (hw : s.wing = .opened) (hid : byteAt body 0 ≤ 127)
    (hc : s.claim? (byteAt body 0) = some c) (hp : c.state = .presented) : serveRelease body s = reply .ok
      (putList (fun i => put8 i.outcome.code)
        (((settle (endPresented (byteAt body 0) .done s)).claim? (byteAt body 0)).elim [] Claim.items))
      (settle (endPresented (byteAt body 0) .done s)) := by
  simp [serveRelease, presentedClaim_ok hw hid hc hp]

theorem execDwellExpiry_presented (hr : s.inReset = false) (hc : s.claim? id = some c) (hp : c.state = .presented)
    (hd : c.dwell = 0) :
    exec (.dwellExpiry id) s = .next (latchC .dwell (settle (endPresented id .expired s))) := by
  simp [exec, execDwellExpiry, hc, hr, hp, hd]

/-- CANCEL of a claim that waits with no task behind another ends it, and settles no task (R34, R39). -/
theorem serveCancel_waiting {body : List Byte} (hs : s.settled) (hw : s.wing = .opened) (hid : byteAt body 0 ≤ 127)
    (hc : s.claim? (byteAt body 0) = some c) (hq : c.state = .queued) (htask : c.task = none)
    (hr : s.bin? c.bin = some r) (hhead : r.chain.head? ≠ some (byteAt body 0)) :
    serveCancel body s = reply .ok [] (endClaim (byteAt body 0) .cancelled s) := by
  have hchain : s.chainHead c.bin ≠ some (byteAt body 0) := by simpa [State.chainHead, hr] using hhead
  have hend : cancelWaiting (byteAt body 0) s = endClaim (byteAt body 0) .cancelled s := by
    simp [cancelWaiting, hc, hchain, settleTask, htask]
  have hsettled : (endClaim (byteAt body 0) .cancelled s).settled := by
    unfold State.settled; rw [(endClaim_spec hc hr _).2.2]; exact hs
  simp [serveCancel, liveClaim_ok hw hid hc (by rw [hq]; rfl), hq, hend, settle_of_settled hsettled]

end Sys2Proof.Machine

open Sys2Proof.Machine

/-- Settles O19: the three ends of a presented claim leave the same state but for port C, which `settle_endPresented`
describes; a claim that waits ends by `endClaim` alone. -/
theorem aClaimEnds : Obligations.AClaimEnds := by
  unfold Obligations.AClaimEnds
  refine ⟨?presented, ?waiting⟩
  case presented =>
    intro s id tid c r p hid hreset hs hc hp hr hchain hplace hstow ha htid ended
    have key (final : ClaimState) (portC : PortBlock) :
        ended { settle (endPresented id final s) with portC := portC } final := by
      obtain ⟨hclaim, hbin, htask, hqueue, hframe⟩ :=
        settle_endPresented hs hc hr hchain hplace hstow ha htid final
      refine ⟨(hclaim id).trans (if_pos rfl), fun j hj => (hclaim j).trans (if_neg hj),
        (hbin c.bin).trans ((if_pos rfl).trans ?_), fun b hb => (hbin b).trans (if_neg hb),
        (htask tid).trans (if_pos rfl), fun j hj => (htask j).trans (if_neg hj), hqueue, ?_⟩
      · simp [Bin.left, hchain]
      · rw [hframe]
        exact ⟨rfl, rfl, rfl, rfl, rfl, rfl, rfl, rfl, rfl, rfl, rfl, rfl, rfl⟩
    refine ⟨fun q h hk h0 hw => ?_, fun q h hk h0 hw => ?_, fun hd => ?_⟩
    · subst h0
      exact ⟨_, congrArg Host.Outcome.next (take_eq_answered h hk rfl (serveRelease_presented hw hid hc hp)), key _ _⟩
    · subst h0
      exact ⟨_, congrArg Host.Outcome.next (take_eq_answered h hk rfl (serveCancel_presented hw hid hc hp)), key _ _⟩
    · refine ⟨_, execDwellExpiry_presented hreset hc hp hd, key _ _, ?_⟩
      simp [latchC, bit16, NoticeC.position]
  case waiting =>
    intro s q c r h hk hw hs id hid hc hq htask hr hhead
    obtain ⟨hclaim, hbin, hframe⟩ := endClaim_spec hc hr .cancelled
    refine ⟨_, congrArg Host.Outcome.next
      (take_eq_answered h hk rfl (serveCancel_waiting hs hw hid hc hq htask hr hhead)), ?_, fun j hj => ?_, ?_,
      fun b hb => ?_, congrArg (State.answered · .c q .ok []) hframe⟩
    · refine (hclaim id).trans ((if_pos rfl).trans ?_)
      rw [Claim.ended, htask]
    · exact (hclaim j).trans (if_neg hj)
    · exact (hbin c.bin).trans (if_pos rfl)
    · exact (hbin b).trans (if_neg hb)
end

section
namespace Sys2Proof.Machine

/-! ### A new claim (R25, R28, R29) -/

/-- A claim as it is created: QUEUED, with every item PENDING (R29). -/
def Claim.fresh (kind : ClaimKind) (urgent : Bool) (b : Nat) (st : Crane) (items : List (BitVec 32 × Nat)) (time : Nat) :
    Claim :=
  { kind := kind, urgent := decide (kind = .lend) && urgent, cls := claimClass kind urgent, bin := b, station := st,
    state := .queued, created := time, presented := none, dwell := 0,
    items := items.map (fun i => ⟨i.1, i.2, .pending⟩), unseen := true, task := none }

theorem newClaim_eq (s : State) (body : List Byte) (kind : ClaimKind) (st : Crane) : s.newClaim body kind st =
    Claim.fresh kind (decide (byteAt body 1 ≠ 0)) (wordAt body 2) st (claimItems body) s.wingTime := by
  have hcls : (s.newClaim body kind st).cls = claimClass kind (decide (byteAt body 1 ≠ 0)) := by
    cases kind
    · show (if byteAt body 1 = 0 then 3 else 2) = if decide (byteAt body 1 ≠ 0) = true then 2 else 3
      by_cases h : byteAt body 1 = 0 <;> simp [h]
    · rfl
    · rfl
  unfold Claim.fresh
  rw [← hcls]
  rfl

/-- A bin that a new claim has joined, with the units of a RETURN claim reserved (R29). -/
def Bin.joined (id : Nat) (kind : ClaimKind) (items : List (BitVec 32 × Nat)) (r : Bin) : Bin :=
  { r with reserved := r.reserved + (if kind = .ret then (items.map Prod.snd).sum else 0), chain := r.chain ++ [id] }

theorem fresh_pendingUnits (kind : ClaimKind) (urgent : Bool) (b : Nat) (st : Crane) (items : List (BitVec 32 × Nat))
    (time : Nat) : (Claim.fresh kind urgent b st items time).pendingUnits =
      if kind = .ret then (items.map Prod.snd).sum else 0 := by
  rw [pendingUnits_eq]
  simp [Claim.fresh, Function.comp_def, List.filter_map]

/-- A claim joins the end of its bin's chain, before it is placed (R29). -/
def joinClaim (id : Nat) (c : Claim) (s : State) : State :=
  (latchC .claimChanged (s.setClaim id c)).modBin c.bin (fun r =>
    { r with reserved := r.reserved + c.pendingUnits, chain := r.chain ++ [id] })

variable {s : State} {id b tid i : Nat} {kind : ClaimKind} {urgent : Bool} {st k : Crane} {items : List (BitVec 32 × Nat)}
  {r : Bin} {c : Claim} {p : Pos}

theorem createClaim_placed (hr : s.bin? b = some r) (hchain : r.chain = []) : createClaim id kind urgent b st items s =
    placeClaim id (joinClaim id (Claim.fresh kind urgent b st items s.wingTime) s) :=
  if_pos (by simp [State.chainHead, hr, hchain])

theorem createClaim_queued (hr : s.bin? b = some r) (hchain : r.chain ≠ []) : createClaim id kind urgent b st items s =
    joinClaim id (Claim.fresh kind urgent b st items s.wingTime) s :=
  if_neg (by simp [State.chainHead, hr, hchain])

theorem joinClaim_spec (hr : s.bin? b = some r) (time : Nat) :
    let w := joinClaim id (Claim.fresh kind urgent b st items time) s
    (∀ j, w.claim? j = if j = id then some (Claim.fresh kind urgent b st items time) else s.claim? j)
      ∧ (∀ x, w.bin? x = if x = b then some (r.joined id kind items) else s.bin? x)
      ∧ w = { s with claims := w.claims, bins := w.bins, portC := { s.portC with latch := s.portC.latch ||| 8 } } := by
  have hw : joinClaim id (Claim.fresh kind urgent b st items time) s =
      (latchC .claimChanged (s.setClaim id (Claim.fresh kind urgent b st items time))).setBin b (r.joined id kind items) := by
    unfold joinClaim
    rw [fresh_pendingUnits]
    exact State.modBin_eq (s := latchC .claimChanged (s.setClaim id _)) hr _
  rw [hw]
  exact ⟨fun j => State.claim?_setClaim .., fun x => State.bin?_setBin .., rfl⟩

@[simp] theorem claimKindOf_code (kind : ClaimKind) : claimKindOf kind.code = some kind := by cases kind <;> rfl

theorem badItems_eq_false {capacity : Nat} (hempty : items = [] ↔ kind = .audit)
    (hunits : ∀ i ∈ items, 1 ≤ i.2 ∧ i.2 ≤ capacity) : badItems capacity kind items = false := by
  have hall : items.any (fun i => decide (i.2 = 0) || decide (capacity < i.2)) = false := by
    simp only [List.any_eq_false, Bool.or_eq_true, decide_eq_true_eq]
    intro i hi
    have := hunits i hi
    omega
  unfold badItems
  rw [hall, Bool.or_false]
  cases kind <;> simp_all

/-- CLAIM that passes the checks of R28 creates the claim in the entry that R26 gives it. The response gives the claim's
state, and its wait reason while it is QUEUED (R29, log 16). -/
theorem serveClaim_accepted {body : List Byte} {u : State} (h : s.claimAccepted body kind st r)
    (hid : s.claimEntry = some id)
    (hu : settle (createClaim id kind (decide (byteAt body 1 ≠ 0)) (wordAt body 2) st (claimItems body) s) = u)
    (hc : u.claim? id = some c) : serveClaim body s = reply .ok
      (put8 id ++ (put8 c.state.code ++ put8? (if c.state = .queued then some (u.waitReason id c) else none))) u := by
  obtain ⟨hw, h0, h4, h2, hempty, hunits, hr, haisle, hmask, hopen, hroom⟩ := h
  have hbad : ¬ (8191 < wordAt body 2 ∨ badItems s.params.capacity kind (claimItems body) = true) := by
    rw [badItems_eq_false hempty hunits]
    simp
    omega
  have hfull : ¬ (kind = .ret ∧ s.freeUnits r < ((claimItems body).map Prod.snd).sum) :=
    fun ⟨hk, hlt⟩ => Nat.not_lt.mpr (hroom hk) hlt
  unfold serveClaim
  dsimp only
  rw [if_neg (by simp [hw]), h0, h4, claimKindOf_code, craneOf_val]
  dsimp only
  rw [if_neg hbad, hr]
  dsimp only
  rw [if_neg (by simp [haisle]), if_neg (by simp [Station.accepts, hmask]), if_neg (by simp [hopen]),
    if_neg (by simp [hopen]), if_neg hfull, hid]
  dsimp only
  rw [hu, hc]

theorem execClaim_accepted {q : Request} {u : State} (h : s.hasRequest .c q) (hk : q.kind = .claim)
    (hacc : s.claimAccepted q.body kind st r) (hid : s.claimEntry = some id)
    (hu : settle (createClaim id kind (decide (byteAt q.body 1 ≠ 0)) (wordAt q.body 2) st (claimItems q.body) s) = u)
    (hc : u.claim? id = some c) : exec .claim s = .next (u.answered .c q .ok
      (put8 id ++ (put8 c.state.code ++ put8? (if c.state = .queued then some (u.waitReason id c) else none)))) :=
  congrArg Host.Outcome.next (take_eq_answered h hk rfl (serveClaim_accepted hacc hid hu hc))

theorem waitReason_turn (hc : c.state = .queued) (h : s.chainHead c.bin ≠ some id) : s.waitReason id c = 4 := by
  simp [State.waitReason, hc, h]

theorem waitReason_untasked (hc : c.state = .queued) (h : s.chainHead c.bin = some id) (ht : c.task = none) :
    s.waitReason id c = if s.backlog.contains id then 2 else 3 := by
  simp [State.waitReason, hc, h, ht]

end Sys2Proof.Machine
end

section
namespace Sys2Proof.Machine

/-! ### The withdrawal of a STOW while no crane has an active task (R79) -/

/-- What giving up a waiting task's work changes: tasks, queues, lane slots and K port latches, and no crane becomes active. -/
structure Reworks (s t : State) : Prop where
  active : ∀ k, (s.crane k).active = none → (t.crane k).active = none
  task : ∀ id x, t.task? id = some x → ∃ y, s.task? id = some y ∧ y.kind = x.kind
  frame : t = { s with
    tasks := t.tasks, cranes := t.cranes, lanes := t.lanes, portK := t.portK, due := t.due }

theorem Reworks.refl (s : State) : Reworks s s := ⟨fun _ h => h, fun _ x h => ⟨x, h, rfl⟩, rfl⟩

theorem Reworks.trans {s t u : State} (h : Reworks s t) (g : Reworks t u) : Reworks s u where
  active k hk := g.active k (h.active k hk)
  task id x hx := by
    obtain ⟨y, hy, hyx⟩ := g.task id x hx
    obtain ⟨z, hz, hzy⟩ := h.task id y hy
    exact ⟨z, hz, hzy.trans hyx⟩
  frame := by rw [g.frame, h.frame]

theorem requeue_reworks (i : Nat) (s : State) : Reworks s (requeue i s) := by
  unfold requeue
  split
  · next t ht =>
    set v : State := s.setTask i { t with state := .queued, block := none }
    have hframe : markDue t.crane (readyIfIdle t.crane v) = { s with
        tasks := v.tasks, portK := (readyIfIdle t.crane v).portK, due := s.due.set t.crane true } := by
      unfold readyIfIdle
      split <;> rfl
    have htask (id) : (markDue t.crane (readyIfIdle t.crane v)).task? id = v.task? id := by rw [hframe]; rfl
    refine ⟨fun k hk => by rw [hframe]; exact hk, fun id x hx => ?_, by rw [hframe]⟩
    rw [htask, State.task?_setTask] at hx
    split at hx
    · next he => subst he; obtain rfl := Option.some.inj hx; exact ⟨t, ht, rfl⟩
    · exact ⟨x, hx, rfl⟩
  · exact Reworks.refl s

theorem reexamine_reworks (p : Task → Bool) (s : State) : Reworks s (reexamine p s) := by
  unfold reexamine forIds
  generalize ((s.tasks.entries.filter (fun e => decide (e.2.state = .blocked) && p e.2)).map Prod.fst) = l
  induction l generalizing s with
  | nil => exact Reworks.refl s
  | cons i t ih => exact (requeue_reworks i s).trans (ih _)

theorem releaseSlots_reworks (i n : Nat) (s : State) : Reworks s (releaseSlots i n s) := by
  unfold releaseSlots
  split
  · exact Reworks.refl s
  · have h : Reworks s (s.modLane i (fun l => { l with incoming := l.incoming - n })) :=
      ⟨fun _ h => h, fun _ x h => ⟨x, h, rfl⟩, rfl⟩
    exact h.trans (reexamine_reworks _ _)

theorem endTask_reworks {s : State} {id : Nat} {u : Task} (hu : s.task? id = some u) (hkind : u.kind ≠ .fetch)
    (ha : ∀ k, (s.crane k).active = none) : Reworks s (endTask id s) ∧ (endTask id s).task? id = none := by
  obtain ⟨htask, hactive⟩ := endTask_waiting hu hkind (ha u.crane)
  refine ⟨⟨fun k hk => hactive k hk, fun j x hx => ?_, ?_⟩, (htask id).trans (if_pos rfl)⟩
  · rw [htask] at hx
    split at hx
    · exact nomatch hx
    · exact ⟨x, hx, rfl⟩
  · unfold endTask
    rw [hu]
    dsimp only
    rw [ha u.crane]
    simp only [hkind, decide_false, Bool.and_false, Bool.false_eq_true, if_false, reduceCtorEq, Bool.false_or]
    split <;> rfl

/-- A STOW is withdrawn unless it carries its bin (R79). -/
theorem removeStow_reworks {s : State} {id : Nat} {u : Task} (hu : s.task? id = some u) (hkind : u.kind = .stow)
    (ha : ∀ k, (s.crane k).active = none) : Reworks s (removeStow id s)
      ∧ (u.state = .queued ∨ u.state = .blocked ∨ u.step = .pick → (removeStow id s).task? id = none) := by
  have hmark : markRemoved id s = s := by simp [markRemoved, hu, ha]
  unfold removeStow
  rw [hu]
  dsimp only
  split
  · next hwork =>
    refine ⟨Reworks.refl s, fun hwaits => absurd hwaits ?_⟩
    obtain ⟨hstate, hstep⟩ := hwork
    rcases hstate with hstate | hstate <;> simp [hstate, hstep]
  · rw [hmark]
    set v := if u.state = .active ∨ u.state = .suspended then u.destLane.elim s (fun i => releaseSlots i 1 s) else s
    have hv : Reworks s v := by
      unfold v
      split
      · cases u.destLane with
        | none => exact Reworks.refl s
        | some i => exact releaseSlots_reworks i 1 s
      · exact Reworks.refl s
    cases hvid : v.task? id with
    | none =>
      have : endTask id v = v := by simp [endTask, hvid]
      rw [this]
      exact ⟨hv, fun _ => hvid⟩
    | some x =>
      obtain ⟨y, hy, hyx⟩ := hv.task id x hvid
      obtain rfl : y = u := Option.some.inj (hy.symm.trans hu)
      obtain ⟨hend, hnone⟩ := endTask_reworks hvid (by rw [← hyx, hkind]; decide) (fun k => hv.active k (ha k))
      exact ⟨hv.trans hend, fun _ => hnone⟩

/-! ### A claim of a bin that stands at its station (R30, R32) -/

/-- A claim that has just been presented at an open station (R32, R41). -/
def Claim.presentedFresh (time dwell : Nat) (c : Claim) : Claim :=
  { c with state := .presented, presented := some time, dwell := dwell * 1000, unseen := true }

variable {s : State} {id b tid : Nat} {kind : ClaimKind} {urgent : Bool} {st : Crane} {items : List (BitVec 32 × Nat)}
  {r : Bin} {c : Claim} {p : Pos}

theorem placeClaim_atStation (hc : s.claim? id = some c) (hr : s.bin? c.bin = some r)
    (hplace : r.place = .atStation c.station p) :
    placeClaim id s = presentClaim id ((s.stowOf c.bin).elim s (fun i => removeStow i s)) := by
  unfold placeClaim
  rw [hc]
  dsimp only
  rw [hr]
  dsimp only
  rw [hplace]
  simp

/-- The withdrawal of a bin's STOW, if it has one. -/
theorem withdraw_reworks {o : Option Nat} (ho : ∀ i, o = some i → ∃ x, s.task? i = some x ∧ x.kind = .stow)
    (ha : ∀ k, (s.crane k).active = none) :
    Reworks s (o.elim s (fun i => removeStow i s))
      ∧ (∀ tid u, o = some tid → s.task? tid = some u → (u.state = .queued ∨ u.state = .blocked ∨ u.step = .pick) →
          (o.elim s (fun i => removeStow i s)).task? tid = none)
      ∧ (o = none → (o.elim s (fun i => removeStow i s)).tasks = s.tasks) := by
  cases o with
  | none => exact ⟨Reworks.refl s, fun _ _ h => (nomatch h), fun _ => rfl⟩
  | some i =>
    obtain ⟨x, hx, hkind⟩ := ho i rfl
    obtain ⟨hwork, hnone⟩ := removeStow_reworks hx hkind ha
    refine ⟨hwork, fun tid u htid hu hwaits => ?_, fun h => (nomatch h)⟩
    obtain rfl := Option.some.inj htid
    obtain rfl := Option.some.inj (hx.symm.trans hu)
    exact hnone hwaits

theorem settle_createClaim_atStation (hr : s.bin? b = some r) (hchain : r.chain = []) (hplace : r.place = .atStation st p)
    (hs : s.settled) (hwf : s.tablesWf) (ha : ∀ k, (s.crane k).active = none) (hopen : (s.station st).state = .opened) :
    let u := settle (createClaim id kind urgent b st items s)
    (∀ j, u.claim? j = if j = id
        then some ((Claim.fresh kind urgent b st items s.wingTime).presentedFresh s.wingTime s.params.dwell) else s.claim? j)
      ∧ (∀ x, u.bin? x = if x = b then some (r.joined id kind items) else s.bin? x)
      ∧ (∀ tid v, s.stowOf b = some tid → s.task? tid = some v →
          (v.state = .queued ∨ v.state = .blocked ∨ v.step = .pick) → u.task? tid = none)
      ∧ (s.stowOf b = none → u.tasks = s.tasks)
      ∧ u = { s with
          claims := u.claims, bins := u.bins, tasks := u.tasks, cranes := u.cranes, lanes := u.lanes, portK := u.portK,
          portC := { s.portC with latch := s.portC.latch ||| 8 } } := by
  obtain ⟨hclaim1, hbin1, hframe1⟩ := joinClaim_spec (id := id) (kind := kind) (urgent := urgent) (st := st)
    (items := items) hr s.wingTime
  rw [createClaim_placed hr hchain]
  generalize joinClaim id (Claim.fresh kind urgent b st items s.wingTime) s = w at *
  have hstow : w.stowOf b = s.stowOf b := by rw [hframe1]; rfl
  have hwtask (j) : w.task? j = s.task? j := by rw [hframe1]; rfl
  have hwa (k) : (w.crane k).active = none := by rw [hframe1]; exact ha k
  have hplaced : placeClaim id w = presentClaim id ((w.stowOf b).elim w (fun i => removeStow i w)) :=
    placeClaim_atStation ((hclaim1 id).trans (if_pos rfl)) ((hbin1 b).trans (if_pos rfl)) hplace
  rw [hplaced]
  obtain ⟨hwork, hnone, hsame⟩ := withdraw_reworks (s := w) (o := w.stowOf b) (fun i hi => by
    rw [hwtask]; exact stowOf_task hwf (hstow.symm.trans hi)) hwa
  generalize (w.stowOf b).elim w (fun i => removeStow i w) = v at *
  have hvclaim (j) : v.claim? j = w.claim? j := by rw [hwork.frame]; rfl
  have hvbin (j) : v.bin? j = w.bin? j := by rw [hwork.frame]; rfl
  have hvstation : (v.station st).state = .opened := by rw [hwork.frame, hframe1]; exact hopen
  have hvtime : v.wingTime = s.wingTime ∧ v.params = s.params := by rw [hwork.frame, hframe1]; exact ⟨rfl, rfl⟩
  obtain ⟨hclaim2, hframe2⟩ := touchClaim_spec ((hvclaim id).trans ((hclaim1 id).trans (if_pos rfl))) (fun c =>
    { c with state := if (v.station c.station).state = .shuttered then .held else .presented,
             presented := some v.wingTime, dwell := v.params.dwell * 1000 })
  unfold presentClaim
  generalize touchClaim id (fun c =>
    { c with state := if (v.station c.station).state = .shuttered then .held else .presented,
             presented := some v.wingTime, dwell := v.params.dwell * 1000 }) v = x at *
  obtain ⟨cranes, hframe3, -⟩ := settle_idle (s := x) (fun k => by rw [hframe2]; exact hwork.active k (hwa k))
  rw [hframe3]
  refine ⟨fun j => ?_, fun j => ?_, fun tid y htid hy hwaits => ?_, fun hno => ?_, ?_⟩
  · refine (hclaim2 j).trans ?_
    rw [hvclaim, hclaim1, hvtime.1, hvtime.2]
    split
    · refine congrArg some ?_
      have : (v.station (Claim.fresh kind urgent b st items s.wingTime).station).state ≠ .shuttered := by
        rw [show (Claim.fresh kind urgent b st items s.wingTime).station = st from rfl, hvstation]; decide
      rw [if_neg this]
      rfl
    · rfl
  · show x.bin? j = _
    rw [hframe2]
    exact (hvbin j).trans (hbin1 j)
  · show x.task? tid = none
    rw [hframe2]
    exact hnone tid y (hstow.trans htid) ((hwtask tid).trans hy) hwaits
  · show x.tasks = s.tasks
    rw [hframe2]
    exact (hsame (hstow.trans hno)).trans (by rw [hframe1])
  · have hdue : Vector.replicate 4 false = s.due := (due_of_settled hs).symm
    have hport : x.portC = { s.portC with latch := s.portC.latch ||| 8 } := by
      have hx : x.portC = { v.portC with latch := v.portC.latch ||| 8 } := by rw [hframe2]
      have hv : v.portC = { s.portC with latch := s.portC.latch ||| 8 } := by rw [hwork.frame, hframe1]
      rw [hx, hv]
      exact congrArg (fun l => { s.portC with latch := l }) (BitVec.or_assoc ..)
    have hx : x = { s with
        claims := x.claims, bins := x.bins, tasks := x.tasks, cranes := x.cranes, lanes := x.lanes, portK := x.portK,
        due := x.due, portC := x.portC } := by rw [hframe2, hwork.frame, hframe1]
    rw [hdue, ← hport]
    rw [hx]

end Sys2Proof.Machine
end

section
namespace Sys2Proof.Machine

/-! ### A claim of a bin that is elsewhere (R30, R78) -/

variable {s : State} {id b tid i : Nat} {st k : Crane} {r : Bin} {c : Claim} {t : Task} {p : Pos}

/-- With no room in the crane's queue, the claim of a STORED bin waits in the backlog (R31). -/
theorem placeClaim_backlog (hc : s.claim? id = some c) (hr : s.bin? c.bin = some r) (hplace : r.place = .stored i)
    (hspare : s.spareFetch c.bin c.station = none) (hroom : s.fetchRoom c.station = false) :
    placeClaim id s = { s with backlog := s.backlog ++ [id] } := by
  unfold placeClaim
  rw [hc]
  dsimp only
  rw [hr]
  dsimp only
  rw [hplace, hspare]
  simp [hroom]

theorem admitFetch_eq (hc : s.claim? id = some c) (htid : s.tasks.lowestFree 64 = some tid) : admitFetch id s =
    touchClaim id (fun c => { c with task := some tid }) (admitAt tid (c.fetch id) s) := by
  unfold admitFetch
  rw [hc, htid]
  rfl

/-- What the admission of a FETCH for a claim changes, whatever its crane has queued (R30, R62). -/
theorem admitFetch_spec_queue (hc : s.claim? id = some c) (htid : s.tasks.lowestFree 64 = some tid) :
    let u := admitFetch id s
    (∀ j, u.claim? j = if j = id then some { c with task := some tid, unseen := true } else s.claim? j)
      ∧ (∀ j, u.task? j = if j = tid then some ((c.fetch id).admittedAt s.wingTime) else s.task? j)
      ∧ tid ∈ (u.crane c.station).queue
      ∧ (u.crane c.station).active = (s.crane c.station).active
      ∧ u.due = s.due.set c.station true
      ∧ u = { s with
          claims := u.claims, tasks := u.tasks, cranes := u.cranes, due := u.due, portC := u.portC, portK := u.portK } := by
  have htask := admitAt_task? tid (c.fetch id) s
  have hcrane : (admitAt tid (c.fetch id) s).crane c.station = _ := (admitAt_crane tid (c.fetch id) s c.station).trans (if_pos rfl)
  have hdue : _ = s.due.set c.station true := admitAt_due tid (c.fetch id) s
  obtain ⟨_, _, _, _, hframe⟩ := admitAt_frame tid (c.fetch id) s
  rw [admitFetch_eq hc htid]
  generalize admitAt tid (c.fetch id) s = v at *
  have hvclaim (j) : v.claim? j = s.claim? j := by rw [hframe]; rfl
  obtain ⟨hclaim, hframe'⟩ := touchClaim_spec ((hvclaim id).trans hc) (fun c => { c with task := some tid })
  generalize touchClaim id (fun c => { c with task := some tid }) v = u at *
  have hucrane : u.crane c.station = v.crane c.station := by rw [hframe']; rfl
  refine ⟨fun j => ?_, fun j => ?_, ?_, ?_, ?_, ?_⟩
  · rw [hclaim, hvclaim]
  · refine Eq.trans ?_ (htask j)
    rw [hframe']
    rfl
  · rw [hucrane, hcrane]
    exact (State.mem_enqueue ..).mpr (Or.inl rfl)
  · rw [hucrane, hcrane]
  · rw [← hdue, hframe']
  · rw [hframe', hframe]

/-- A position of a station is free when it holds no bin and is not promised (R23). -/
theorem free_iff (x : Station) (p : Pos) : x.free p = true ↔ x.bins[p] = none ∧ x.promises[p] = none := by
  simp [Station.free]

/-- The lowest-numbered free position of a station (R23). -/
theorem freePos_lowest {x : Station} (hp : x.free p = true) (hbelow : ∀ j, j < p → x.free j = false) :
    x.freePos = some p := by
  unfold Station.freePos allPos
  rcases aisle_eq p with rfl | rfl
  · simp [hp]
  · simp [hp, hbelow 0 (by decide)]

theorem freePos_none {x : Station} (h : ∀ p, x.free p = false) : x.freePos = none := by
  simp [Station.freePos, h]

theorem redirectable_eq (ha : (s.crane k).active = some tid) (ht : s.task? tid = some t)
    (hn : (s.fire (aisleOf k)).state = .normal) (hb : t.stepBin = some b) (hredirect : t.redirect = none)
    (hstep : t.step = .relocSet ∧ (t.kind = .fetch ∨ t.kind = .relocate) ∨ t.step = .set ∧ t.kind = .stow) :
    s.redirectable k b = (s.station k).freePos.map (fun p => (tid, t, p)) := by
  have hmay : t.mayRedirect = true := by simpa [Task.mayRedirect] using hstep
  simp [State.redirectable, ha, ht, State.normal, hn, hb, hredirect, hmay]

theorem placeClaim_onCrane (hc : s.claim? id = some c) (hr : s.bin? c.bin = some r) (hplace : r.place = .onCrane c.station) :
    (∀ x, s.redirectable c.station c.bin = some x → placeClaim id s = redirectStep c.station x.1 x.2.1 x.2.2 id s)
      ∧ (s.redirectable c.station c.bin = none → s.spareFetch c.bin c.station = none → placeClaim id s = s) := by
  have heq : placeClaim id s = match s.redirectable c.station c.bin with
      | some (i, t, p) => redirectStep c.station i t p id s
      | none => if s.spareFetch c.bin c.station = none then s else placeClaim id s := by
    unfold placeClaim
    rw [hc]
    dsimp only
    rw [hr]
    dsimp only
    rw [hplace]
    simp only [Bool.false_eq_true, if_false, if_true]
    cases s.redirectable c.station c.bin <;> cases s.spareFetch c.bin c.station <;> rfl
  exact ⟨fun x hx => by rw [heq, hx], fun hx hspare => by rw [heq, hx]; exact if_pos hspare⟩

/-- A step that is redirected for the first time keeps its lane slot; the position is promised to its task, and the change
waits to be delivered (R23, R78). -/
theorem redirectStep_spec (hc : s.claim? id = some c) (hredirect : t.redirect = none) (hm : (s.crane k).undelivered ≠ .push) :
    let u := redirectStep k tid t p id s
    (∀ j, u.claim? j = if j = id then some { c with state := .fetching, task := some tid, unseen := true } else s.claim? j)
      ∧ (∀ j, u.task? j = if j = tid then some { t with redirect := some ⟨some id, p, true⟩ } else s.task? j)
      ∧ u = { s with
          claims := u.claims, tasks := u.tasks,
          stations := s.stations.set k { s.station k with promises := (s.station k).promises.set p (some tid) },
          cranes := s.cranes.set k { s.crane k with undelivered := .redirect },
          portK := s.portK.set k { s.port (.k k) with
            latch := (s.port (.k k)).latch ||| bit16 NoticeK.taskReady.position },
          portC := { s.portC with latch := s.portC.latch ||| 8 } } := by
  have heq : redirectStep k tid t p id s = latchK k .taskReady (setMarker k .redirect (promise k p tid
      ((touchClaim id (fun c => { c with state := .fetching, task := some tid }) s).setTask tid
        { t with redirect := some ⟨some id, p, true⟩ }))) := by
    simp [redirectStep, hredirect]
  obtain ⟨hclaim, hframe⟩ := touchClaim_spec hc (fun c => { c with state := .fetching, task := some tid })
  rw [heq]
  generalize touchClaim id (fun c => { c with state := .fetching, task := some tid }) s = v at *
  have hmark (x : State) (hx : x.cranes = s.cranes) :
      setMarker k .redirect x = x.modCrane k (fun c => { c with undelivered := .redirect }) := by
    have : (x.crane k).undelivered ≠ .push := by rw [show x.crane k = s.crane k by simp [State.crane, hx]]; exact hm
    simp [setMarker, this]
  rw [hmark _ (by rw [hframe]; rfl)]
  refine ⟨hclaim, fun j => ?_, ?_⟩
  · refine (State.task?_setTask ..).trans ?_
    rw [hframe]
    rfl
  · rw [hframe]
    rfl

end Sys2Proof.Machine
end

section
namespace Sys2Proof.Machine

/-! ### What CLAIM answers (R29, log 16) -/

variable {s u : State} {id b tid i : Nat} {kind : ClaimKind} {urgent : Bool} {st k : Crane} {items : List (BitVec 32 × Nat)}
  {r : Bin} {c : Claim} {t : Task} {p : Pos}

theorem joined_of_nil (hchain : r.chain = []) : r.joined id kind items = { r with
    reserved := r.reserved + (if kind = .ret then (items.map Prod.snd).sum else 0), chain := [id] } := by
  rw [Bin.joined, hchain]
  rfl

theorem chainHead_joined (hchain : r.chain = []) (hr : u.bin? b = some (r.joined id kind items)) :
    u.chainHead b = some id := by
  simp [State.chainHead, hr, joined_of_nil hchain]

/-- A claim of a STORED bin gets a FETCH where the crane's queue has room, and the backlog takes it where it has none. -/
theorem settle_createClaim_stored (hr : s.bin? b = some r) (hchain : r.chain = []) (hplace : r.place = .stored i)
    (hs : s.settled) (hspare : s.spareFetch b st = none) (ha : (s.crane st).active = none)
    (htid : s.tasks.lowestFree 64 = some tid) :
    let new := Claim.fresh kind urgent b st items s.wingTime
    let u := settle (createClaim id kind urgent b st items s)
    (∀ x, u.bin? x = if x = b then some (r.joined id kind items) else s.bin? x)
      ∧ (∀ j, j ≠ id → u.claim? j = s.claim? j)
      ∧ (∀ j, j ≠ tid → u.task? j = s.task? j)
      ∧ (s.fetchRoom st = true → u.claim? id = some { new with task := some tid }
          ∧ u.task? tid = some ((new.fetch id).admittedAt s.wingTime)
          ∧ tid ∈ (u.crane st).queue ∧ u.backlog = s.backlog)
      ∧ (s.fetchRoom st = false → u.claim? id = some new ∧ u.tasks = s.tasks ∧ u.backlog = s.backlog ++ [id])
      ∧ u = { s with
          claims := u.claims, bins := u.bins, tasks := u.tasks, cranes := u.cranes, portK := u.portK, portC := u.portC,
          backlog := u.backlog } := by
  obtain ⟨hclaim, hbin, hframe⟩ := joinClaim_spec (id := id) (kind := kind) (urgent := urgent) (st := st)
    (items := items) hr s.wingTime
  rw [createClaim_placed hr hchain]
  generalize joinClaim id (Claim.fresh kind urgent b st items s.wingTime) s = w at *
  have hc : w.claim? id = some (Claim.fresh kind urgent b st items s.wingTime) := (hclaim id).trans (if_pos rfl)
  have hwr : w.bin? b = some (r.joined id kind items) := (hbin b).trans (if_pos rfl)
  have hwspare : w.spareFetch b st = none := by rw [hframe]; exact hspare
  have hwtask (j) : w.task? j = s.task? j := by rw [hframe]; rfl
  have hwroom : w.fetchRoom st = s.fetchRoom st := by rw [hframe]; rfl
  have hws : w.settled := by rw [hframe]; exact hs
  have hwtime : w.wingTime = s.wingTime := by rw [hframe]
  cases hroom : s.fetchRoom st with
  | true =>
    have hplaced : placeClaim id w = admitFetch id w := placeClaim_stored hc hwr hplace hwspare (hwroom.trans hroom)
    obtain ⟨hclaim2, htask2, hqueue2, hactive2, hdue2, hframe2⟩ := admitFetch_spec_queue hc (tid := tid) (by rw [hframe]; exact htid)
    rw [hplaced]
    have hnone : ((admitFetch id w).crane st).active = none := hactive2.trans (by rw [hframe]; exact ha)
    have hsettle := settle_calm (owesOnly_of_due (k := st) hws hdue2) (Or.inr (Or.inl hnone))
    generalize admitFetch id w = v at *
    have hdue : v.undue.due = s.due := (due_of_settled hs).symm
    rw [hsettle]
    refine ⟨fun x => ?_, fun j hj => ?_, fun j hj => ?_, fun _ => ⟨?_, ?_, ?_, ?_⟩, fun h => (nomatch h), ?_⟩
    · refine Eq.trans ?_ (hbin x)
      rw [hframe2]
      rfl
    · exact (hclaim2 j).trans ((if_neg hj).trans ((hclaim j).trans (if_neg hj)))
    · exact (htask2 j).trans ((if_neg hj).trans (hwtask j))
    · exact (hclaim2 id).trans (if_pos rfl)
    · rw [← hwtime]
      exact (htask2 tid).trans (if_pos rfl)
    · rw [State.crane_modCrane_self]
      exact hqueue2
    · show v.backlog = s.backlog
      rw [hframe2, hframe]
    · have hv : v = { s with
          claims := v.claims, bins := v.bins, tasks := v.tasks, cranes := v.cranes, portK := v.portK, portC := v.portC,
          backlog := v.backlog, due := v.due } := by rw [hframe2, hframe]
      unfold State.undue State.modCrane
      rw [← due_of_settled hs]
      dsimp only
      conv_lhs => rw [hv]
  | false =>
    have hplaced : placeClaim id w = { w with backlog := w.backlog ++ [id] } :=
      placeClaim_backlog hc hwr hplace hwspare (hwroom.trans hroom)
    have hback : w.backlog = s.backlog := by rw [hframe]
    rw [hplaced, settle_of_settled (by exact hws)]
    refine ⟨hbin, fun j hj => (hclaim j).trans (if_neg hj), fun j _ => hwtask j, fun h => (nomatch h), fun _ => ⟨hc, ?_, ?_⟩, ?_⟩
    · show w.tasks = s.tasks
      rw [hframe]
    · show w.backlog ++ [id] = _
      rw [hback]
    · rw [hframe]

/-- A claim of the bin on its crane's fork redirects the step that carries it, where the station has a free position. -/
theorem settle_createClaim_redirected (hr : s.bin? b = some r) (hchain : r.chain = []) (hplace : r.place = .onCrane k)
    (hs : s.settled) (hredirectable : s.redirectable k b = some (tid, t, p)) (hredirect : t.redirect = none)
    (hm : (s.crane k).undelivered ≠ .push) :
    let new := Claim.fresh kind urgent b k items s.wingTime
    let u := settle (createClaim id kind urgent b k items s)
    (∀ j, u.claim? j = if j = id then some { new with state := .fetching, task := some tid } else s.claim? j)
      ∧ (∀ x, u.bin? x = if x = b then some (r.joined id kind items) else s.bin? x)
      ∧ (∀ j, u.task? j = if j = tid then some { t with redirect := some ⟨some id, p, true⟩ } else s.task? j)
      ∧ u = { s with
          claims := u.claims, bins := u.bins, tasks := u.tasks,
          stations := s.stations.set k { s.station k with promises := (s.station k).promises.set p (some tid) },
          cranes := s.cranes.set k { s.crane k with undelivered := .redirect },
          portK := s.portK.set k { s.port (.k k) with
            latch := (s.port (.k k)).latch ||| bit16 NoticeK.taskReady.position },
          portC := { s.portC with latch := s.portC.latch ||| 8 } } := by
  obtain ⟨hclaim, hbin, hframe⟩ := joinClaim_spec (id := id) (kind := kind) (urgent := urgent) (st := k)
    (items := items) hr s.wingTime
  rw [createClaim_placed hr hchain]
  generalize joinClaim id (Claim.fresh kind urgent b k items s.wingTime) s = w at *
  have hc : w.claim? id = some (Claim.fresh kind urgent b k items s.wingTime) := (hclaim id).trans (if_pos rfl)
  have hplaced : placeClaim id w = redirectStep k tid t p id w :=
    (placeClaim_onCrane hc ((hbin b).trans (if_pos rfl)) hplace).1 (tid, t, p) (by rw [hframe]; exact hredirectable)
  obtain ⟨hclaim2, htask2, hframe2⟩ := redirectStep_spec (k := k) (tid := tid) (t := t) (p := p) hc hredirect
    (by rw [hframe]; exact hm)
  rw [hplaced]
  generalize redirectStep k tid t p id w = u at *
  rw [settle_of_settled (by rw [hframe2, hframe]; exact hs)]
  refine ⟨fun j => ?_, fun x => ?_, fun j => ?_, ?_⟩
  · rw [hclaim2, hclaim]
    split <;> rfl
  · refine Eq.trans ?_ (hbin x)
    rw [hframe2]
    rfl
  · refine (htask2 j).trans ?_
    rw [hframe]
    rfl
  · obtain ⟨claims, bins, rfl⟩ : ∃ claims bins, w = { s with
        claims := claims, bins := bins, portC := { s.portC with latch := s.portC.latch ||| 8 } } := ⟨_, _, hframe⟩
    have hlatch : s.portC.latch ||| 8 ||| 8 = s.portC.latch ||| 8 := BitVec.or_assoc ..
    have hbins : u.bins = bins := by rw [hframe2]
    refine hframe2.trans ?_
    dsimp only
    rw [hlatch, hbins]
    rfl

/-- A claim of the bin on its crane's fork waits where the station has no free position. -/
theorem settle_createClaim_unplaced (hr : s.bin? b = some r) (hchain : r.chain = []) (hplace : r.place = .onCrane k)
    (hs : s.settled) (hredirectable : s.redirectable k b = none) (hspare : s.spareFetch b k = none) :
    settle (createClaim id kind urgent b k items s) = joinClaim id (Claim.fresh kind urgent b k items s.wingTime) s := by
  obtain ⟨hclaim, hbin, hframe⟩ := joinClaim_spec (id := id) (kind := kind) (urgent := urgent) (st := k)
    (items := items) hr s.wingTime
  rw [createClaim_placed hr hchain]
  generalize joinClaim id (Claim.fresh kind urgent b k items s.wingTime) s = w at *
  have hc : w.claim? id = some (Claim.fresh kind urgent b k items s.wingTime) := (hclaim id).trans (if_pos rfl)
  have hplaced : placeClaim id w = w :=
    (placeClaim_onCrane hc ((hbin b).trans (if_pos rfl)) hplace).2 (by rw [hframe]; exact hredirectable)
      (by rw [hframe]; exact hspare)
  rw [hplaced]
  exact settle_of_settled (by rw [hframe]; exact hs)

end Sys2Proof.Machine
end

section
namespace Sys2Proof.Machine

variable {s u : State} {id b tid i : Nat} {kind : ClaimKind} {urgent : Bool} {st k : Crane} {items : List (BitVec 32 × Nat)}
  {r : Bin} {c : Claim} {t : Task} {p : Pos}

theorem claimAccepted_bin {body : List Byte} (h : s.claimAccepted body kind st r) : s.bin? (wordAt body 2) = some r := by
  obtain ⟨-, -, -, -, -, -, hr, -⟩ := h
  exact hr

theorem claimAccepted_opened {body : List Byte} (h : s.claimAccepted body kind st r) : (s.station st).state = .opened := by
  obtain ⟨-, -, -, -, -, -, -, -, -, hopen, -⟩ := h
  exact hopen

/-- The wait reason of a claim whose task redirects no step is TASK. -/
theorem waitReason_task (hc : c.state = .queued) (h : s.chainHead c.bin = some id) (ht : c.task = some tid)
    (htask : s.task? tid = some t) (hredirect : t.redirect = none) : s.waitReason id c = 1 := by
  simp [State.waitReason, hc, h, ht, htask, hredirect]

/-! ### A search that ends in a claim (R55) -/

/-- The oldest claim of the chain that has room is the one that an item joins (R55). -/
theorem roomyReturn_first {before after : List Nat} (hchain : r.chain = before ++ id :: after)
    (hid : ∃ d, s.claim? id = some d ∧ d.kind = .ret ∧ d.state.live = true ∧ d.station = k ∧ d.items.length < 8)
    (hbefore : ∀ j ∈ before, ¬ ∃ d, s.claim? j = some d ∧ d.kind = .ret ∧ d.state.live = true ∧ d.station = k
      ∧ d.items.length < 8) : s.roomyReturn k r = some id := by
  unfold State.roomyReturn
  rw [List.find?_eq_some_iff_append]
  refine ⟨?_, before, after, hchain, fun j hj => ?_⟩
  · obtain ⟨d, hd, hret, hlive, hst, hlen⟩ := hid
    simp [hd, hret, hlive, hst, hlen]
  · have hno := hbefore j hj
    cases h : s.claim? j with
    | none => simp
    | some d =>
      simp only [Bool.not_eq_true', ← Bool.not_eq_true, Bool.and_eq_true, decide_eq_true_eq, and_assoc]
      exact fun hd => hno ⟨d, h, hd⟩

theorem endSearch_search (x : PlaceResult) (s : State) :
    (endSearch x s).search = { s.search with state := .complete, result := some x } := rfl

theorem endSearch_portC (x : PlaceResult) (s : State) :
    (endSearch x s).portC = { s.portC with latch := s.portC.latch ||| 64 } := rfl

theorem roomyReturn_nil (hchain : r.chain = []) : s.roomyReturn k r = none := by simp [State.roomyReturn, hchain]

/-- A pass that ends with a recorded bin that still costs no more succeeds (R54, R55). -/
theorem execPassCompletion_winner {pr : PlaceRequest} {cost now : Nat} (hr : s.inReset = false)
    (hrun : s.search.state = .running) (hreq : s.search.request = some pr) (hcur : s.search.cursor = 8192)
    (hopen : (s.station pr.station).state = .opened) (hbest : s.search.best = some (b, cost))
    (hnow : s.candidateCost pr b = some now) (hle : now ≤ cost) :
    exec .passCompletion s = .next (placeWinner pr (b, cost) now s) := by
  show Host.Outcome.next _ = _
  unfold completePass
  simp [hreq, hr, hrun, hcur, hopen, hbest, hnow, hle, Option.filter]

/-- An item that joins a claim of its bin (R55). -/
theorem placeWinner_appends {pr : PlaceRequest} {cost now : Nat} (hr : s.bin? b = some r) (hc : s.claim? id = some c)
    (hroom : s.roomyReturn pr.station r = some id) :
    let t := placeWinner pr (b, cost) now s
    (∀ j, t.claim? j = if j = id then some { c with items := c.items ++ [⟨pr.item, pr.units, .pending⟩], unseen := true }
        else s.claim? j)
      ∧ (∀ x, t.bin? x = if x = b then some { r with reserved := r.reserved + pr.units } else s.bin? x)
      ∧ t = { s with
          claims := t.claims, bins := t.bins,
          search := { s.search with
            state := .complete, result := some ⟨none, some b, some id, some now, some true⟩ },
          portC := { s.portC with latch := s.portC.latch ||| 8 ||| 64 } } := by
  have heq : placeWinner pr (b, cost) now s = endSearch ⟨none, some b, some id, some now, some true⟩
      (touchClaim id (fun c => { c with items := c.items ++ [⟨pr.item, pr.units, .pending⟩] })
        (s.setBin b { r with reserved := r.reserved + pr.units })) := by
    unfold placeWinner
    rw [← State.modBin_eq hr (fun r => { r with reserved := r.reserved + pr.units })]
    simp [hr, hroom]
  obtain ⟨hclaim, hframe⟩ := touchClaim_spec (s := s.setBin b { r with reserved := r.reserved + pr.units }) (cid := id) hc
    (fun c => { c with items := c.items ++ [⟨pr.item, pr.units, .pending⟩] })
  rw [heq]
  generalize touchClaim id (fun c => { c with items := c.items ++ [⟨pr.item, pr.units, .pending⟩] })
    (s.setBin b { r with reserved := r.reserved + pr.units }) = w at *
  refine ⟨hclaim, fun x => ?_, ?_⟩
  · refine Eq.trans ?_ (State.bin?_setBin s b x _)
    rw [hframe]
    rfl
  · rw [hframe]
    rfl

/-- A search that succeeds on a bin with no claims gives it a new RETURN claim (R55). -/
theorem placeWinner_creates {pr : PlaceRequest} {cost now : Nat} (hr : s.bin? b = some r) (hchain : r.chain = [])
    (hid : s.claimEntry = some id) : placeWinner pr (b, cost) now s =
      endSearch ⟨none, some b, some id, some now, some false⟩
        (settle (createClaim id .ret false b pr.station [(pr.item, pr.units)] s)) := by
  unfold placeWinner
  simp [hr, roomyReturn_nil hchain, hid]

end Sys2Proof.Machine
end

section
open Sys2Proof Sys2Proof.Machine

/-- Settles O16: a claim joins its bin's chain, and at the head of the chain it is placed as the bin stands: presented,
fetched or put in the backlog, or given the bin on the fork by a redirection. -/
theorem aClaimIsCreatedAndPlaced : Obligations.AClaimIsCreatedAndPlaced := by
  unfold Obligations.AClaimIsCreatedAndPlaced
  refine ⟨?waits, ?presented, ?stored, ?fork, ?append, ?create⟩
  case waits =>
    intro s q kind st r id h hk hacc hid hs hchain hfresh
    have hr := claimAccepted_bin hacc
    obtain ⟨hclaim, hbin, hframe⟩ := joinClaim_spec (id := id) (kind := kind)
      (urgent := decide (byteAt q.body 1 ≠ 0)) (st := st) (items := claimItems q.body) hr s.wingTime
    have hcreate := createClaim_queued (id := id) (kind := kind) (urgent := decide (byteAt q.body 1 ≠ 0)) (st := st)
      (items := claimItems q.body) hr hchain
    generalize joinClaim id _ s = w at *
    have hsettle : settle (createClaim id kind (decide (byteAt q.body 1 ≠ 0)) (wordAt q.body 2) st (claimItems q.body) s) = w := by
      rw [hcreate]
      exact settle_of_settled (by rw [hframe]; exact hs)
    have hc := (hclaim id).trans (if_pos rfl)
    have hhead : w.chainHead (wordAt q.body 2) ≠ some id := by
      have hne : (r.chain ++ [id]).head? ≠ some id := by
        rw [List.head?_append_of_ne_nil _ hchain]
        exact fun hhead => hfresh (List.mem_of_head? hhead)
      simpa [State.chainHead, hbin, Bin.joined] using hne
    have hexec := execClaim_accepted h hk hacc hid hsettle hc
    rw [waitReason_turn (by rfl) hhead] at hexec
    refine ⟨_, hexec, ?_, fun j hj => ?_, ?_, fun b hb => ?_, ?_⟩
    · rw [newClaim_eq]
      exact hc
    · exact (hclaim j).trans (if_neg hj)
    · exact (hbin _).trans (if_pos rfl)
    · exact (hbin b).trans (if_neg hb)
    · exact congrArg (fun v => State.answered v .c q .ok (put8 id ++ [0, 4])) hframe
  case presented =>
    intro s q kind st r id p h hk hacc hid hs hwf hchain hplace ha
    have hr := claimAccepted_bin hacc
    have hopen := claimAccepted_opened hacc
    obtain ⟨hclaim, hbin, hstow, hnostow, hframe⟩ := settle_createClaim_atStation (id := id) (kind := kind)
      (urgent := decide (byteAt q.body 1 ≠ 0)) (items := claimItems q.body) hr hchain hplace hs hwf ha hopen
    generalize hu : settle (createClaim id kind (decide (byteAt q.body 1 ≠ 0)) (wordAt q.body 2) st (claimItems q.body) s) = u
      at *
    have hc := (hclaim id).trans (if_pos rfl)
    refine ⟨_, execClaim_accepted h hk hacc hid hu hc, ?_, fun j hj => ?_, ?_, fun b hb => ?_, hstow, hnostow, ?_⟩
    · rw [newClaim_eq]
      exact hc
    · exact (hclaim j).trans (if_neg hj)
    · rw [← joined_of_nil hchain]
      exact (hbin _).trans (if_pos rfl)
    · exact (hbin b).trans (if_neg hb)
    · exact congrArg (fun v => State.answered v .c q .ok (put8 id ++ [2, 255])) hframe
  case stored =>
    intro s q kind st r id tid i h hk hacc hid hs hchain hplace hspare ha htid
    have hr := claimAccepted_bin hacc
    obtain ⟨hbin, hclaim, htask, hroomy, hfull, hframe⟩ := settle_createClaim_stored (id := id) (kind := kind)
      (urgent := decide (byteAt q.body 1 ≠ 0)) (items := claimItems q.body) hr hchain hplace hs hspare ha htid
    generalize hu : settle (createClaim id kind (decide (byteAt q.body 1 ≠ 0)) (wordAt q.body 2) st (claimItems q.body) s) = u
      at *
    have hchainHead : u.chainHead (wordAt q.body 2) = some id := chainHead_joined hchain ((hbin _).trans (if_pos rfl))
    have hframe' (body : List Byte) : let t := u.answered .c q .ok body
        t.lanes = s.lanes ∧ t.stations = s.stations ∧ t.rails = s.rails ∧ t.channels = s.channels
          ∧ t.fires = s.fires ∧ t.shutters = s.shutters ∧ t.search = s.search ∧ t.sweep = s.sweep
          ∧ t.wing = s.wing ∧ t.params = s.params ∧ t.wingTime = s.wingTime := by
      rw [hframe]
      exact ⟨rfl, rfl, rfl, rfl, rfl, rfl, rfl, rfl, rfl, rfl, rfl⟩
    have hjoined : u.bin? (wordAt q.body 2) = some { r with
        reserved := r.reserved + (if kind = .ret then ((claimItems q.body).map Prod.snd).sum else 0), chain := [id] } := by
      rw [← joined_of_nil hchain]
      exact (hbin _).trans (if_pos rfl)
    rw [newClaim_eq]
    cases hroom : s.fetchRoom st with
    | true =>
      obtain ⟨hc, ht, hqueue, hback⟩ := hroomy hroom
      have hexec := execClaim_accepted h hk hacc hid hu hc
      rw [waitReason_task (by rfl) hchainHead rfl ht rfl] at hexec
      exact ⟨_, hexec, hclaim, hjoined, fun b hb => (hbin b).trans (if_neg hb), htask,
        fun _ => ⟨hc, ht, hqueue, hback, answered_slot u .c ..⟩, fun h => (nomatch h), hframe' _⟩
    | false =>
      obtain ⟨hc, htasks, hback⟩ := hfull hroom
      have hexec := execClaim_accepted h hk hacc hid hu hc
      have hin : u.backlog.contains id = true := by simp [hback]
      rw [waitReason_untasked (by rfl) hchainHead rfl, if_pos hin] at hexec
      exact ⟨_, hexec, hclaim, hjoined, fun b hb => (hbin b).trans (if_neg hb), htask, fun h => (nomatch h),
        fun _ => ⟨hc, htasks, hback, answered_slot u .c ..⟩, hframe' _⟩
  case fork =>
    intro s q kind k r id tid t h hk hacc hid hs hchain hplace hn ha hm ht hredirect hstepBin hstep free claimed
    have hr := claimAccepted_bin hacc
    have hjoined := joined_of_nil (id := id) (kind := kind) (items := claimItems q.body) hchain
    have hredirectable := redirectable_eq ha ht hn hstepBin hredirect hstep
    rw [newClaim_eq]
    refine ⟨fun p hp hlow => ?_, fun hfull hspare hback => ?_⟩
    · have hpos : (s.station k).freePos = some p := freePos_lowest ((free_iff ..).mpr hp) (fun j hj =>
        Bool.eq_false_iff.mpr (fun hfree => hlow j hj ((free_iff ..).mp hfree)))
      obtain ⟨hclaim, hbin, htask, hframe⟩ := settle_createClaim_redirected (id := id) (kind := kind)
        (urgent := decide (byteAt q.body 1 ≠ 0)) (items := claimItems q.body) hr hchain hplace hs
        (hredirectable.trans (congrArg (Option.map _) hpos)) hredirect hm
      generalize hu : settle (createClaim id kind (decide (byteAt q.body 1 ≠ 0)) (wordAt q.body 2) k (claimItems q.body) s) = u
        at *
      have hc := (hclaim id).trans (if_pos rfl)
      exact ⟨_, execClaim_accepted h hk hacc hid hu hc,
        ⟨hc, fun j hj => (hclaim j).trans (if_neg hj), ((hbin _).trans (if_pos rfl)).trans (congrArg some hjoined),
          fun b hb => (hbin b).trans (if_neg hb)⟩,
        (htask tid).trans (if_pos rfl), fun j hj => (htask j).trans (if_neg hj),
        congrArg (fun v => State.answered v .c q .ok (put8 id ++ [1, 255])) hframe⟩
    · have hpos : (s.station k).freePos = none := freePos_none (fun p =>
        Bool.eq_false_iff.mpr (fun hfree => hfull p ((free_iff ..).mp hfree)))
      have hu := settle_createClaim_unplaced (id := id) (kind := kind)
        (urgent := decide (byteAt q.body 1 ≠ 0)) (items := claimItems q.body) hr hchain hplace hs
        (hredirectable.trans (congrArg (Option.map _) hpos)) hspare
      obtain ⟨hclaim, hbin, hframe⟩ := joinClaim_spec (id := id) (kind := kind)
        (urgent := decide (byteAt q.body 1 ≠ 0)) (st := k) (items := claimItems q.body) hr s.wingTime
      generalize joinClaim id _ s = w at *
      have hc := (hclaim id).trans (if_pos rfl)
      have hwr := (hbin (wordAt q.body 2)).trans (if_pos rfl)
      have hexec := execClaim_accepted h hk hacc hid hu hc
      have hwback : ¬ w.backlog.contains id = true := by
        rw [hframe]
        simpa using hback
      rw [waitReason_untasked (by rfl) (chainHead_joined hchain hwr) rfl, if_neg hwback] at hexec
      exact ⟨_, hexec, ⟨hc, fun j hj => (hclaim j).trans (if_neg hj), hwr.trans (congrArg some hjoined),
        fun b hb => (hbin b).trans (if_neg hb)⟩, congrArg (fun v => State.answered v .c q .ok (put8 id ++ [0, 3])) hframe⟩
  case append =>
    intro s pr b cost now id r c hreset hrun hreq hcur hopen hbest hnow hle hr roomy hfirst hc
    obtain ⟨before, after, hchain, hid, hbefore⟩ := hfirst
    obtain ⟨hclaim, hbin, hframe⟩ := placeWinner_appends (cost := cost) (now := now) hr hc
      (roomyReturn_first hchain hid hbefore)
    exact ⟨_, execPassCompletion_winner hreset hrun hreq hcur hopen hbest hnow hle, (hclaim id).trans (if_pos rfl),
      fun j hj => (hclaim j).trans (if_neg hj), (hbin b).trans (if_pos rfl), fun x hx => (hbin x).trans (if_neg hx), hframe⟩
  case create =>
    intro s pr b cost now id r p hreset hs hwf hrun hreq hcur hopen hbest hnow hle hr hchain hplace hid ha
    obtain ⟨hclaim, hbin, -, -, hframe⟩ := settle_createClaim_atStation (id := id) (kind := .ret) (urgent := false)
      (items := [(pr.item, pr.units)]) hr hchain hplace hs hwf ha hopen
    have hexec := (execPassCompletion_winner hreset hrun hreq hcur hopen hbest hnow hle).trans
      (congrArg _ (placeWinner_creates hr hchain hid))
    generalize settle (createClaim id .ret false b pr.station [(pr.item, pr.units)] s) = u at *
    have hsearch : u.search = s.search := by rw [hframe]
    have hport : u.portC = { s.portC with latch := s.portC.latch ||| 8 } := by rw [hframe]
    refine ⟨_, hexec, (hclaim id).trans (if_pos rfl), fun j hj => (hclaim j).trans (if_neg hj), ?_,
      fun x hx => (hbin x).trans (if_neg hx), ?_, ?_, ?_⟩
    · refine ((hbin b).trans (if_pos rfl)).trans ?_
      rw [joined_of_nil hchain]
      rfl
    · rw [endSearch_search, hsearch]
    · rw [endSearch_portC, hport]
    · rw [hframe]
      exact ⟨rfl, rfl, rfl, rfl, rfl, rfl, rfl, rfl⟩
end

section
namespace Sys2Proof.Machine

/-! ### What NEXT STEP does and answers (R68) -/

/-- The state that a NEXT STEP of crane k leaves, its answer apart (R68). -/
def nextWork (k : Crane) (s : State) : State :=
  deliver k 8 (settle (takeWork k (setMarker k .none (releaseKept k s))))

/-- The body of the answer to a NEXT STEP of crane k (R68). -/
def State.nextBody (s : State) (k : Crane) : List Byte :=
  s.stepForm k ++ put8 (s.rail k).state.code ++ put8 (s.crane k).queue.length ++ putCompleted (s.crane k).lastCompleted

variable {s u : State} {k j : Crane} {q : Request} {id tid cid i : Nat} {t : Task} {c : Claim} {p : Pos}

theorem execNextStep_eq (h : s.hasRequest (.k k) q) (hk : q.kind = .nextStep) :
    exec (.nextStep k) s = .next ((nextWork k s).answered (.k k) q .ok ((nextWork k s).nextBody k)) :=
  congrArg Host.Outcome.next (take_eq_answered h hk rfl rfl)

/-- The task, its class and the speed cap of its class (R63, R68). -/
def State.ownForm (s : State) (k : Crane) (id : Nat) (t : Task) : List Byte :=
  put8 id ++ put8 t.kind.code ++ put8 t.cls
    ++ put16 (if t.cls = 0 then s.params.vFire else if t.cls = 1 then s.params.vCreep else s.params.vMax[k])

/-- The crane's state, the length of its queue and its last completed task (R68). -/
def State.lastForm (s : State) (k : Crane) : List Byte :=
  put8 (s.rail k).state.code ++ put8 (s.crane k).queue.length ++ putCompleted (s.crane k).lastCompleted

theorem classCap_active (ha : (s.crane k).active = some id) (ht : s.task? id = some t) : s.classCap k =
    if t.cls = 0 then s.params.vFire else if t.cls = 1 then s.params.vCreep else s.params.vMax[k] := by
  simp [State.classCap, ha, ht]

theorem nextBody_yield {y : Int} (ha : (s.crane k).active = some id) (ht : s.task? id = some t) (hy : t.yield = some y) :
    s.nextBody k = s.ownForm k id t
      ++ ([4, 255, 255, 255, 255, 255, 255, 255, 255] ++ putPos y ++ put8 t.digLeft ++ [1]) ++ s.lastForm k := by
  have hactive : (s.crane k).active.bind (fun id => (s.task? id).map (fun t => (id, t))) = some (id, t) := by simp [ha, ht]
  unfold State.nextBody State.stepForm
  rw [hactive]
  dsimp only
  rw [hy, classCap_active ha ht]
  simp only [State.ownForm, State.lastForm, List.append_assoc]
  rfl

theorem nextBody_place {d : Dest} (ha : (s.crane k).active = some id) (ht : s.task? id = some t) (hy : t.yield = none)
    (hplace : t.place = some d) : s.nextBody k = s.ownForm k id t
      ++ (put8 t.step.code ++ put16? t.stepBin ++ putLocation s.params k (some d) ++ putPos (s.placeMm k d)
        ++ put8 t.digLeft ++ [0]) ++ s.lastForm k := by
  have hactive : (s.crane k).active.bind (fun id => (s.task? id).map (fun t => (id, t))) = some (id, t) := by simp [ha, ht]
  unfold State.nextBody State.stepForm
  rw [hactive]
  dsimp only
  rw [hy, classCap_active ha ht, hplace]
  simp only [State.ownForm, State.lastForm, List.append_assoc]
  rfl

/-! ### The undelivered change (R77, R78) -/

theorem deliver_none (n : Nat) (h : (s.crane k).undelivered = .none) : deliver k n s = s := by
  cases n with
  | zero => rfl
  | succ n => exact if_pos h

theorem forIds_fixed {f : Nat → State → State} {l : List Nat} (h : ∀ i ∈ l, f i s = s) : forIds l f s = s := by
  induction l with
  | nil => rfl
  | cons i l ih =>
    have hi : f i s = s := h i (List.mem_cons_self ..)
    show forIds l f (f i s) = s
    rw [hi]
    exact ih (fun j hj => h j (List.mem_cons_of_mem _ hj))

/-- Where no task of the crane is redirected, NEXT STEP has no lane slot to give back. -/
theorem releaseKept_plain (h : ∀ i ∈ (s.crane k).active.toList ++ (s.crane k).stack, ∀ x, s.task? i = some x → x.redirect = none) :
    releaseKept k s = s := by
  refine forIds_fixed fun i hi => ?_
  cases hx : s.task? i with
  | none => rfl
  | some x => simp [h i hi x hx]

theorem modCrane_of_eq {f : CraneTasks → CraneTasks} (h : f (s.crane k) = s.crane k) : s.modCrane k f = s := by
  unfold State.modCrane
  rw [show f s.cranes[k] = s.cranes[k] from h]
  simp

/-- The setting of a marker that owes no queue-slot signal (R77). -/
theorem setMarker_quiet {m : Undelivered} (h : (s.crane k).undelivered ≠ .push ∨ s.backlog = []) :
    setMarker k m s = s.modCrane k (fun c => { c with undelivered := m }) := by
  rcases h with h | h
  · simp [setMarker, h]
  · have hslot : slotFreed k (s.modCrane k (fun c => { c with undelivered := m })) =
        s.modCrane k (fun c => { c with undelivered := m }) := by
      have : (s.modCrane k (fun c => { c with undelivered := m })).backlogNext k = none := by
        show List.foldl _ _ (List.filter _ s.backlog) = none
        rw [h]
        rfl
      unfold slotFreed
      rw [this]
    unfold setMarker
    simp only [hslot, ite_self]

theorem takeWork_active (h : (s.crane k).active = some id) : takeWork k s = s := by
  unfold takeWork
  rw [h]
  rfl

/-- NEXT STEP of a crane with an active task and nothing to give back delivers the change, and no more (R68, R77). -/
theorem nextWork_active (hs : s.settled) (ha : (s.crane k).active = some id)
    (hplain : ∀ i ∈ id :: (s.crane k).stack, ∀ x, s.task? i = some x → x.redirect = none)
    (hquiet : (s.crane k).undelivered ≠ .push ∨ s.backlog = []) :
    nextWork k s = s.modCrane k (fun c => { c with undelivered := .none }) := by
  have hactive : ((s.modCrane k (fun c => { c with undelivered := .none })).crane k).active = some id := by
    rw [State.crane_modCrane_self]
    exact ha
  unfold nextWork
  rw [releaseKept_plain (by rw [ha]; exact hplain), setMarker_quiet hquiet, takeWork_active hactive,
    settle_of_settled (by exact hs)]
  exact deliver_none 8 (by rw [State.crane_modCrane_self])

/-! ### A PUSH over a FETCH that ends with its delivery (R31, R62, R77) -/

theorem backlogNext_single (hback : s.backlog = [cid]) (hc : s.claim? cid = some c) (hk : c.station = k) :
    s.backlogNext k = some cid := by
  simp [State.backlogNext, hback, hc, hk]

/-- The queue-slot signal of a crane with nothing queued admits the FETCH of the one claim of the backlog (R31). -/
theorem slotFreed_single (hback : s.backlog = [cid]) (hc : s.claim? cid = some c) (hk : c.station = k)
    (hq : (s.crane k).queue = []) : slotFreed k s = admitFetch cid { s with backlog := [] } := by
  have hroom : s.fetchRoom k = true := by simp [State.fetchRoom, State.queuedFetches, hq]
  unfold slotFreed
  rw [backlogNext_single hback hc hk]
  simp [hroom, hback]

/-- NEXT STEP of a crane whose marker PUSH stands over a FETCH gives that FETCH's queue-slot signal (R62, R77). -/
theorem nextWork_push (hs : s.settled) (ha : (s.crane k).active = some id) (ht : s.task? id = some t)
    (hplain : ∀ i ∈ id :: (s.crane k).stack, ∀ x, s.task? i = some x → x.redirect = none)
    (hpush : (s.crane k).undelivered = .push) (hfetch : t.kind = .fetch) (hback : s.backlog = [cid])
    (hc : s.claim? cid = some c) (hk : c.station = k) (hcls : t.cls ≤ c.cls) (hq : (s.crane k).queue = [])
    (htid : s.tasks.lowestFree 64 = some tid) :
    let u := nextWork k s
    (u.crane k).undelivered = .none ∧ u.backlog = []
      ∧ u.claim? cid = some { c with task := some tid, unseen := true }
      ∧ u.task? tid = some ((c.fetch cid).admittedAt s.wingTime)
      ∧ (u.crane k).queue = [tid] ∧ (u.crane k).active = some id := by
  set v : State := s.modCrane k (fun c => { c with undelivered := .none }) with hv
  have hvcrane : v.crane k = { s.crane k with undelivered := .none } := State.crane_modCrane_self ..
  have hmark : setMarker k .none s = admitFetch cid { v with backlog := [] } := by
    rw [← slotFreed_single (s := v) hback hc hk (by rw [hvcrane]; exact hq)]
    simp [setMarker, hpush, ha, ht, hfetch, hv]
  have hfree : Table.lowestFree ({ v with backlog := [] } : State).tasks 64 = some tid := htid
  obtain ⟨hclaim, htask, hcrane, hdue, hframe⟩ := admitFetch_spec (s := { v with backlog := [] }) hc hfree hk
    (by show (v.crane k).queue = []; rw [hvcrane]; exact hq)
  have hcrane' : (admitFetch cid { v with backlog := [] }).crane k =
      { s.crane k with undelivered := .none, queue := [tid] } := by
    rw [hcrane]
    show { v.crane k with queue := [tid] } = _
    rw [hvcrane]
  have hold : (admitFetch cid { v with backlog := [] }).task? id = some t := by
    refine (htask id).trans ((if_neg ?_).trans ht)
    rintro rfl
    have hnone : s.task? id = none := Table.lowestFree_free htid
    rw [ht] at hnone
    exact nomatch hnone
  unfold nextWork
  rw [releaseKept_plain (by rw [ha]; exact hplain), hmark]
  generalize admitFetch cid { v with backlog := [] } = w at *
  have hcalm : w.calm k := Or.inr (Or.inr ⟨tid, id, _, t, by rw [hcrane'], by rw [hcrane']; exact ha,
    (htask tid).trans (if_pos rfl), hold, hcls⟩)
  have hsettle := settle_calm (owesOnly_of_due hs hdue) hcalm
  rw [takeWork_active (by rw [hcrane']; exact ha), hsettle, deliver_none]
  · have hwcrane : (w.undue.modCrane k (fun c => { c with roomRefusal := false })).crane k =
        { s.crane k with undelivered := .none, queue := [tid], roomRefusal := false } := by
      rw [State.crane_modCrane_self]
      show { w.crane k with roomRefusal := false } = _
      rw [hcrane']
    dsimp only
    rw [hwcrane]
    refine ⟨rfl, ?_, (hclaim cid).trans (if_pos rfl), (htask tid).trans (if_pos rfl), rfl, ha⟩
    show w.backlog = []
    rw [hframe]
  · rw [State.crane_modCrane_self]
    show (w.crane k).undelivered = .none
    rw [hcrane']

/-! ### A redirected step whose kept slot is given back (R78) -/

theorem releaseSlots_noneBlocked {n : Nat} (hb : s.NoneBlocked) :
    releaseSlots i (n + 1) s = s.modLane i (fun l => { l with incoming := l.incoming - (n + 1) }) := by
  unfold releaseSlots
  rw [if_neg (Nat.succ_ne_zero n)]
  exact State.NoneBlocked.reexamine (s := State.modLane _ i _) hb _

/-- NEXT STEP of a crane with a redirected step gives back the slot that it kept in its planned lane (R78). -/
theorem nextWork_redirected {r : Redirect} (hs : s.settled) (hb : s.NoneBlocked) (ha : (s.crane k).active = some id)
    (ht : s.task? id = some t) (hstack : (s.crane k).stack = []) (hr : t.redirect = some r) (hkept : r.kept = true)
    (hlane : t.plannedLane = some i) (hm : (s.crane k).undelivered = .redirect) :
    let u := nextWork k s
    (∀ j, u.task? j = if j = id then some { t with redirect := some { r with kept := false } } else s.task? j)
      ∧ (∀ j, u.lane j = if j = i then { s.lane i with incoming := (s.lane i).incoming - 1 } else s.lane j)
      ∧ u = { s with
          tasks := u.tasks, lanes := u.lanes, cranes := s.cranes.set k { s.crane k with undelivered := .none } } := by
  have hkeep : releaseKept k s = (s.setTask id { t with redirect := some { r with kept := false } }).modLane i (fun l =>
      { l with incoming := l.incoming - 1 }) := by
    have hblocked : (s.setTask id { t with redirect := some { r with kept := false } }).NoneBlocked :=
      hb.setTask id (show t.state ≠ .blocked from hb.task ht)
    have hslots := releaseSlots_noneBlocked (i := i) (n := 0) hblocked
    unfold releaseKept forIds
    rw [ha, hstack]
    simp [ht, hr, hkept, hlane, hslots]
  unfold nextWork
  rw [hkeep, setMarker_quiet (Or.inl (by show (s.crane k).undelivered ≠ _; rw [hm]; decide)),
    takeWork_active (id := id) (by rw [State.crane_modCrane_self]; exact ha), settle_of_settled (by exact hs),
    deliver_none _ (by rw [State.crane_modCrane_self])]
  refine ⟨fun j => State.task?_setTask .., fun j => ?_, rfl⟩
  exact State.lane_setLane ..

/-! ### Dispatch to an idle crane (R64, R66) -/

/-- The place of an activated task at its crane, once its test has found nothing to preempt it (R64, R74, R82). -/
def CraneTasks.dispatched (id : Nat) (kind : TaskKind) (c : CraneTasks) : CraneTasks :=
  { c with queue := [], active := some id, standingYield := if kind = .park then none else c.standingYield,
           roomRefusal := false }

/-- Dispatch of the one queued task of an idle crane, whose activation leaves the state `w` (R64). -/
theorem nextWork_dispatches {w : State} {t' : Task} (hs : s.settled) (hm : (s.crane k).undelivered = .none)
    (ha : (s.crane k).active = none) (hstack : (s.crane k).stack = []) (hq : (s.crane k).queue = [id])
    (hyield : (s.fire (aisleOf k)).state = .normal → (s.crane k).standingYield = none)
    (ht : s.task? id = some t) (helig : s.eligible t = true) (hact : activate id s = (w, true))
    (hw : w.task? id = some t') (hkind : t'.kind ≠ .fetch) (hcranes : w.cranes = s.cranes) (hdue : w.due = s.due) :
    nextWork k s = { w with cranes := s.cranes.set k ((s.crane k).dispatched id t'.kind) } := by
  have hwcrane : w.crane k = s.crane k := by simp [State.crane, hcranes]
  have hyield' : (s.normal (aisleOf k) && (s.crane k).standingYield.isSome) = false := by
    by_cases hn : (s.fire (aisleOf k)).state = .normal
    · simp [hyield hn]
    · simp [State.normal, hn]
  have htake : takeWork k s = makeActive k id w := by
    unfold takeWork
    rw [ha, hstack, hq, hyield']
    simp only [Option.isSome_none, Bool.false_eq_true, if_false, List.isEmpty_nil, Bool.not_true, Bool.and_false]
    unfold dispatch
    rw [if_pos (by simp [State.eligibleId, ht, helig]), hact]
    simp [hw, hkind]
  have hmade : makeActive k id w = markDue k (w.modCrane k (fun c =>
      { c with queue := [], active := some id, standingYield := if t'.kind = .park then none else c.standingYield })) := by
    unfold makeActive
    rw [hw]
    refine congrArg (markDue k) (State.modCrane_congr ?_)
    rw [hwcrane, hq]
    simp
  have howes : (makeActive k id w).owesOnly k := by
    rw [hmade]
    exact owesOnly_of_due hs (by show w.due.set k true = _; rw [hdue])
  have hcalm : (makeActive k id w).calm k := Or.inl (by rw [hmade, markDue_crane, State.crane_modCrane_self])
  unfold nextWork
  rw [releaseKept_plain (by simp [ha, hstack]), setMarker_quiet (Or.inl (by rw [hm]; decide)),
    modCrane_of_eq (by rw [← hm]), htake, settle_calm howes hcalm, hmade]
  have heq : (markDue k (w.modCrane k (fun c =>
      { c with queue := [], active := some id, standingYield := if t'.kind = .park then none else c.standingYield }))).undue.modCrane
        k (fun c => { c with roomRefusal := false }) =
      { w with cranes := s.cranes.set k ((s.crane k).dispatched id t'.kind) } := by
    have hset : State.modCrane w.undue k (fun c => c.dispatched id t'.kind) =
        { w with cranes := s.cranes.set k ((s.crane k).dispatched id t'.kind) } := by
      unfold State.undue State.modCrane
      rw [← due_of_settled hs, ← hdue, hcranes]
      rfl
    rw [← hset]
    unfold State.undue State.modCrane markDue CraneTasks.dispatched
    simp
  rw [heq]
  refine deliver_none _ ?_
  simpa [State.crane, CraneTasks.dispatched] using hm

theorem activate_travel (ht : s.task? id = some t) (hkind : t.kind = .park ∨ t.kind = .home) :
    activate id s = (s.setTask id { t with
      state := .active, block := none, step := .travel, dest := some (.rail (s.params.travelEnd t.crane t.kind)) }, true) := by
  have hmod := State.modTask_eq ht (fun t => { t with
    state := .active, block := none, step := .travel, dest := some (.rail (s.params.travelEnd t.crane t.kind)) })
  have htravel : activate id s = activateTravel id s := by
    unfold activate
    rw [ht]
    rcases hkind with h | h <;> simp only [h]
  rw [htravel]
  exact congrArg (·, true) hmod

end Sys2Proof.Machine
end

section
namespace Sys2Proof.Machine

variable {s : State} {k : Crane} {q : Request} {id i : Nat} {t : Task} {r : Redirect}

/-- NEXT STEP answered with the place of the active step (R63, R68). -/
theorem nextBody_lane (ha : (s.crane k).active = some id) (ht : s.task? id = some t) (hy : t.yield = none)
    (hplace : t.place = some (.lane i)) : s.nextBody k = s.ownForm k id t
      ++ (put8 t.step.code ++ put16? t.stepBin ++ putLaneAddr s.params i ++ [255, 255]
        ++ putPos (s.params.bayMm (s.params.laneAisle i) (s.params.laneBay i)) ++ put8 t.digLeft ++ [0]) ++ s.lastForm k := by
  rw [nextBody_place ha ht hy hplace]
  simp only [List.append_assoc]
  exact congrArg (fun l => s.ownForm k id t ++ (put8 t.step.code ++ (put16? t.stepBin ++ l))) (List.append_assoc ..)

theorem nextBody_station {p : Pos} (ha : (s.crane k).active = some id) (ht : s.task? id = some t) (hy : t.yield = none)
    (hplace : t.place = some (.station p)) : s.nextBody k = s.ownForm k id t
      ++ (put8 t.step.code ++ put16? t.stepBin ++ [255, 255, 255, 255] ++ put8 k.val ++ put8 p.val
        ++ putPos s.params.stationPos[k] ++ put8 t.digLeft ++ [0]) ++ s.lastForm k := by
  rw [nextBody_place ha ht hy hplace]
  simp only [List.append_assoc]
  rfl

theorem nextBody_rail {mm : Int} (ha : (s.crane k).active = some id) (ht : s.task? id = some t) (hy : t.yield = none)
    (hplace : t.place = some (.rail mm)) : s.nextBody k = s.ownForm k id t
      ++ (put8 t.step.code ++ put16? t.stepBin ++ [255, 255, 255, 255, 255, 255] ++ putPos mm
        ++ put8 t.digLeft ++ [0]) ++ s.lastForm k := by
  rw [nextBody_place ha ht hy hplace]
  simp only [List.append_assoc]
  rfl

/-- The lane that a task's bin was bound for before its step was redirected (R78). -/
theorem plannedLane_eq (h : t.step = .set ∧ t.dest = some (.lane i) ∨ t.step = .relocSet ∧ t.kind = .relocate ∧ t.dest = some (.lane i)
      ∨ t.step = .relocSet ∧ t.kind = .fetch ∧ t.unfinished.head?.map Prod.snd = some i) : t.plannedLane = some i := by
  rcases h with ⟨hstep, hdest⟩ | ⟨hstep, hkind, hdest⟩ | ⟨hstep, hkind, hdig⟩
  · simp [Task.plannedLane, hstep, Task.destLane, hdest]
  · simp [Task.plannedLane, hstep, hkind, Task.destLane, hdest]
  · simpa [Task.plannedLane, hstep, hkind] using hdig

theorem place_redirected (hr : t.redirect = some r) (h : t.step = .set ∨ t.step = .relocSet) :
    t.place = some (.station r.pos) := by
  rcases h with h | h <;> simp [Task.place, h, hr]

/-- What is left of a dispatch after its answer (R64). -/
theorem dispatched_taken {w : State} {t' : Task} (hw : ∀ j, w.task? j = if j = id then some t' else s.task? j)
    (hq : (s.crane k).stack = []) (hframe : w = { s with tasks := w.tasks, lanes := w.lanes }) (body : List Byte) :
    let u := State.answered { w with cranes := s.cranes.set k ((s.crane k).dispatched id t'.kind) } (.k k) q .ok body
    u.task? id = some t' ∧ (∀ j, j ≠ id → u.task? j = s.task? j)
      ∧ (u.crane k).active = some id ∧ (u.crane k).queue = [] ∧ (u.crane k).stack = []
      ∧ (∀ j, j ≠ k → u.crane j = s.crane j)
      ∧ u = { s with tasks := u.tasks, cranes := u.cranes, lanes := u.lanes, portK := u.portK } := by
  have hcrane (j : Crane) : State.crane (State.answered
      { w with cranes := s.cranes.set k ((s.crane k).dispatched id t'.kind) } (.k k) q .ok body) j =
        if k = j then (s.crane k).dispatched id t'.kind else s.crane j := by
    rw [answered_crane]
    exact State.crane_modCrane s k j (fun c => c.dispatched id t'.kind)
  refine ⟨(hw id).trans (if_pos rfl), fun j hj => (hw j).trans (if_neg hj), ?_, ?_, ?_, fun j hj => ?_, ?_⟩
  · rw [hcrane, if_pos rfl]
    rfl
  · rw [hcrane, if_pos rfl]
    rfl
  · rw [hcrane, if_pos rfl]
    exact hq
  · rw [hcrane, if_neg (Ne.symm hj)]
  · rw [hframe]
    rfl

end Sys2Proof.Machine
end

section
open Sys2Proof Sys2Proof.Machine

/-- Settles O28: a NEXT STEP gives back what a redirection kept, delivers the change, dispatches where the crane is idle,
and answers with the step as it then stands. -/
theorem nextStepGivesWork : Obligations.NextStepGivesWork := by
  unfold Obligations.NextStepGivesWork
  refine ⟨?repeats, ?delivers, ?dispatches⟩
  case repeats =>
    intro s k q id t h hk hs hm ha ht hplain own last answered
    have hwork : nextWork k s = s := by
      rw [nextWork_active hs ha hplain (Or.inl (by rw [hm]; decide))]
      exact modCrane_of_eq (by rw [← hm])
    have hexec : exec (.nextStep k) s = .next (s.answered (.k k) q .ok (s.nextBody k)) := by
      have := execNextStep_eq h hk
      rwa [hwork] at this
    have hanswered (form : List Byte) (hbody : s.nextBody k = s.ownForm k id t ++ form ++ s.lastForm k) : answered form := by
      show exec _ s = .next (s.answered (.k k) q .ok (s.ownForm k id t ++ form ++ s.lastForm k))
      rw [hexec, hbody]
    exact ⟨fun y hy => hanswered _ (nextBody_yield ha ht hy), fun hy i hplace => hanswered _ (nextBody_lane ha ht hy hplace),
      fun hy p hplace => hanswered _ (nextBody_station ha ht hy hplace),
      fun hy mm hplace => hanswered _ (nextBody_rail ha ht hy hplace)⟩
  case delivers =>
    intro s k q id t h hk hs ha ht hblocked
    have hredirects (hplain : ∀ j ∈ id :: (s.crane k).stack, ∀ u ∈ s.task? j, u.redirect = none) :
        ∀ j ∈ id :: (s.crane k).stack, ∀ u, s.task? j = some u → u.redirect = none := fun j hj u hu =>
      hplain j hj u (Option.mem_def.mpr hu)
    refine ⟨fun hback hplain => ?plain, fun cid c hc tid hpush hfetch hback hst hcls hq htid hplain => ?push,
      fun r hr i hm hstack hkept hlane hy => ?redirected⟩
    case plain =>
      set s1 := s.modCrane k (fun c => { c with undelivered := .none }) with hs1
      have hcrane : s1.crane k = { s.crane k with undelivered := .none } := State.crane_modCrane_self ..
      have hwork : nextWork k s = s1 := nextWork_active hs ha (hredirects hplain) (Or.inr hback)
      have hwork1 : nextWork k s1 = s1 := by
        rw [nextWork_active (s := s1) (id := id) hs (by rw [hcrane]; exact ha) (by rw [hcrane]; exact hredirects hplain) (Or.inr hback)]
        exact modCrane_of_eq (by rw [hcrane])
      have hexec := execNextStep_eq h hk
      have hexec1 := execNextStep_eq (s := s1) h hk
      rw [hwork] at hexec
      rw [hwork1] at hexec1
      refine ⟨hexec.trans hexec1.symm, _, hexec, ?_, fun j hj => ?_, rfl⟩
      · rw [answered_crane, hcrane]
      · rw [answered_crane]
        exact State.crane_modCrane_other s (Ne.symm hj) _
    case push =>
      obtain ⟨hmark, hback', hclaim, htask, hqueue, hactive⟩ :=
        nextWork_push hs ha ht (hredirects hplain) hpush hfetch hback hc hst hcls hq htid
      have hexec := execNextStep_eq h hk
      generalize nextWork k s = u at *
      subst hst
      refine ⟨_, hexec, ?_, hback', hclaim, htask, ?_, ?_⟩ <;> rw [answered_crane]
      · exact hmark
      · exact hqueue
      · exact hactive
    case redirected =>
      obtain ⟨htask, hlanes, hframe⟩ := nextWork_redirected hs hblocked ha ht hstack hr hkept (plannedLane_eq hlane) hm
      have hexec := execNextStep_eq h hk
      generalize nextWork k s = u at *
      have hstep : t.step = .set ∨ t.step = .relocSet := by
        rcases hlane with h | h | h <;> simp [h.1]
      have hcrane : u.crane k = { s.crane k with undelivered := .none } := by
        rw [hframe]
        exact State.crane_modCrane_self (s := s) k (fun c => { c with undelivered := .none })
      have hbody := nextBody_station (s := u) (k := k) (by rw [hcrane]; exact ha) ((htask id).trans (if_pos rfl)) hy
        (place_redirected rfl hstep)
      rw [hbody] at hexec
      refine ⟨_, hexec, ?_, (htask id).trans (if_pos rfl), fun j hj => (htask j).trans (if_neg hj),
        (hlanes i).trans (if_pos rfl), fun j hj => (hlanes j).trans (if_neg hj), ?_⟩
      · rw [answered_crane, hcrane]
      · have hform : u.ownForm k id { t with redirect := some { r with kept := false } } ++ (put8 t.step.code ++ put16? t.stepBin
            ++ [255, 255, 255, 255] ++ put8 k.val ++ put8 r.pos.val ++ putPos u.params.stationPos[k] ++ put8 t.digLeft ++ [0])
            ++ u.lastForm k = s.ownForm k id t ++ (put8 t.step.code ++ put16? t.stepBin
            ++ [255, 255, 255, 255] ++ put8 k.val ++ put8 r.pos.val ++ putPos s.params.stationPos[k] ++ put8 t.digLeft ++ [0])
            ++ s.lastForm k := by
          have hparams : u.params = s.params := by rw [hframe]
          have hrail : u.rail k = s.rail k := by rw [hframe]; rfl
          unfold State.ownForm State.lastForm
          rw [hparams, hrail, hcrane]
        refine congrArg₂ (fun v b => State.answered v (.k k) q .ok b) hframe (hform.trans ?_)
        simp only [State.ownForm, State.lastForm, List.append_assoc]
  case dispatches =>
    intro s k q id t h hk hs hm ha hstack hq ht hcrane hstate taken
    refine ⟨fun b r p i hkind hrail hfire hyield hb hr hplace => ?stow, fun hkind hrail hyield => ?park,
      fun hkind hrail hfire hyield => ?home⟩
    case stow =>
      intro open' price hopenI hmin
      have hcost (j : Nat) (hj : open' j) : s.stowCost k j = price j := by
        unfold State.stowCost cost travelTerm Params.lanePos
        rw [hj.2.1]
      have hlane : s.stowLane t.crane r.key = some i := by
        rw [hcrane]
        refine State.stowLane_eq ((s.mem_openLanes ..).2 hopenI) fun j hj => ?_
        have hopen : open' j := (s.mem_openLanes ..).1 hj
        rw [hcost i hopenI, hcost j hopen]
        exact hmin j hopen
      have hact := activate_stow ht hkind hb hr hplace hlane
      have helig : s.eligible t = true := by simp [State.eligible, hstate, hcrane, State.normal, hfire, hkind, hrail]
      have htask (j : Nat) := State.task?_setTask (takeSlots i 1 s) id j
        { t with state := .active, block := none, dest := some (.lane i), step := .pick, source := some (.station p) }
      have hlanes (j : Nat) : State.lane ((takeSlots i 1 s).setTask id
          { t with state := .active, block := none, dest := some (.lane i), step := .pick, source := some (.station p) }) j =
            if j = i then { s.lane i with incoming := (s.lane i).incoming + 1 } else s.lane j := State.lane_setLane ..
      have hwork := nextWork_dispatches hs hm ha hstack hq (fun _ => hyield) ht helig hact ((htask id).trans (if_pos rfl))
        (by show t.kind ≠ _; rw [hkind]; decide) rfl rfl
      have hexec := execNextStep_eq h hk
      rw [hwork] at hexec
      exact ⟨_, hexec, dispatched_taken htask hstack rfl _, (hlanes i).trans (if_pos rfl),
        fun j hj => (hlanes j).trans (if_neg hj)⟩
    case park =>
      have hact := activate_travel ht (Or.inl hkind)
      have helig : s.eligible t = true := by
        rcases hrail with hrail | hrail <;> simp [State.eligible, hstate, hcrane, hkind, hrail]
      have htask (j : Nat) := State.task?_setTask s id j
        { t with state := .active, block := none, step := .travel, dest := some (.rail (s.params.travelEnd t.crane t.kind)) }
      have hwork := nextWork_dispatches hs hm ha hstack hq hyield ht helig hact ((htask id).trans (if_pos rfl))
        (by show t.kind ≠ _; rw [hkind]; decide) rfl rfl
      have hexec := execNextStep_eq h hk
      rw [hwork] at hexec
      have hend : s.params.travelEnd t.crane t.kind = s.params.parkPos[k] := by rw [hcrane, hkind]; rfl
      rw [hend] at hexec htask
      refine ⟨_, hexec, dispatched_taken htask hstack rfl _, rfl, ?_⟩
      rw [answered_crane]
      simp [State.crane, CraneTasks.dispatched, hkind]
    case home =>
      have hact := activate_travel ht (Or.inr hkind)
      have helig : s.eligible t = true := by simp [State.eligible, hstate, hcrane, State.normal, hfire, hkind, hrail]
      have htask (j : Nat) := State.task?_setTask s id j
        { t with state := .active, block := none, step := .travel, dest := some (.rail (s.params.travelEnd t.crane t.kind)) }
      have hwork := nextWork_dispatches hs hm ha hstack hq (fun _ => hyield) ht helig hact ((htask id).trans (if_pos rfl))
        (by show t.kind ≠ _; rw [hkind]; decide) rfl rfl
      have hexec := execNextStep_eq h hk
      rw [hwork] at hexec
      have hend : s.params.travelEnd t.crane t.kind = if isWest k then s.params.tmin[k] else s.params.tmax[k] := by
        rw [hcrane, hkind]
        rfl
      rw [hend] at hexec htask
      exact ⟨_, hexec, dispatched_taken htask hstack rfl _, rfl⟩
end

section
namespace Sys2Proof.Machine

/-! ### Latches stay (R163) -/

/-- A latched kind stays latched at every port. -/
def LatchStays (s t : State) : Prop :=
  ∀ p i, (s.port p).latch.getLsbD i = true → (t.port p).latch.getLsbD i = true

theorem LatchStays.of_ports {s t : State} (hc : t.portC = s.portC) (hk : t.portK = s.portK) : LatchStays s t := by
  have (p : Port) : t.port p = s.port p := by cases p <;> simp [State.port, hc, hk]
  exact fun p i hi => by rw [this]; exact hi

theorem LatchStays.latch (s : State) (p : Port) (x : BitVec 16) :
    LatchStays s (s.modPort p (fun b => { b with latch := b.latch ||| x })) := by
  intro q i hi
  by_cases h : p = q
  · subst h
    simp [hi]
  · rw [State.port_modPort_other s h]
    exact hi

theorem latchStays_taskSteps : TaskSteps LatchStays where
  refl _ _ _ h := h
  trans h g p i hi := g p i (h p i hi)
  claim _ _ _ := .of_ports rfl rfl
  task _ _ _ := .of_ports rfl rfl
  drop _ _ := .of_ports rfl rfl
  crane _ _ _ := .of_ports rfl rfl
  latchC _ s := .latch s .c _
  latchK k _ s := .latch s (.k k) _
  sources _ _ := .of_ports rfl rfl
  due _ _ := .of_ports rfl rfl
  backlog _ _ := .of_ports rfl rfl
  incoming s i f := by
    refine .of_ports ?_ ?_ <;> unfold State.modLane State.setLane <;> rfl
  promises _ _ _ := .of_ports rfl rfl

/-! ### What an alarm leaves as it was -/

/-- The parts of the state that an alarm changes (R127). -/
def State.sameButAlarm (s t : State) : Prop :=
  t = { s with
    fires := t.fires, stations := t.stations, shutters := t.shutters, rails := t.rails, cranes := t.cranes,
    tasks := t.tasks, claims := t.claims, due := t.due, portC := t.portC, portK := t.portK, sources := t.sources }

/-- A change that leaves the devices of aisle `a` as they are, and takes back no latch. -/
structure Spares (a : Aisle) (s t : State) : Prop where
  fire : t.fire a = s.fire a
  station : ∀ k, aisleOf k = a → t.station k = s.station k
  shutter : ∀ k, aisleOf k = a → t.shutter k = s.shutter k
  rail : ∀ k, aisleOf k = a → t.rail k = s.rail k
  latch : LatchStays s t
  source : ∀ i : Nat, s.sources.fire.getLsbD i = true → t.sources.fire.getLsbD i = true
  frame : s.sameButAlarm t

variable {a b : Aisle} {s t u : State} {k : Crane}

theorem Spares.refl (s : State) : Spares a s s :=
  ⟨rfl, fun _ _ => rfl, fun _ _ => rfl, fun _ _ => rfl, fun _ _ h => h, fun _ h => h, rfl⟩

theorem Spares.trans (h : Spares a s t) (g : Spares a t u) : Spares a s u where
  fire := g.fire.trans h.fire
  station k hk := (g.station k hk).trans (h.station k hk)
  shutter k hk := (g.shutter k hk).trans (h.shutter k hk)
  rail k hk := (g.rail k hk).trans (h.rail k hk)
  latch p i hi := g.latch p i (h.latch p i hi)
  source i hi := g.source i (h.source i hi)
  frame := by
    have hf := g.frame
    unfold State.sameButAlarm at *
    rw [hf, h.frame]

/-- Work of the task and claim units alone. -/
theorem Spares.of_work (h : t = { s with
      claims := t.claims, tasks := t.tasks, cranes := t.cranes, due := t.due, portC := t.portC, portK := t.portK })
    (hlatch : LatchStays s t) : Spares a s t := by
  refine ⟨?_, fun k _ => ?_, fun k _ => ?_, fun k _ => ?_, hlatch, fun i hi => ?_, ?_⟩
  · rw [h]; rfl
  · rw [h]; rfl
  · rw [h]; rfl
  · rw [h]; rfl
  · rw [h]; exact hi
  · unfold State.sameButAlarm
    rw [h]

theorem spares_modFire (h : b ≠ a) (f : Fire → Fire) (s : State) : Spares a s (s.modFire b f) :=
  ⟨State.fire_modFire_other s h f, fun _ _ => rfl, fun _ _ => rfl, fun _ _ => rfl, .of_ports rfl rfl, fun _ h => h, rfl⟩

theorem spares_modStation (h : aisleOf k ≠ a) (f : Station → Station) (s : State) : Spares a s (s.modStation k f) :=
  ⟨rfl, fun j hj => State.station_modStation_other s (fun e => h (by rw [e]; exact hj)) f, fun _ _ => rfl, fun _ _ => rfl,
    .of_ports rfl rfl, fun _ h => h, rfl⟩

theorem spares_modShutter (h : aisleOf k ≠ a) (f : Shutter → Shutter) (s : State) : Spares a s (s.modShutter k f) :=
  ⟨rfl, fun _ _ => rfl, fun j hj => State.shutter_modShutter_other s (fun e => h (by rw [e]; exact hj)) f, fun _ _ => rfl,
    .of_ports rfl rfl, fun _ h => h, rfl⟩

theorem spares_modRail (h : aisleOf k ≠ a) (f : Rail → Rail) (s : State) : Spares a s (s.modRail k f) :=
  ⟨rfl, fun _ _ => rfl, fun _ _ => rfl, fun j hj => State.rail_modRail_other s (fun e => h (by rw [e]; exact hj)) f,
    .of_ports rfl rfl, fun _ h => h, rfl⟩

theorem spares_latchK (k : Crane) (n : NoticeK) (s : State) : Spares a s (latchK k n s) :=
  ⟨rfl, fun _ _ => rfl, fun _ _ => rfl, fun _ _ => rfl, latchStays_taskSteps.latchK k n s, fun _ h => h, rfl⟩

theorem spares_latchFire (b : Aisle) (s : State) : Spares a s (latchFire b s) :=
  ⟨rfl, fun _ _ => rfl, fun _ _ => rfl, fun _ _ => rfl,
    fun p i hi => latchStays_taskSteps.latchC .fire { s with sources := _ } p i hi,
    fun i hi => by
      show (s.sources.fire ||| _).getLsbD i = true
      rw [BitVec.getLsbD_or, hi, Bool.true_or], rfl⟩

theorem spares_forIds {f : Nat → State → State} (hf : ∀ i s, Spares a s (f i s)) (l : List Nat) (s : State) :
    Spares a s (forIds l f s) := by
  unfold forIds
  induction l generalizing s with
  | nil => exact .refl _
  | cons i l ih => exact (hf i s).trans (ih _)

theorem spares_touchClaim (id : Nat) (f : Claim → Claim) (s : State) : Spares a s (touchClaim id f s) := by
  refine .of_work ?_ (latchStays_taskSteps.touchClaim id f s)
  unfold touchClaim
  split <;> rfl

theorem spares_blockTask (id : Nat) (r : BlockReason) (s : State) : Spares a s (blockTask id r s) := by
  refine .of_work ?_ (latchStays_taskSteps.blockTask id r s)
  unfold blockTask State.modTask
  split <;> rfl

theorem spares_admitPark (k : Crane) (s : State) : Spares a s (admitPark k s) := by
  have h := parksAdmitted_admitPark k s
  obtain ⟨tasks, cranes, portK, due, hframe⟩ := h.frame
  refine .of_work ?_ (fun p i hi => ?_)
  · rw [hframe]
  · cases p with
    | c => rw [hframe]; exact hi
    | k j => exact h.latch j i hi

theorem spares_closeFetches (k : Crane) (s : State) : Spares a s (closeFetches k s) :=
  spares_forIds (fun _ _ => spares_blockTask ..) _ _

theorem spares_holdClaims (k : Crane) (s : State) : Spares a s (holdClaims k s) :=
  spares_forIds (fun _ _ => spares_touchClaim ..) _ _

theorem spares_alarmNotices (b : Aisle) (s : State) : Spares a s (alarmNotices b s) :=
  (spares_latchFire b s).trans ((spares_latchK ..).trans (spares_latchK ..))

/-! ### The alarm of the other aisle -/

theorem aisleOf_crane (b : Aisle) : aisleOf (westCrane b) = b ∧ aisleOf (eastCrane b) = b := by revert b; decide

theorem spares_forCranes (h : b ≠ a) {f : Crane → State → State} (hf : ∀ k s, aisleOf k ≠ a → Spares a s (f k s)) (s : State) :
    Spares a s (forCranes (cranesOf b) f s) := by
  obtain ⟨hw, he⟩ := aisleOf_crane b
  exact (hf _ s (by rw [hw]; exact h)).trans (hf _ _ (by rw [he]; exact h))

theorem spares_setFireHold (h : aisleOf k ≠ a) (s : State) : Spares a s (setFireHold k s) := by
  unfold setFireHold modRailStop
  dsimp only
  split
  · exact (spares_modRail h _ s).trans (spares_latchK ..)
  · exact spares_modRail h _ s

theorem spares_modShutters (h : b ≠ a) (f : Shutter → Shutter) (s : State) : Spares a s (modShutters b f s) :=
  spares_forCranes h (fun _ s hk => spares_modShutter hk f s) s

theorem spares_enterClosing (h : b ≠ a) (s : State) : Spares a s (enterClosing b s) := by
  have hclosing (f : Fire → Fire) : Spares a s ((modShutters b (fun r => { r with holdOpen := false }) s).modFire b f) :=
    (spares_modShutters h _ s).trans (spares_modFire h f _)
  unfold enterClosing
  dsimp only
  split
  · exact (hclosing _).trans ((spares_modFire h _ _).trans (spares_forCranes h (fun _ _ hk => spares_setFireHold hk _) _))
  · exact hclosing _

theorem spares_releaseClear (h : b ≠ a) (s : State) : Spares a s (releaseClear b s) := by
  unfold releaseClear closeIfReleased
  have hmod := spares_modShutters h (fun r => { r with holdOpen := r.holdOpen && !r.planeClear }) s
  split
  · split
    · exact hmod.trans (spares_enterClosing h _)
    · exact hmod
  · exact .refl s

theorem spares_shutStation (h : aisleOf k ≠ a) (s : State) : Spares a s (shutStation k s) :=
  (spares_modStation h _ s).trans (spares_holdClaims ..)

theorem spares_enterParking (h : b ≠ a) (s : State) : Spares a s (enterParking b s) :=
  (spares_modFire h _ s).trans <| (spares_forCranes h (fun _ s hk => spares_shutStation hk s) _).trans <|
    (spares_forCranes h (fun _ s _ => spares_closeFetches _ s) _).trans <|
      (spares_forCranes h (fun _ s _ => spares_admitPark _ s) _).trans <| (spares_modFire h _ _).trans <|
        (spares_releaseClear h _).trans (spares_alarmNotices ..)

/-- The turn of one aisle at the alarm edges leaves the other's devices as they are (R124). -/
theorem spares_alarmTurn (h : b ≠ a) (old s : State) : Spares a s (alarmTurn old s b) := by
  unfold alarmTurn alarmEdge
  split
  · split
    · exact spares_enterParking h s
    · exact spares_enterParking h s
    all_goals exact .refl s
  · exact .refl s

end Sys2Proof.Machine
end

section
namespace Sys2Proof.Machine

variable {a b : Aisle} {s t u : State} {k : Crane}

/-! ### The alarm of an aisle whose line stays asserted (R127) -/

/-- What an alarm edge gives the devices of its aisle, where a hold-open line stays asserted (R24, R126, R127). -/
structure AlarmOn (a : Aisle) (s t : State) : Prop where
  state : (t.fire a).state = .parking
  hold : (t.fire a).hold = startTimer s.params.shutterHold
  confirm : (t.fire a).confirm.running = false
  station : ∀ k, aisleOf k = a → t.station k = { s.station k with state := .shuttered }
  shutter : ∀ k, aisleOf k = a →
    t.shutter k = { s.shutter k with holdOpen := (s.shutter k).holdOpen && !(s.shutter k).planeClear }
  rail : ∀ k, aisleOf k = a → t.rail k = s.rail k
  park : ∀ k, aisleOf k = a → (t.port (.k k)).latch.getLsbD NoticeK.firePark.position = true
  fire : t.portC.latch.getLsbD NoticeC.fire.position = true
  source : t.sources.fire.getLsbD a.val = true
  frame : s.sameButAlarm t

theorem State.sameButAlarm.trans (h : s.sameButAlarm t) (g : t.sameButAlarm u) : s.sameButAlarm u := by
  unfold State.sameButAlarm at *
  rw [g, h]

theorem State.sameButAlarm.params (h : s.sameButAlarm t) : t.params = s.params := by rw [h]

theorem AlarmOn.spares (h : AlarmOn a s t) (g : Spares a t u) : AlarmOn a s u where
  state := by rw [g.fire]; exact h.state
  hold := by rw [g.fire]; exact h.hold
  confirm := by rw [g.fire]; exact h.confirm
  station k hk := (g.station k hk).trans (h.station k hk)
  shutter k hk := (g.shutter k hk).trans (h.shutter k hk)
  rail k hk := (g.rail k hk).trans (h.rail k hk)
  park k hk := g.latch _ _ (h.park k hk)
  fire := g.latch .c _ h.fire
  source := g.source _ h.source
  frame := h.frame.trans g.frame

theorem Spares.alarmOn (h : Spares a s t) (g : AlarmOn a t u) : AlarmOn a s u where
  state := g.state
  hold := by rw [g.hold, h.frame.params]
  confirm := g.confirm
  station k hk := by rw [g.station k hk, h.station k hk]
  shutter k hk := by rw [g.shutter k hk, h.shutter k hk]
  rail k hk := (g.rail k hk).trans (h.rail k hk)
  park := g.park
  fire := g.fire
  source := g.source
  frame := h.frame.trans g.frame

theorem crane_of_aisle (h : aisleOf k = a) : k = westCrane a ∨ k = eastCrane a :=
  (mem_cranesOf a k).mp ((mem_cranesOf_iff a k).mpr h)

theorem west_ne_east (a : Aisle) : westCrane a ≠ eastCrane a := by revert a; decide

theorem modShutters_shutter (h : aisleOf k = a) (f : Shutter → Shutter) (s : State) :
    (modShutters a f s).shutter k = f (s.shutter k) := by
  have hne := west_ne_east a
  show (State.modShutter (s.modShutter (westCrane a) f) (eastCrane a) f).shutter k = _
  rcases crane_of_aisle h with rfl | rfl
  · rw [State.shutter_modShutter_other _ (Ne.symm hne), State.shutter_modShutter_self]
  · rw [State.shutter_modShutter_self, State.shutter_modShutter_other _ hne]

theorem shutStations_station (h : aisleOf k = a) (s : State) :
    (forCranes (cranesOf a) shutStation s).station k = { s.station k with state := .shuttered } := by
  have hne := west_ne_east a
  have hstation (j : Crane) (s : State) (i : Crane) : (shutStation j s).station i =
      (s.modStation j (fun st => { st with state := .shuttered })).station i :=
    (spares_holdClaims (a := aisleOf i) j _).station i rfl
  rw [forCranes_cranesOf, hstation]
  rcases crane_of_aisle h with rfl | rfl
  · rw [State.station_modStation_other _ (Ne.symm hne), hstation, State.station_modStation_self]
  · rw [State.station_modStation_self, hstation, State.station_modStation_other _ hne]

theorem holdClaims_frame (k : Crane) (s : State) : ∃ claims portC, holdClaims k s = { s with claims := claims, portC := portC } := by
  unfold holdClaims forIds
  generalize (s.claims.entries.filter _).map Prod.fst = l
  induction l generalizing s with
  | nil => exact ⟨_, _, rfl⟩
  | cons i l ih =>
    have htouch : ∃ claims portC, touchClaim i (fun c => { c with state := .held }) s =
        { s with claims := claims, portC := portC } := by
      unfold touchClaim
      split <;> exact ⟨_, _, rfl⟩
    obtain ⟨_, _, h⟩ := htouch
    obtain ⟨_, _, h'⟩ := ih (touchClaim i (fun c => { c with state := .held }) s)
    exact ⟨_, _, h'.trans (by rw [h])⟩

theorem closeFetches_frame (k : Crane) (s : State) : ∃ tasks, closeFetches k s = { s with tasks := tasks } := by
  unfold closeFetches forIds
  generalize (s.tasks.entries.filter _).map Prod.fst = l
  induction l generalizing s with
  | nil => exact ⟨_, rfl⟩
  | cons i l ih =>
    have hblock : ∃ tasks, blockTask i .aisleClosed s = { s with tasks := tasks } := by
      unfold blockTask State.modTask
      split <;> exact ⟨_, rfl⟩
    obtain ⟨_, h⟩ := hblock
    obtain ⟨_, h'⟩ := ih (blockTask i .aisleClosed s)
    exact ⟨_, h'.trans (by rw [h])⟩

/-- The stations are shut, the FETCH tasks of the aisle blocked and its PARKs admitted. -/
def parkWork (a : Aisle) (s : State) : State :=
  forCranes (cranesOf a) admitPark (forCranes (cranesOf a) closeFetches (forCranes (cranesOf a) shutStation s))

/-- The parts of the state that the PARKs, the held claims and the blocked tasks of an alarm change. -/
def State.sameButWork (s t : State) : Prop :=
  t = { s with
    stations := t.stations, claims := t.claims, tasks := t.tasks, cranes := t.cranes, due := t.due, portC := t.portC,
    portK := t.portK }

theorem State.sameButWork.trans (h : s.sameButWork t) (g : t.sameButWork u) : s.sameButWork u := by
  unfold State.sameButWork at *
  rw [g, h]

theorem sameButWork_shutStation (k : Crane) (s : State) : s.sameButWork (shutStation k s) := by
  obtain ⟨_, _, h⟩ := holdClaims_frame k (s.modStation k (fun st => { st with state := .shuttered }))
  unfold State.sameButWork shutStation
  rw [h]
  rfl

theorem sameButWork_closeFetches (k : Crane) (s : State) : s.sameButWork (closeFetches k s) := by
  obtain ⟨_, h⟩ := closeFetches_frame k s
  unfold State.sameButWork
  rw [h]

theorem sameButWork_admitPark (k : Crane) (s : State) : s.sameButWork (admitPark k s) := by
  obtain ⟨_, _, _, _, h⟩ := (parksAdmitted_admitPark k s).frame
  unfold State.sameButWork
  rw [h]

theorem sameButWork_forCranes {f : Crane → State → State} (hf : ∀ k (s : State), s.sameButWork (f k s)) (a : Aisle) (s : State) :
    s.sameButWork (forCranes (cranesOf a) f s) := by
  rw [forCranes_cranesOf]
  exact (hf _ s).trans (hf _ _)

theorem parkWork_frame (a : Aisle) (s : State) : s.sameButWork (parkWork a s) :=
  ((sameButWork_forCranes sameButWork_shutStation a s).trans (sameButWork_forCranes sameButWork_closeFetches a _)).trans
    (sameButWork_forCranes sameButWork_admitPark a _)

theorem parkWork_station (h : aisleOf k = a) (s : State) :
    (parkWork a s).station k = { s.station k with state := .shuttered } := by
  have hlater (s : State) : (forCranes (cranesOf a) admitPark (forCranes (cranesOf a) closeFetches s)).station k = s.station k := by
    rw [forCranes_cranesOf, forCranes_cranesOf, (spares_admitPark (eastCrane a) _).station k rfl,
      (spares_admitPark (westCrane a) _).station k rfl, (spares_closeFetches (eastCrane a) _).station k rfl,
      (spares_closeFetches (westCrane a) _).station k rfl]
  unfold parkWork
  rw [hlater, shutStations_station h]

/-- The fire state of an alarm edge (R127). -/
def parkingFire (a : Aisle) (s : State) : State :=
  s.modFire a (fun f => { f with state := .parking, confirm := f.confirm.stopped })

/-- The start of the hold timer (R127, R133). -/
def startHold (a : Aisle) (s : State) : State :=
  s.modFire a (fun f => { f with hold := startTimer s.params.shutterHold })

/-- The entry to PARKING in its parts (R127). -/
theorem enterParking_parts (a : Aisle) (s : State) :
    enterParking a s = alarmNotices a (releaseClear a (startHold a (parkWork a (parkingFire a s)))) := by
  unfold enterParking alarmNotices startHold parkWork parkingFire
  rfl

/-- A line that stays asserted keeps the aisle in PARKING (R131). -/
theorem releaseClear_stays (hstate : (s.fire a).state = .parking)
    (hline : ∃ k, aisleOf k = a ∧ (s.shutter k).holdOpen = true ∧ (s.shutter k).planeClear = false) :
    releaseClear a s = modShutters a (fun r => { r with holdOpen := r.holdOpen && !r.planeClear }) s := by
  obtain ⟨k, hk, hopen, hclear⟩ := hline
  have hasserted : (modShutters a (fun r => { r with holdOpen := r.holdOpen && !r.planeClear }) s).bothShutters a
      (fun r => !r.holdOpen) ≠ true := by
    intro hall
    have := List.all_eq_true.mp hall k ((mem_cranesOf_iff a k).mpr hk)
    rw [modShutters_shutter hk] at this
    simp [hopen, hclear] at this
  unfold releaseClear closeIfReleased
  rw [if_pos hstate, if_neg (fun h => hasserted h.2)]

theorem enterParking_alarmOn (hline : ∃ k, aisleOf k = a ∧ (s.shutter k).holdOpen = true ∧ (s.shutter k).planeClear = false) :
    AlarmOn a s (enterParking a s) := by
  have hparts := enterParking_parts a s
  set s1 := parkingFire a s with hs1
  have hwork := parkWork_frame a s1
  have hstation (k) (hk : aisleOf k = a) := parkWork_station hk s1
  generalize parkWork a s1 = v at *
  have hvfire : v.fire a = { s.fire a with state := .parking, confirm := (s.fire a).confirm.stopped } := by
    have : v.fire a = s1.fire a := by rw [hwork]; rfl
    exact this.trans (State.fire_modFire_self ..)
  have hvshutter (k) : v.shutter k = s.shutter k := by rw [hwork]; rfl
  have hvrail (k) : v.rail k = s.rail k := by rw [hwork]; rfl
  have hvparams : v.params = s.params := by rw [hwork]; rfl
  set w := startHold a v with hw
  have hwfire : w.fire a = { s.fire a with
      state := .parking, confirm := (s.fire a).confirm.stopped, hold := startTimer s.params.shutterHold } := by
    unfold startHold at hw
    rw [hw, State.fire_modFire_self, hvfire, hvparams]
  have hclear := releaseClear_stays (s := w) (a := a) (by rw [hwfire])
    (by obtain ⟨k, hk, h⟩ := hline; exact ⟨k, hk, by rw [show w.shutter k = v.shutter k from rfl, hvshutter]; exact h⟩)
  have hshutter (k) (hk : aisleOf k = a) := modShutters_shutter hk (fun r => { r with holdOpen := r.holdOpen && !r.planeClear }) w
  rw [hclear] at hparts
  have hframe : ∃ shutters, modShutters a (fun r => { r with holdOpen := r.holdOpen && !r.planeClear }) w =
      { w with shutters := shutters } := ⟨_, rfl⟩
  generalize modShutters a (fun r => { r with holdOpen := r.holdOpen && !r.planeClear }) w = x at *
  obtain ⟨shutters, hx⟩ := hframe
  have hnotice := spares_alarmNotices (a := a) a x
  have hpark := alarmNotices_port a x
  have hfire := alarmNotices_latchC a x
  obtain ⟨_, _, hnotices⟩ := alarmNotices_frame a x
  rw [hparts]
  generalize alarmNotices a x = t at *
  have htfire : t.fire a = w.fire a := by rw [hnotice.fire, hx]; rfl
  refine ⟨by rw [htfire, hwfire], by rw [htfire, hwfire], by rw [htfire, hwfire]; rfl, fun k hk => ?_, fun k hk => ?_,
    fun k hk => ?_, fun k hk => ?_, ?_, ?_, ?_⟩
  · rw [hnotice.station k hk, show x.station k = v.station k by rw [hx]; rfl, hstation k hk]
    rfl
  · rw [hnotice.shutter k hk, hshutter k hk, show w.shutter k = v.shutter k from rfl, hvshutter]
  · rw [hnotice.rail k hk, show x.rail k = v.rail k by rw [hx]; rfl, hvrail]
  · rw [hpark, if_pos ((mem_cranesOf_iff a k).mpr hk), BitVec.getLsbD_or]
    simp +decide
  · rw [hfire, BitVec.getLsbD_or]
    simp +decide
  · rw [hnotices]
    show (x.sources.fire ||| BitVec.ofNat 2 (2 ^ a.val)).getLsbD a.val = true
    rw [BitVec.getLsbD_or]
    fin_cases a <;> simp
  · refine State.sameButAlarm.trans (t := x) ?_ hnotice.frame
    unfold State.sameButAlarm
    rw [hx, hw, hwork, hs1]
    rfl

end Sys2Proof.Machine
end

section
namespace Sys2Proof.Machine

/-! ### The FIRE sources through a preemption test (R74, R163) -/

variable {s t u : State}

theorem sources_modTask (id : Nat) (f : Task → Task) (s : State) : (s.modTask id f).sources = s.sources := by
  unfold State.modTask
  split <;> rfl

theorem sources_touchClaim (id : Nat) (f : Claim → Claim) (s : State) : (touchClaim id f s).sources = s.sources := by
  unfold touchClaim
  split <;> rfl

theorem sources_claimFetching (id : Nat) (s : State) : (claimFetching id s).sources = s.sources := by
  unfold claimFetching
  split
  · split
    · exact sources_touchClaim ..
    · rfl
  · rfl

theorem sources_admitAt (id : Nat) (x : Task) (s : State) : (admitAt id x s).sources = s.sources := by
  obtain ⟨_, _, _, _, h⟩ := admitAt_frame id x s
  rw [h]

theorem sources_slotFreed (k : Crane) (s : State) : (slotFreed k s).sources = s.sources := by
  unfold slotFreed admitFetch
  split
  · split
    · dsimp only
      split
      · exact (sources_touchClaim ..).trans (sources_admitAt ..)
      · rfl
    · rfl
  · rfl

theorem sources_reworks (h : Reworks s t) : t.sources = s.sources := by rw [h.frame]

theorem sources_releaseEntries (l : List (Nat × Nat)) (s : State) : (releaseEntries l s).sources = s.sources := by
  induction l generalizing s with
  | nil => rfl
  | cons e l ih => exact (ih _).trans (sources_reworks (releaseSlots_reworks ..))

theorem sources_planDig (src : Nat) (l : List Nat) (done : List (Nat × Nat)) (s : State) :
    (planDig src l done s).1.sources = s.sources := by
  induction l generalizing done s with
  | nil => rfl
  | cons b l ih =>
    unfold planDig
    split
    · exact ih ..
    · exact sources_releaseEntries ..

theorem sources_releasePromise (k : Crane) (id : Nat) (s : State) : (releasePromise k id s).sources = s.sources := by
  unfold releasePromise
  dsimp only
  split
  · exact (sources_reworks (reexamine_reworks _ (s.modStation k _))).trans rfl
  · rfl

theorem sources_blockTask (id : Nat) (r : BlockReason) (s : State) : (blockTask id r s).sources = s.sources :=
  sources_modTask ..

theorem sources_activateFetch (id : Nat) (x : Task) (s : State) : (activateFetch id x s).1.sources = s.sources := by
  unfold activateFetch
  split
  · next b src _ =>
    dsimp only
    split
    · exact sources_blockTask ..
    · split
      · exact sources_blockTask ..
      · next p _ =>
        have hplan := sources_planDig src ((s.lane src).contents.takeWhile (fun x => x != b)) [] (promise x.crane p id s)
        split
        · next v hv =>
          rw [hv] at hplan
          exact ((sources_blockTask ..).trans (sources_releasePromise ..)).trans hplan
        · next v plan hv =>
          rw [hv] at hplan
          dsimp only
          split
          · exact ((sources_claimFetching ..).trans (sources_modTask ..)).trans hplan
          · exact (sources_modTask ..).trans hplan
  · exact sources_blockTask ..

theorem sources_activate (id : Nat) (s : State) : (activate id s).1.sources = s.sources := by
  unfold activate
  split
  · split
    · exact sources_activateFetch ..
    · unfold activateStow
      split
      · split
        · exact sources_modTask ..
        · exact sources_blockTask ..
      · exact sources_blockTask ..
    · exact sources_modTask ..
    · exact sources_modTask ..
    · rfl
  · rfl

theorem sources_pushActive (k : Crane) (old new : Nat) (x : Task) (s : State) : (pushActive k old new x s).sources = s.sources := by
  unfold pushActive
  dsimp only
  have hmod := sources_modTask old (fun o => { o with state := .suspended, yield := none }) s
  have hfreed (c : Bool) (v : State) (hv : v.sources = s.sources) : (if c then slotFreed k v else v).sources = s.sources := by
    split
    · exact (sources_slotFreed k v).trans hv
    · exact hv
  split
  · exact hfreed _ _ hmod
  · exact hfreed _ _ hmod

theorem fire_preemptTest (k : Crane) (tried : List Nat) (s : State) :
    (preemptTest k tried s).1.sources.fire = s.sources.fire := by
  unfold preemptTest
  dsimp only
  split
  · next new x old o _ _ =>
    have hact := sources_activate new s
    split
    · split
      · split
        · split
          · next v hv =>
            rw [hv] at hact
            exact congrArg Sources.fire ((sources_pushActive ..).trans hact)
          · next v hv =>
            rw [hv] at hact
            exact congrArg Sources.fire hact
        · split <;> rfl
      · rfl
    · rfl
  · rfl

/-- The preemption tests that a step owes raise no FIRE source and take none back. -/
theorem fire_settle (s : State) : (settle s).sources.fire = s.sources.fire := by
  unfold settle
  generalize ([] : List Nat) = tried
  generalize 400 = n
  induction n generalizing tried s with
  | zero => rfl
  | succ n ih =>
    unfold settleTests
    split
    · rfl
    · next k _ => exact (ih _ _).trans (fire_preemptTest k tried { s with due := s.due.set k false })

/-! ### The edges of a fire line (R124) -/

/-- A fire line that raises no alarm changes its level alone. -/
theorem alarmTurn_noEdge {old : State} {a : Aisle} (h : old.alarm a = true ∨ s.alarm a = false ∨ (s.fire a).state = .parking
    ∨ (s.fire a).state = .closing ∨ (s.fire a).state = .sealed) : alarmTurn old s a = s := by
  unfold alarmTurn alarmEdge
  rcases h with h | h | h | h | h <;> simp [h]

theorem alarmTurn_edge {old : State} {a : Aisle} (hold : old.alarm a = false) (hnew : s.alarm a = true)
    (h : (s.fire a).state = .normal ∨ (s.fire a).state = .reopening) : alarmTurn old s a = enterParking a s := by
  unfold alarmTurn alarmEdge
  rcases h with h | h <;> simp [hold, hnew, h]

/-- The aisle that is not `a`. -/
def otherAisle (a : Aisle) : Aisle := 1 - a

theorem otherAisle_ne (a : Aisle) : otherAisle a ≠ a := by revert a; decide

/-- The alarm edges of a state in which aisle `a` has one: its turn, and the other aisle's before or after it (R124, log 51). -/
theorem alarmEdges_turns (a : Aisle) (old s : State) :
    (a = 0 ∧ alarmEdges old s = alarmTurn old (alarmTurn old s a) (otherAisle a))
      ∨ (a = 1 ∧ alarmEdges old s = alarmTurn old (alarmTurn old s (otherAisle a)) a) := by
  rcases aisle_eq a with rfl | rfl
  · exact .inl ⟨rfl, rfl⟩
  · exact .inr ⟨rfl, rfl⟩

theorem execFireLineSettled_eq (line : FireLine) (active : Bool) (hr : s.inReset = false) :
    exec (.fireLineSettled line active) s =
      .next (settle (alarmEdges s { s with fireLines := s.fireLines.set line active })) := by
  show Host.Outcome.next _ = _
  rw [hr]
  rfl

end Sys2Proof.Machine
end

section
namespace Sys2Proof.Machine

variable {a b : Aisle} {s t u : State} {k j : Crane} {p : Crane → Prop} {n m : Nat}

/-! ### The device work of an alarm (R127, R131, R132) -/

/-- Work on fire states, hold-open lines, fire holds and notices, which leaves the tasks and claims as they are. -/
structure DeviceWork (s t : State) : Prop where
  frame : t = { s with
    fires := t.fires, shutters := t.shutters, rails := t.rails, portC := t.portC, portK := t.portK, sources := t.sources }
  rail : ∀ k, (t.rail k).state = (s.rail k).state
  full : t.sources.stackFull = s.sources.stackFull
  latch : ∀ k, (t.port (.k k)).latch.getLsbD NoticeK.stackFull.position = (s.port (.k k)).latch.getLsbD NoticeK.stackFull.position
  normal : ∀ b, (s.fire b).state ≠ .normal → (t.fire b).state ≠ .normal

theorem DeviceWork.refl (s : State) : DeviceWork s s := ⟨rfl, fun _ => rfl, rfl, fun _ => rfl, fun _ h => h⟩

theorem DeviceWork.trans (h : DeviceWork s t) (g : DeviceWork t u) : DeviceWork s u where
  frame := by rw [g.frame, h.frame]
  rail k := (g.rail k).trans (h.rail k)
  full := g.full.trans h.full
  latch k := (g.latch k).trans (h.latch k)
  normal b hb := g.normal b (h.normal b hb)

theorem deviceWork_modFire {f : Fire → Fire} (hf : ∀ x, x.state ≠ .normal → (f x).state ≠ .normal) (b : Aisle) (s : State) :
    DeviceWork s (s.modFire b f) := by
  refine ⟨rfl, fun _ => rfl, rfl, fun _ => rfl, fun c hc => ?_⟩
  rw [State.fire_modFire]
  split
  · next h => rw [h]; exact hf _ hc
  · exact hc

theorem deviceWork_modShutters (f : Shutter → Shutter) (b : Aisle) (s : State) : DeviceWork s (modShutters b f s) :=
  ⟨rfl, fun _ => rfl, rfl, fun _ => rfl, fun _ h => h⟩

theorem deviceWork_latchK {i : NoticeK} (hi : i ≠ .stackFull) (j : Crane) (s : State) : DeviceWork s (latchK j i s) := by
  refine ⟨rfl, fun _ => rfl, rfl, fun k => ?_, fun _ h => h⟩
  rw [latchK_port]
  split
  · have hbit : (bit16 i.position).getLsbD NoticeK.stackFull.position = false := by
      revert hi
      cases i <;> decide
    rw [BitVec.getLsbD_or, hbit, Bool.or_false]
  · rfl

theorem deviceWork_latchFire (b : Aisle) (s : State) : DeviceWork s (latchFire b s) :=
  ⟨rfl, fun _ => rfl, rfl, fun _ => rfl, fun _ h => h⟩

theorem deviceWork_setFireHold (k : Crane) (s : State) : DeviceWork s (setFireHold k s) := by
  have hrail : DeviceWork s (s.modRail k (fun r => { r with fireHold := true })) := by
    refine ⟨rfl, fun j => ?_, rfl, fun _ => rfl, fun _ h => h⟩
    rw [State.rail_modRail]
    split
    · next h => rw [h]
    · rfl
  unfold setFireHold modRailStop
  dsimp only
  split
  · exact hrail.trans (deviceWork_latchK (by decide) ..)
  · exact hrail

theorem deviceWork_forCranes {f : Crane → State → State} (hf : ∀ k s, DeviceWork s (f k s)) (b : Aisle) (s : State) :
    DeviceWork s (forCranes (cranesOf b) f s) := by
  rw [forCranes_cranesOf]
  exact (hf _ s).trans (hf _ _)

theorem deviceWork_releaseClear (b : Aisle) (s : State) : DeviceWork s (releaseClear b s) := by
  have hclosing (s : State) (f : Fire → Fire) (hf : ∀ x, x.state ≠ .normal → (f x).state ≠ .normal) :
      DeviceWork s ((modShutters b (fun r => { r with holdOpen := false }) s).modFire b f) :=
    (deviceWork_modShutters ..).trans (deviceWork_modFire hf ..)
  have hmod := deviceWork_modShutters (fun r => { r with holdOpen := r.holdOpen && !r.planeClear }) b s
  unfold releaseClear closeIfReleased enterClosing enterSealed
  split
  · split
    · refine hmod.trans ?_
      dsimp only
      split
      · refine (hclosing _ _ ?_).trans ((deviceWork_modFire ?_ ..).trans (deviceWork_forCranes deviceWork_setFireHold ..))
        · intro _ _; simp
        · intro _ _; simp
      · refine hclosing _ _ ?_
        intro _ _; simp
    · exact hmod
  · exact .refl s

theorem deviceWork_alarmNotices (b : Aisle) (s : State) : DeviceWork s (alarmNotices b s) :=
  (deviceWork_latchFire b s).trans (deviceWork_forCranes (fun _ _ => deviceWork_latchK (by decide) ..) ..)

theorem deviceWork_parkingFire (b : Aisle) (s : State) : DeviceWork s (parkingFire b s) :=
  deviceWork_modFire (by intro _ _; simp) ..

theorem deviceWork_startHold (b : Aisle) (s : State) : DeviceWork s (startHold b s) :=
  deviceWork_modFire (by intro _ h; exact h) ..

end Sys2Proof.Machine
end

section
namespace Sys2Proof.Machine

/-! ### Operations over the numbers of a table -/

theorem keys_pairwise {α : Type} (l : List (Nat × α)) : ∀ lo, risingFrom lo l = true → (l.map Prod.fst).Pairwise (· < ·) := by
  induction l with
  | nil => intro _ _; exact .nil
  | cons e t ih =>
    intro lo h
    simp only [risingFrom, Bool.and_eq_true, decide_eq_true_eq] at h
    refine List.pairwise_cons.2 ⟨fun i hi => ?_, ih _ h.2⟩
    obtain ⟨d, hd, rfl⟩ := List.mem_map.1 hi
    exact le_of_mem_risingFrom hd _ h.2

/-- The numbers of the records of a canonical table that pass a test are listed once. -/
theorem filterKeys_nodup {α : Type} {t : Table α} (h : t.wf = true) (f : Nat × α → Bool) :
    ((t.entries.filter f).map Prod.fst).Nodup :=
  (keys_pairwise _ 0 (risingFrom_filter f _ 0 h)).imp (fun hlt => Nat.ne_of_lt hlt)

theorem mem_filterKeys {α : Type} {t : Table α} (h : t.wf = true) (f : Nat × α → Bool) (n : Nat) :
    n ∈ (t.entries.filter f).map Prod.fst ↔ ∃ x, t.find? n = some x ∧ f (n, x) = true := by
  simp only [List.mem_map, List.mem_filter, Prod.exists, exists_and_right, exists_eq_right]
  exact exists_congr fun x => and_congr_left fun _ => Table.mem_entries h n x

/-- An operation on one record after the other changes the records of the list. -/
theorem forIds_map {α : Type} {read : State → Nat → Option α} {f : Nat → State → State} {g : α → α}
    (hf : ∀ i s j, read (f i s) j = if j = i then (read s j).map g else read s j) {l : List Nat} (hl : l.Nodup) (s : State)
    (j : Nat) : read (forIds l f s) j = if j ∈ l then (read s j).map g else read s j := by
  induction l generalizing s with
  | nil => rfl
  | cons i l ih =>
    obtain ⟨hi, hl⟩ := List.nodup_cons.1 hl
    refine (ih hl (f i s)).trans ?_
    rw [hf]
    by_cases hj : j = i
    · subst hj
      simp [hi]
    · simp [hj]

theorem length_insertEntry_present {α : Type} {i : Nat} {x y : α} (l : List (Nat × α)) :
    ∀ lo, risingFrom lo l = true → lookupEntry i l = some y → (insertEntry i x l).length = l.length := by
  induction l with
  | nil => intro _ _ h; exact nomatch h
  | cons e t ih =>
    obtain ⟨k, v⟩ := e
    intro lo h hi
    simp only [risingFrom, Bool.and_eq_true, decide_eq_true_eq] at h
    simp only [lookupEntry] at hi
    simp only [insertEntry]
    by_cases hk : i = k
    · simp [hk]
    · rw [if_neg hk] at hi
      have hle := le_of_mem_risingFrom (mem_of_lookupEntry hi) _ h.2
      rw [if_neg (by omega), if_neg hk]
      simp [ih _ h.2 hi]

/-! ### What an alarm does to the tasks (R67, R127) -/

/-- A FETCH that is blocked because its aisle is closed (R67). -/
def Task.closed (x : Task) : Task :=
  { x with state := .blocked, block := some .aisleClosed, source := if x.kind = .stow then x.source else none,
           dest := none, dig := [], digLeft := 0, hold := 0 }

/-- An alarm changes a task only where it is a QUEUED FETCH, which it blocks. -/
def Task.drilled (x y : Task) : Prop := y = x ∨ x.kind = .fetch ∧ x.state = .queued ∧ y = x.closed

theorem Task.drilled.trans {x y z : Task} (h : x.drilled y) (g : y.drilled z) : x.drilled z := by
  rcases h with rfl | ⟨hkind, hstate, rfl⟩
  · exact g
  · rcases g with rfl | ⟨-, hstate', -⟩
    · exact .inr ⟨hkind, hstate, rfl⟩
    · exact nomatch hstate'

theorem Task.drilled.same {x y : Task} (h : x.drilled y) : y.kind = x.kind ∧ y.crane = x.crane ∧ y.cls = x.cls := by
  rcases h with rfl | ⟨-, -, rfl⟩ <;> exact ⟨rfl, rfl, rfl⟩

theorem Task.drilled.eq {x y : Task} (h : x.drilled y) (hx : x.kind ≠ .fetch ∨ x.state ≠ .queued) : y = x := by
  rcases h with rfl | ⟨hkind, hstate, -⟩
  · rfl
  · rcases hx with hx | hx
    · exact absurd hkind hx
    · exact absurd hstate hx

variable {a b : Aisle} {s t u : State} {k j : Crane} {p : Crane → Prop} {n m : Nat}

/-- What an alarm does to the tasks: QUEUED FETCH tasks are blocked, and at most `n` PARKs admitted, to cranes that `p`
accepts. -/
structure Drill (p : Crane → Prop) (n : Nat) (s t : State) : Prop where
  wf : t.tasks.wf = true
  size : t.tasks.entries.length ≤ s.tasks.entries.length + n
  task : ∀ id x, s.task? id = some x → ∃ y, t.task? id = some y ∧ x.drilled y
  new : ∀ id y, s.task? id = none → t.task? id = some y → y.kind = .park ∧ y.cls = 0 ∧ p y.crane
  active : ∀ j, (t.crane j).active = (s.crane j).active
  queue : ∀ j id, id ∈ (t.crane j).queue → id ∈ (s.crane j).queue ∨ ∃ y, t.task? id = some y ∧ y.crane = j
  crane : ∀ j, ¬ p j → t.crane j = s.crane j ∧ t.due[j] = s.due[j]
  due : ∀ j, t.due[j] = true → s.due[j] = true ∨ p j
  params : t.params = s.params
  wingTime : t.wingTime = s.wingTime
  backlog : t.backlog = s.backlog
  rail : ∀ k, (t.rail k).state = (s.rail k).state
  full : t.sources.stackFull = s.sources.stackFull
  latch : ∀ k, (t.port (.k k)).latch.getLsbD NoticeK.stackFull.position = (s.port (.k k)).latch.getLsbD NoticeK.stackFull.position
  normal : ∀ b, (s.fire b).state ≠ .normal → (t.fire b).state ≠ .normal

theorem Drill.trans (h : Drill p n s t) (g : Drill p m t u) : Drill p (n + m) s u where
  wf := g.wf
  size := by
    have := h.size
    have := g.size
    omega
  task id x hx := by
    obtain ⟨y, hy, hxy⟩ := h.task id x hx
    obtain ⟨z, hz, hyz⟩ := g.task id y hy
    exact ⟨z, hz, hxy.trans hyz⟩
  new id z hs hz := by
    cases hy : t.task? id with
    | none => exact g.new id z hy hz
    | some y =>
      obtain ⟨hkind, hcls, hp⟩ := h.new id y hs hy
      obtain ⟨z', hz', hyz⟩ := g.task id y hy
      obtain rfl := Option.some.inj (hz.symm.trans hz')
      obtain rfl := hyz.eq (.inl (by rw [hkind]; decide))
      exact ⟨hkind, hcls, hp⟩
  active j := (g.active j).trans (h.active j)
  queue j id hid := by
    rcases g.queue j id hid with hid | hz
    · rcases h.queue j id hid with hid | ⟨y, hy, hj⟩
      · exact .inl hid
      · obtain ⟨z, hz, hyz⟩ := g.task id y hy
        exact .inr ⟨z, hz, hyz.same.2.1.trans hj⟩
    · exact .inr hz
  crane j hj := ⟨(g.crane j hj).1.trans (h.crane j hj).1, (g.crane j hj).2.trans (h.crane j hj).2⟩
  due j hj := by
    rcases g.due j hj with hj | hp
    · exact h.due j hj
    · exact .inr hp
  params := g.params.trans h.params
  wingTime := g.wingTime.trans h.wingTime
  backlog := g.backlog.trans h.backlog
  rail k := (g.rail k).trans (h.rail k)
  full := g.full.trans h.full
  latch k := (g.latch k).trans (h.latch k)
  normal b hb := g.normal b (h.normal b hb)

theorem Drill.of_same (hwf : s.tasks.wf = true) (htasks : t.tasks = s.tasks) (hcranes : t.cranes = s.cranes)
    (hdue : t.due = s.due) (hparams : t.params = s.params) (htime : t.wingTime = s.wingTime) (hback : t.backlog = s.backlog)
    (hrail : ∀ k, (t.rail k).state = (s.rail k).state) (hfull : t.sources.stackFull = s.sources.stackFull)
    (hlatch : ∀ k, (t.port (.k k)).latch.getLsbD NoticeK.stackFull.position
      = (s.port (.k k)).latch.getLsbD NoticeK.stackFull.position)
    (hnormal : ∀ b, (s.fire b).state ≠ .normal → (t.fire b).state ≠ .normal) : Drill p 0 s t := by
  have htask (id) : t.task? id = s.task? id := by simp [State.task?, htasks]
  have hcrane (j) : t.crane j = s.crane j := by simp [State.crane, hcranes]
  exact ⟨by rw [htasks]; exact hwf, by rw [htasks]; exact Nat.le_refl _,
    fun id x hx => ⟨x, (htask id).trans hx, .inl rfl⟩, fun id y hs hy => absurd (hs.symm.trans ((htask id).symm.trans hy)) (by simp),
    fun j => by rw [hcrane], fun j id hid => .inl (by rw [← hcrane]; exact hid), fun j _ => ⟨hcrane j, by rw [hdue]⟩,
    fun j hj => .inl (by rw [← hdue]; exact hj), hparams, htime, hback, hrail, hfull, hlatch, hnormal⟩

theorem DeviceWork.drill (hwf : s.tasks.wf = true) (h : DeviceWork s t) : Drill p 0 s t :=
  .of_same hwf (by rw [h.frame]) (by rw [h.frame]) (by rw [h.frame]) (by rw [h.frame]) (by rw [h.frame]) (by rw [h.frame])
    h.rail h.full h.latch h.normal

theorem drill_shutStation (hwf : s.tasks.wf = true) (k : Crane) : Drill p 0 s (shutStation k s) := by
  obtain ⟨_, _, h⟩ := holdClaims_frame k (s.modStation k (fun st => { st with state := .shuttered }))
  have h : shutStation k s = _ := h
  rw [h]
  exact .of_same hwf rfl rfl rfl rfl rfl rfl (fun _ => rfl) rfl (fun _ => rfl) (fun _ h => h)

/-- The FETCH tasks of a crane that wait are blocked (R67, R127). -/
theorem closeFetches_task (hwf : s.tasks.wf = true) (k : Crane) (id : Nat) : (closeFetches k s).task? id =
    (s.task? id).map (fun x => if x.crane = k ∧ x.kind = .fetch ∧ x.state = .queued then x.closed else x) := by
  have hf (i : Nat) (s : State) (j : Nat) :
      (blockTask i .aisleClosed s).task? j = if j = i then (s.task? j).map Task.closed else s.task? j := by
    cases hi : s.task? i with
    | none =>
      have hsame : blockTask i .aisleClosed s = s := by
        unfold blockTask State.modTask
        rw [hi]
      rw [hsame]
      split
      · next h => rw [h, hi]; rfl
      · rfl
    | some x =>
      have hset : blockTask i .aisleClosed s = s.setTask i x.closed := State.modTask_eq hi _
      rw [hset, State.task?_setTask]
      split
      · next h => rw [h, hi]; rfl
      · rfl
  refine (forIds_map (read := State.task?) hf (filterKeys_nodup hwf _) s id).trans ?_
  simp only [mem_filterKeys hwf, Bool.and_eq_true, decide_eq_true_eq]
  cases hx : s.task? id with
  | none => simp
  | some x =>
    have hfind : s.tasks.find? id = some x := hx
    simp only [hfind, Option.some.injEq, exists_eq_left', Option.map_some, and_assoc]
    split <;> rfl

theorem closeFetches_wf (hwf : s.tasks.wf = true) (k : Crane) :
    (closeFetches k s).tasks.wf = true ∧ (closeFetches k s).tasks.entries.length = s.tasks.entries.length := by
  unfold closeFetches forIds
  generalize (s.tasks.entries.filter _).map Prod.fst = l
  induction l generalizing s with
  | nil => exact ⟨hwf, rfl⟩
  | cons i l ih =>
    have hblock : (blockTask i .aisleClosed s).tasks.wf = true
        ∧ (blockTask i .aisleClosed s).tasks.entries.length = s.tasks.entries.length := by
      unfold blockTask State.modTask
      split
      · next x hx => exact ⟨Table.wf_insert hwf .., length_insertEntry_present _ 0 hwf hx⟩
      · exact ⟨hwf, rfl⟩
    obtain ⟨hwf', hlen⟩ := ih hblock.1
    exact ⟨hwf', hlen.trans hblock.2⟩

theorem drill_closeFetches (hwf : s.tasks.wf = true) (k : Crane) : Drill p 0 s (closeFetches k s) := by
  have htask := closeFetches_task hwf k
  obtain ⟨hwf', hsize⟩ := closeFetches_wf hwf k
  obtain ⟨_, h⟩ := closeFetches_frame k s
  generalize closeFetches k s = t at *
  have hcrane (j) : t.crane j = s.crane j := by rw [h]; rfl
  refine ⟨hwf', by rw [hsize]; exact Nat.le_refl _, fun id x hx => ?_, fun id y hs hy => ?_, fun j => by rw [hcrane],
    fun j id hid => .inl (by rw [← hcrane]; exact hid), fun j _ => ⟨hcrane j, by rw [h]⟩,
    fun j hj => .inl (by rw [h] at hj; exact hj), by rw [h], by rw [h], by rw [h], fun _ => by rw [h]; rfl, by rw [h],
    fun _ => by rw [h]; rfl, fun b hb => by rw [h]; exact hb⟩
  · rw [htask, hx]
    refine ⟨_, rfl, ?_⟩
    by_cases hc : x.crane = k ∧ x.kind = .fetch ∧ x.state = .queued
    · exact .inr ⟨hc.2.1, hc.2.2, if_pos hc⟩
    · exact .inl (if_neg hc)
  · rw [htask, hs] at hy
    exact nomatch hy

/-- The PARK that a crane gets in an alarm, as it is admitted (R60, R80, R128, log 30). -/
def State.newPark (s : State) (k : Crane) : Task :=
  { Task.new k .park 0 .travel with dest := some (.rail s.params.parkPos[k]), admitted := s.wingTime }

theorem admitPark_new {id : Nat} (hold : s.holdsKind k .park = false) (hid : s.tasks.lowestFree 64 = some id) :
    admitPark k s = admitAt id (s.newPark k) s := by
  unfold admitPark admitTask
  rw [hold, hid]
  rfl

theorem drill_admitAt {id : Nat} (hwf : s.tasks.wf = true) (hid : s.task? id = none) (hk : p k) :
    Drill p 1 s (admitAt id (s.newPark k) s) := by
  have htask := admitAt_task? id (s.newPark k) s
  have hcrane := admitAt_crane id (s.newPark k) s
  have hport := admitAt_port id (s.newPark k) s
  have hdue : _ = s.due.set k true := admitAt_due id (s.newPark k) s
  have htasks := admitAt_tasks id (s.newPark k) s
  obtain ⟨_, _, _, _, h⟩ := admitAt_frame id (s.newPark k) s
  generalize admitAt id (s.newPark k) s = t at *
  refine ⟨by rw [htasks]; exact Table.wf_insert hwf .., by rw [htasks]; exact length_insertEntry .., fun i x hx => ?_,
    fun i y hs hy => ?_, fun j => ?_, fun j i hi => ?_, fun j hj => ?_, fun j hj => ?_, by rw [h], by rw [h], by rw [h],
    fun _ => by rw [h]; rfl, by rw [h], fun j => ?_, fun b hb => by rw [h]; exact hb⟩
  · refine ⟨x, (htask i).trans ((if_neg ?_).trans hx), .inl rfl⟩
    rintro rfl
    exact nomatch hid.symm.trans hx
  · rw [htask] at hy
    split at hy
    · obtain rfl := Option.some.inj hy
      exact ⟨rfl, rfl, hk⟩
    · exact nomatch hs.symm.trans hy
  · rw [hcrane]
    split <;> rfl
  · rw [hcrane] at hi
    split at hi
    · next hj =>
      rcases (State.mem_enqueue ..).mp hi with rfl | hi
      · exact .inr ⟨_, (htask i).trans (if_pos rfl), hj.symm⟩
      · exact .inl hi
    · exact .inl hi
  · have hne : j ≠ k := fun e => hj (e ▸ hk)
    refine ⟨(hcrane j).trans (if_neg hne), ?_⟩
    rw [hdue]
    exact Vector.getElem_set_ne _ _ (fun e => hne (Fin.ext e.symm))
  · by_cases hjk : j = k
    · exact .inr (hjk ▸ hk)
    · rw [hdue] at hj
      have hset : (s.due.set k true)[j] = s.due[j] := Vector.getElem_set_ne _ _ (fun e => hjk (Fin.ext e.symm))
      exact .inl (hset.symm.trans hj)
  · rw [hport]
    split
    · rw [BitVec.getLsbD_or, show (bit16 NoticeK.taskReady.position).getLsbD NoticeK.stackFull.position = false by decide,
        Bool.or_false]
    · rfl

theorem Drill.weaken {q : Crane → Prop} (h : Drill p n s t) (hq : ∀ j, p j → q j) (hm : n ≤ m) : Drill q m s t :=
  { h with
    size := Nat.le_trans h.size (Nat.add_le_add_left hm _)
    new := fun id y hs hy => (h.new id y hs hy).imp_right (And.imp_right (hq _))
    crane := fun j hj => h.crane j (fun hp => hj (hq j hp))
    due := fun j hj => (h.due j hj).imp_right (hq j) }

theorem drill_admitPark (hwf : s.tasks.wf = true) (hk : p k) : Drill p 1 s (admitPark k s) := by
  have hsame : Drill p 1 s s := ((DeviceWork.refl s).drill hwf).weaken (fun _ h => h) (by omega)
  cases hold : s.holdsKind k .park with
  | true => unfold admitPark; rw [if_pos hold]; exact hsame
  | false =>
    cases hid : s.tasks.lowestFree 64 with
    | none => unfold admitPark admitTask; rw [hold, hid]; exact hsame
    | some id =>
      rw [admitPark_new hold hid]
      exact drill_admitAt hwf (Table.lowestFree_free hid) hk

end Sys2Proof.Machine
end

section
namespace Sys2Proof.Machine

variable {a b : Aisle} {s t u : State} {k j : Crane} {p q : Crane → Prop} {n m : Nat} {old : State}

/-! ### The entry to PARKING, for the tasks (R127) -/

theorem drill_forCranes {f : Crane → State → State}
    (hf : ∀ k (s : State), s.tasks.wf = true → aisleOf k = b → Drill p n s (f k s)) (hwf : s.tasks.wf = true) :
    Drill p (n + n) s (forCranes (cranesOf b) f s) := by
  obtain ⟨hw, he⟩ := aisleOf_crane b
  have h := hf (westCrane b) s hwf hw
  rw [forCranes_cranesOf]
  exact h.trans (hf _ _ h.wf he)

/-- The stations of the aisle are shut and its waiting FETCH tasks blocked, before its PARKs are admitted. -/
def shutAisle (b : Aisle) (s : State) : State :=
  forCranes (cranesOf b) closeFetches (forCranes (cranesOf b) shutStation (parkingFire b s))

/-- What follows the admission of an aisle's PARKs in its alarm. -/
def endAlarm (b : Aisle) (s : State) : State := alarmNotices b (releaseClear b (startHold b s))

theorem enterParking_stages (b : Aisle) (s : State) :
    enterParking b s = endAlarm b (forCranes (cranesOf b) admitPark (shutAisle b s)) := enterParking_parts b s

theorem drill_shutAisle (hwf : s.tasks.wf = true) (b : Aisle) :
    Drill p 0 s (shutAisle b s) ∧ ((shutAisle b s).fire b).state ≠ .normal := by
  have h1 : Drill p 0 s (parkingFire b s) := (deviceWork_parkingFire b s).drill hwf
  have h2 := drill_forCranes (p := p) (b := b) (fun k _ hwf _ => drill_shutStation hwf k) h1.wf
  have h3 := drill_forCranes (p := p) (b := b) (fun k _ hwf _ => drill_closeFetches hwf k) h2.wf
  have hfire : ((parkingFire b s).fire b).state ≠ .normal := by
    unfold parkingFire
    rw [State.fire_modFire_self]
    exact fun h => nomatch h
  exact ⟨h1.trans (h2.trans h3), h3.normal b (h2.normal b hfire)⟩

theorem drill_endAlarm (hwf : s.tasks.wf = true) (b : Aisle) : Drill p 0 s (endAlarm b s) :=
  ((deviceWork_startHold b s).trans ((deviceWork_releaseClear b _).trans (deviceWork_alarmNotices b _))).drill hwf

theorem drill_enterParking (hwf : s.tasks.wf = true) (b : Aisle) :
    Drill (fun j => aisleOf j = b) 2 s (enterParking b s) ∧ ((enterParking b s).fire b).state ≠ .normal := by
  rw [enterParking_stages]
  obtain ⟨h1, hfire⟩ := drill_shutAisle (p := fun j => aisleOf j = b) hwf b
  have h2 := drill_forCranes (b := b) (fun k _ hwf hk => drill_admitPark (p := fun j => aisleOf j = b) hwf hk) h1.wf
  have h3 := drill_endAlarm (p := fun j => aisleOf j = b) h2.wf b
  exact ⟨(h1.trans h2).trans h3, h3.normal b (h2.normal b hfire)⟩

/-- The alarm of crane k's aisle around the admission of its own PARK. -/
theorem drill_enterParking_around (hwf : s.tasks.wf = true) (k : Crane) : ∃ v,
    Drill (fun j => aisleOf j = aisleOf k ∧ j ≠ k) 1 s v ∧ (v.fire (aisleOf k)).state ≠ .normal
      ∧ Drill (fun j => aisleOf j = aisleOf k ∧ j ≠ k) 1 (admitPark k v) (enterParking (aisleOf k) s) := by
  rw [enterParking_stages, forCranes_cranesOf]
  obtain ⟨h1, hfire⟩ := drill_shutAisle (p := fun j => aisleOf j = aisleOf k ∧ j ≠ k) hwf (aisleOf k)
  obtain ⟨hw, he⟩ := aisleOf_crane (aisleOf k)
  have hne := west_ne_east (aisleOf k)
  have hown {v : State} (hv : v.tasks.wf = true) : (admitPark k v).tasks.wf = true :=
    (drill_admitPark (p := fun _ => True) hv trivial).wf
  rcases crane_of_aisle (k := k) rfl with hk | hk
  · refine ⟨_, h1.weaken (fun _ h => h) (by omega), hfire, ?_⟩
    rw [← hk]
    have h2 := drill_admitPark (p := fun j => aisleOf j = aisleOf k ∧ j ≠ k) (k := eastCrane (aisleOf k)) (hown h1.wf)
      ⟨he, fun e => hne (hk.symm.trans e.symm)⟩
    exact h2.trans (drill_endAlarm h2.wf _)
  · have h2 := drill_admitPark (p := fun j => aisleOf j = aisleOf k ∧ j ≠ k) (k := westCrane (aisleOf k)) h1.wf
      ⟨hw, fun e => hne (e.trans hk)⟩
    refine ⟨_, h1.trans h2, h2.normal _ hfire, ?_⟩
    rw [← hk]
    exact (drill_endAlarm (hown h2.wf) _).weaken (fun _ h => h) (by omega)

/-! ### The tests that an alarm owes take only PARKs (R64, R74) -/

/-- The tests owed are those of cranes outside NORMAL; active and queued tasks are their crane's own, and PARKs are of
class 0. -/
structure ParkWork (s : State) : Prop where
  wf : s.tasks.wf = true
  active : ∀ j, ∀ id ∈ (s.crane j).active, ∃ x, s.task? id = some x ∧ x.crane = j
  queue : ∀ j, ∀ id ∈ (s.crane j).queue, ∃ x, s.task? id = some x ∧ x.crane = j
  parks : ∀ id x, s.task? id = some x → x.kind = .park → x.cls = 0
  firing : ∀ j, s.due[j] = true → (s.fire (aisleOf j)).state ≠ .normal

theorem parkWork_of_stackLaw (h : s.stackLaw) (hs : s.settled) : ParkWork s := by
  obtain ⟨hwf, hcranes, -, htasks⟩ := h
  refine ⟨hwf, fun j id hid => ?_, fun j id hid => ?_, fun id x hx hpark => ?_, fun j hj => ?_⟩
  · obtain ⟨hactive, -⟩ := hcranes j
    obtain ⟨x, hx, hj, -⟩ := hactive id hid
    exact ⟨x, hx, hj⟩
  · obtain ⟨-, -, -, -, -, hqueue⟩ := hcranes j
    obtain ⟨x, hx, hj, -⟩ := hqueue id hid
    exact ⟨x, hx, hj⟩
  · obtain ⟨hcls, -⟩ := htasks _ ((Table.mem_entries hwf id x).mpr hx)
    simpa [Task.classOk, hpark] using hcls
  · exact absurd hj (by rw [hs j]; decide)

theorem ParkWork.drill (h : ParkWork s) (g : Drill p n s t) (hp : ∀ j, p j → (t.fire (aisleOf j)).state ≠ .normal) :
    ParkWork t where
  wf := g.wf
  active j id hid := by
    rw [g.active] at hid
    obtain ⟨x, hx, hj⟩ := h.active j id hid
    obtain ⟨y, hy, hxy⟩ := g.task id x hx
    exact ⟨y, hy, hxy.same.2.1.trans hj⟩
  queue j id hid := by
    rcases g.queue j id hid with hid | hy
    · obtain ⟨x, hx, hj⟩ := h.queue j id hid
      obtain ⟨y, hy, hxy⟩ := g.task id x hx
      exact ⟨y, hy, hxy.same.2.1.trans hj⟩
    · exact hy
  parks id y hy hpark := by
    cases hx : s.task? id with
    | none => exact (g.new id y hx hy).2.1
    | some x =>
      obtain ⟨z, hz, hxz⟩ := g.task id x hx
      obtain rfl := Option.some.inj (hz.symm.trans hy)
      exact hxz.same.2.2.trans (h.parks id x hx (hxz.same.1.symm.trans hpark))
  firing j hj := by
    rcases g.due j hj with hj | hpj
    · exact g.normal _ (h.firing j hj)
    · exact hp j hpj

theorem drill_alarmTurn (hwf : s.tasks.wf = true) (b : Aisle) :
    Drill (fun j => aisleOf j = b) 2 s (alarmTurn old s b) := by
  have hsame : Drill (fun j => aisleOf j = b) 2 s s := ((DeviceWork.refl s).drill hwf).weaken (fun _ h => h) (by omega)
  obtain ⟨hdrill, -⟩ := drill_enterParking hwf b
  unfold alarmTurn alarmEdge
  split
  · split
    · exact hdrill
    · exact hdrill
    all_goals exact hsame
  · exact hsame

theorem parkWork_alarmTurn (h : ParkWork s) (b : Aisle) : ParkWork (alarmTurn old s b) := by
  obtain ⟨hdrill, hfire⟩ := drill_enterParking h.wf b
  have hpark : ParkWork (enterParking b s) := h.drill hdrill (fun j hj => by rw [hj]; exact hfire)
  unfold alarmTurn alarmEdge
  split
  · split
    · exact hpark
    · exact hpark
    all_goals exact h
  · exact h

theorem parkWork_alarmEdges (h : ParkWork s) : ParkWork (alarmEdges old s) :=
  parkWork_alarmTurn (parkWork_alarmTurn h 0) 1

/-- The alarm edges around the admission of a PARK to crane k, whose aisle has one. -/
theorem drill_alarmEdges (hwf : s.tasks.wf = true) (k : Crane) (hold : old.alarm (aisleOf k) = false)
    (hnew : s.alarm (aisleOf k) = true)
    (hfire : (s.fire (aisleOf k)).state = .normal ∨ (s.fire (aisleOf k)).state = .reopening) :
    ∃ v, Drill (· ≠ k) 3 s v ∧ Drill (· ≠ k) 3 (admitPark k v) (alarmEdges old s) := by
  have hother (b : Aisle) (hb : b ≠ aisleOf k) (j : Crane) (hj : aisleOf j = b) : j ≠ k := fun e => hb (by rw [← hj, e])
  rcases alarmEdges_turns (aisleOf k) old s with ⟨-, hturns⟩ | ⟨-, hturns⟩
  · rw [hturns, alarmTurn_edge hold hnew hfire]
    obtain ⟨v, hbefore, -, hafter⟩ := drill_enterParking_around hwf k
    have hturn := drill_alarmTurn (old := old) hafter.wf (otherAisle (aisleOf k))
    refine ⟨v, hbefore.weaken (fun _ h => h.2) (by omega), ?_⟩
    exact (hafter.weaken (fun _ h => h.2) (Nat.le_refl _)).trans
      (hturn.weaken (hother _ (otherAisle_ne _)) (Nat.le_refl _))
  · rw [hturns]
    have hturn := drill_alarmTurn (old := old) hwf (otherAisle (aisleOf k))
    have hspare := spares_alarmTurn (otherAisle_ne (aisleOf k)) old s
    generalize alarmTurn old s (otherAisle (aisleOf k)) = w at *
    have hwnew : w.alarm (aisleOf k) = true := by
      rw [show w.alarm (aisleOf k) = s.alarm (aisleOf k) by rw [hspare.frame]; rfl]
      exact hnew
    have hwfire : (w.fire (aisleOf k)).state = .normal ∨ (w.fire (aisleOf k)).state = .reopening := by
      rw [hspare.fire]
      exact hfire
    rw [alarmTurn_edge hold hwnew hwfire]
    obtain ⟨v, hbefore, -, hafter⟩ := drill_enterParking_around hturn.wf k
    refine ⟨v, ?_, hafter.weaken (fun _ h => h.2) (by omega)⟩
    exact (hturn.weaken (hother _ (otherAisle_ne _)) (Nat.le_refl _)).trans (hbefore.weaken (fun _ h => h.2) (Nat.le_refl _))

/-! ### The PARK of one crane -/

/-- What an alarm leaves at a crane that held no PARK: its PARK heads the queue, and its test is owed (R80, R128). -/
structure Parking (k : Crane) (s : State) (id : Nat) (w : State) : Prop where
  park : w.task? id = some (s.newPark k)
  task : ∀ i x, s.task? i = some x → x.crane = k → x.state = .active → i ≠ id ∧ w.task? i = some x
  crane : w.crane k = { s.crane k with queue := id :: (s.crane k).queue }
  due : w.due[k] = true
  params : w.params = s.params
  rail : (w.rail k).state = (s.rail k).state
  full : w.sources.stackFull = s.sources.stackFull
  latch : (w.port (.k k)).latch.getLsbD NoticeK.stackFull.position = (s.port (.k k)).latch.getLsbD NoticeK.stackFull.position
  backlog : w.backlog = s.backlog

theorem enqueue_head {id : Nat} {l : List Nat} (h : ∀ i ∈ l, s.before i id = false) : s.enqueue id l = id :: l := by
  unfold State.enqueue
  cases l with
  | nil => rfl
  | cons i l => simp [h i (List.mem_cons_self ..)]

theorem holdsKind_false (hwf : s.tasks.wf = true) (h : ∀ id x, s.task? id = some x → x.crane = k → x.kind ≠ .park) :
    s.holdsKind k .park = false := by
  unfold State.holdsKind
  rw [List.any_eq_false]
  intro e he
  simp only [Bool.and_eq_true, decide_eq_true_eq, not_and]
  exact h _ _ ((Table.mem_entries hwf e.1 e.2).mp he)

theorem parking_of_drills {v w : State} (hwork : ParkWork s)
    (hcls : ∀ id x, s.task? id = some x → x.crane = k → x.kind ≠ .park ∧ x.cls ≠ 0)
    (hroom : s.tasks.entries.length ≤ 60) (hbefore : Drill (· ≠ k) 3 s v) (hafter : Drill (· ≠ k) 3 (admitPark k v) w) :
    ∃ id, Parking k s id w := by
  have hvcls (i : Nat) (y : Task) (hy : v.task? i = some y) (hk : y.crane = k) : y.kind ≠ .park ∧ y.cls ≠ 0 := by
    cases hx : s.task? i with
    | none => exact absurd hk (hbefore.new i y hx hy).2.2
    | some x =>
      obtain ⟨z, hz, hxz⟩ := hbefore.task i x hx
      obtain rfl := Option.some.inj (hz.symm.trans hy)
      obtain ⟨hkind, hcrane, hcl⟩ := hxz.same
      rw [hkind, hcl]
      exact hcls i x hx (hcrane.symm.trans hk)
  have hsize := hbefore.size
  obtain ⟨id, hid⟩ := Table.lowestFree_isSome (t := v.tasks) (n := 64) (by omega)
  have hfree : v.task? id = none := Table.lowestFree_free hid
  have hadmit := admitPark_new (holdsKind_false hbefore.wf (fun i y hy hk => (hvcls i y hy hk).1)) hid
  have hnew : v.newPark k = s.newPark k := by unfold State.newPark; rw [hbefore.params, hbefore.wingTime]
  rw [hnew] at hadmit
  have hown : Drill (· = k) 1 v (admitPark k v) := drill_admitPark hbefore.wf rfl
  have htask := admitAt_task? id (s.newPark k) v
  have hcrane := (admitAt_crane id (s.newPark k) v k).trans (if_pos rfl)
  have hdue : _ = v.due.set k true := admitAt_due id (s.newPark k) v
  rw [← hadmit] at htask hcrane hdue
  have hvcrane : v.crane k = s.crane k := (hbefore.crane k (by simp)).1
  have hhead : (v.setTask id ((s.newPark k).admittedAt v.wingTime)).enqueue id (v.crane k).queue = id :: (s.crane k).queue := by
    rw [hvcrane]
    refine enqueue_head fun i hi => ?_
    obtain ⟨x, hx, hk⟩ := hwork.queue k i hi
    obtain ⟨y, hy, hxy⟩ := hbefore.task i x hx
    have hycls := (hvcls i y hy (hxy.same.2.1.trans hk)).2
    have hne : i ≠ id := by
      rintro rfl
      exact nomatch hfree.symm.trans hy
    have hpark : ((s.newPark k).admittedAt v.wingTime).cls = 0 := rfl
    unfold State.before
    rw [State.task?_setTask, State.task?_setTask, if_neg hne, if_pos rfl, hy]
    simp [hpark, hycls]
  have hparked : (admitPark k v).task? id = some (s.newPark k) := by
    rw [htask, if_pos rfl, ← hnew]
    rfl
  refine ⟨id, ?_, fun i x hx hk hactive => ?_, ?_, ?_, ?_, ?_, ?_, ?_, ?_⟩
  · obtain ⟨y, hy, hxy⟩ := hafter.task id _ hparked
    rw [hy, hxy.eq (.inl fun h => nomatch h)]
  · obtain ⟨y, hy, hxy⟩ := hbefore.task i x hx
    obtain rfl := hxy.eq (.inr (by rw [hactive]; decide))
    have hne : i ≠ id := by
      rintro rfl
      exact nomatch hfree.symm.trans hy
    obtain ⟨z, hz, hyz⟩ := hafter.task i y ((htask i).trans ((if_neg hne).trans hy))
    exact ⟨hne, hz.trans (congrArg some (hyz.eq (.inr (by rw [hactive]; decide))))⟩
  · rw [(hafter.crane k (by simp)).1, hcrane, hhead, hvcrane]
  · rw [(hafter.crane k (by simp)).2, hdue]
    exact Vector.getElem_set_self _
  · exact hafter.params.trans (hown.params.trans hbefore.params)
  · exact (hafter.rail k).trans ((hown.rail k).trans (hbefore.rail k))
  · exact hafter.full.trans (hown.full.trans hbefore.full)
  · exact (hafter.latch k).trans ((hown.latch k).trans (hbefore.latch k))
  · exact hafter.backlog.trans (hown.backlog.trans hbefore.backlog)

end Sys2Proof.Machine
end

section
namespace Sys2Proof.Machine

variable {s t u w : State} {k j i : Crane} {id new old : Nat} {x y o : Task}

/-! ### What the test of one crane touches (R74, R75) -/

/-- The active and queued tasks of crane j are in the table and are its own. -/
def State.ownsTasks (s : State) (j : Crane) : Prop :=
  ∀ id, id ∈ (s.crane j).active ∨ id ∈ (s.crane j).queue → ∃ x, s.task? id = some x ∧ x.crane = j

theorem ParkWork.owns (h : ParkWork s) (j : Crane) : s.ownsTasks j := fun id hid => hid.elim (h.active j id) (h.queue j id)

/-- Work on crane j's tasks, which leaves the other cranes' as they are. -/
structure TestWork (j : Crane) (s t : State) : Prop where
  wf : s.tasks.wf = true → t.tasks.wf = true
  other : ∀ id x, s.task? id = some x → x.crane ≠ j → t.task? id = some x
  own : ∀ id x, s.task? id = some x → x.crane = j → ∃ y, t.task? id = some y ∧ y.crane = j ∧ y.kind = x.kind ∧ y.cls = x.cls
  new : ∀ id y, s.task? id = none → t.task? id = some y → y.crane = j ∧ y.kind ≠ .park
  crane : ∀ i, i ≠ j → t.crane i = s.crane i ∧ t.due[i] = s.due[i]
  owns : s.ownsTasks j → t.ownsTasks j
  port : ∀ i, i ≠ j → t.port (.k i) = s.port (.k i)
  latch : LatchStays s t
  full : ∀ i : Crane, i ≠ j → t.sources.stackFull.getLsbD i.val = s.sources.stackFull.getLsbD i.val
  backlog : s.backlog = [] → t.backlog = []

theorem TestWork.trans (h : TestWork j s t) (g : TestWork j t u) : TestWork j s u where
  wf hs := g.wf (h.wf hs)
  other id x hx hj := g.other id x (h.other id x hx hj) hj
  own id x hx hj := by
    obtain ⟨y, hy, hyj, hkind, hcls⟩ := h.own id x hx hj
    obtain ⟨z, hz, hzj, hkind', hcls'⟩ := g.own id y hy hyj
    exact ⟨z, hz, hzj, hkind'.trans hkind, hcls'.trans hcls⟩
  new id z hs hz := by
    cases hy : t.task? id with
    | none => exact g.new id z hy hz
    | some y =>
      obtain ⟨hyj, hkind⟩ := h.new id y hs hy
      obtain ⟨z', hz', hzj, hkind', -⟩ := g.own id y hy hyj
      obtain rfl := Option.some.inj (hz'.symm.trans hz)
      exact ⟨hzj, by rw [hkind']; exact hkind⟩
  crane i hi := ⟨(g.crane i hi).1.trans (h.crane i hi).1, (g.crane i hi).2.trans (h.crane i hi).2⟩
  owns hs := g.owns (h.owns hs)
  port i hi := (g.port i hi).trans (h.port i hi)
  latch p i hi := g.latch p i (h.latch p i hi)
  full i hi := (g.full i hi).trans (h.full i hi)
  backlog hs := g.backlog (h.backlog hs)

theorem testWork_of_tasks (htasks : t.tasks = s.tasks) (hcrane : ∀ i, i ≠ j → t.crane i = s.crane i)
    (hdue : ∀ i : Crane, i ≠ j → t.due[i] = s.due[i])
    (hown : ∀ id, id ∈ (t.crane j).active ∨ id ∈ (t.crane j).queue → id ∈ (s.crane j).active ∨ id ∈ (s.crane j).queue)
    (hport : ∀ i, i ≠ j → t.port (.k i) = s.port (.k i)) (hlatch : LatchStays s t)
    (hfull : ∀ i : Crane, i ≠ j → t.sources.stackFull.getLsbD i.val = s.sources.stackFull.getLsbD i.val)
    (hback : t.backlog = s.backlog) : TestWork j s t := by
  have htask (id) : t.task? id = s.task? id := by simp [State.task?, htasks]
  refine ⟨fun h => by rw [htasks]; exact h, fun id x hx _ => (htask id).trans hx,
    fun id x hx hj => ⟨x, (htask id).trans hx, hj, rfl, rfl⟩, fun id y hs hy => ?_, fun i hi => ⟨hcrane i hi, hdue i hi⟩,
    fun hs id hid => ?_, hport, hlatch, hfull, fun h => hback.trans h⟩
  · exact nomatch hs.symm.trans ((htask id).symm.trans hy)
  · obtain ⟨x, hx, hxj⟩ := hs id (hown id hid)
    exact ⟨x, (htask id).trans hx, hxj⟩

theorem TestWork.refl (j : Crane) (s : State) : TestWork j s s :=
  testWork_of_tasks rfl (fun _ _ => rfl) (fun _ _ => rfl) (fun _ h => h) (fun _ _ => rfl) (fun _ _ h => h) (fun _ _ => rfl) rfl

theorem testWork_modCrane {f : CraneTasks → CraneTasks}
    (hf : ∀ id, id ∈ (f (s.crane j)).active ∨ id ∈ (f (s.crane j)).queue → id ∈ (s.crane j).active ∨ id ∈ (s.crane j).queue) :
    TestWork j s (s.modCrane j f) :=
  testWork_of_tasks rfl (fun _ hi => State.crane_modCrane_other s (Ne.symm hi) f) (fun _ _ => rfl)
    (fun id hid => hf id (by rw [State.crane_modCrane_self] at hid; exact hid)) (fun _ _ => rfl) (.of_ports rfl rfl)
    (fun _ _ => rfl) rfl

theorem due_set_other {v : Vector Bool 4} {b : Bool} (h : i ≠ j) : (v.set j b)[i] = v[i] :=
  Vector.getElem_set_ne _ _ (fun e => h (Fin.ext e.symm))

theorem testWork_due (j : Crane) (b : Bool) (s : State) : TestWork j s { s with due := s.due.set j b } :=
  testWork_of_tasks rfl (fun _ _ => rfl) (fun _ hi => due_set_other hi) (fun _ h => h) (fun _ _ => rfl) (.of_ports rfl rfl)
    (fun _ _ => rfl) rfl

theorem testWork_latchK (j : Crane) (n : NoticeK) (s : State) : TestWork j s (latchK j n s) :=
  testWork_of_tasks rfl (fun _ _ => rfl) (fun _ _ => rfl) (fun _ h => h)
    (fun i hi => by rw [latchK_port, if_neg (by simpa using hi)]) (latchStays_taskSteps.latchK j n s) (fun _ _ => rfl) rfl

theorem testWork_latchStackFull (j : Crane) (s : State) : TestWork j s (latchStackFull j s) := by
  refine testWork_of_tasks rfl (fun _ _ => rfl) (fun _ _ => rfl) (fun _ h => h) (fun i hi => ?_)
    (latchStays_taskSteps.latchStackFull j s) (fun i hi => ?_) rfl
  · unfold latchStackFull
    rw [latchK_port, if_neg (by simpa using hi)]
    rfl
  · show (s.sources.stackFull ||| BitVec.ofNat 4 (2 ^ j.val)).getLsbD i.val = _
    have hbit : (BitVec.ofNat 4 (2 ^ j.val)).getLsbD i.val = false := by
      revert i j
      decide
    rw [BitVec.getLsbD_or, hbit, Bool.or_false]

theorem testWork_setTask (hx : s.task? id = some x) (hj : x.crane = j) (hyj : y.crane = j) (hkind : y.kind = x.kind)
    (hcls : y.cls = x.cls) : TestWork j s (s.setTask id y) := by
  have htask (i) := State.task?_setTask s id i y
  refine ⟨fun h => Table.wf_insert h .., fun i z hz hzj => ?_, fun i z hz hzj => ?_, fun i z hs hz => ?_,
    fun _ _ => ⟨rfl, rfl⟩, fun hs i hi => ?_, fun _ _ => rfl, .of_ports rfl rfl, fun _ _ => rfl, fun h => h⟩
  · refine (htask i).trans ((if_neg ?_).trans hz)
    rintro rfl
    obtain rfl := Option.some.inj (hx.symm.trans hz)
    exact hzj hj
  · by_cases hi : i = id
    · subst hi
      obtain rfl := Option.some.inj (hx.symm.trans hz)
      exact ⟨y, (htask i).trans (if_pos rfl), hyj, hkind, hcls⟩
    · exact ⟨z, (htask i).trans ((if_neg hi).trans hz), hzj, rfl, rfl⟩
  · rw [htask] at hz
    split at hz
    · next hi =>
      subst hi
      exact nomatch hs.symm.trans hx
    · exact nomatch hs.symm.trans hz
  · obtain ⟨z, hz, hzj⟩ := hs i hi
    by_cases hid : i = id
    · exact ⟨y, (htask i).trans (if_pos hid), hyj⟩
    · exact ⟨z, (htask i).trans ((if_neg hid).trans hz), hzj⟩

theorem testWork_modTask {f : Task → Task} (hx : s.task? id = some x) (hj : x.crane = j)
    (hf : (f x).crane = x.crane ∧ (f x).kind = x.kind ∧ (f x).cls = x.cls) : TestWork j s (s.modTask id f) := by
  obtain ⟨hcrane, hkind, hcls⟩ := hf
  rw [State.modTask_eq hx]
  exact testWork_setTask hx hj (hcrane.trans hj) hkind hcls

/-- A claim that the backlog would let in for a station is one of that station's (R31). -/
theorem backlogNext_station (h : s.backlogNext k = some id) : ∃ c, s.claim? id = some c ∧ c.station = k := by
  have hfold (l : List Nat) (best : Option Nat) : l.foldl (fun best id => match best with
      | none => some id
      | some b => if s.backlogBefore id b then some id else some b) best = some id → id ∈ l ∨ best = some id := by
    induction l generalizing best with
    | nil => exact .inr
    | cons i l ih =>
      intro h
      rcases ih _ h with hid | hbest
      · exact .inl (List.mem_cons_of_mem _ hid)
      · cases best with
        | none => exact .inl (by rw [← Option.some.inj hbest]; exact List.mem_cons_self ..)
        | some b =>
          dsimp only at hbest
          split at hbest
          · exact .inl (by rw [← Option.some.inj hbest]; exact List.mem_cons_self ..)
          · exact .inr hbest
  rcases hfold _ none h with hid | hid
  · have hstation := (List.mem_filter.1 hid).2
    cases hc : s.claim? id with
    | none => simp [hc] at hstation
    | some c => exact ⟨c, rfl, by simpa [hc] using hstation⟩
  · exact nomatch hid

theorem testWork_admitAt (hid : s.task? id = none) (hj : x.crane = j) (hkind : x.kind ≠ .park) :
    TestWork j s (admitAt id x s) := by
  subst hj
  have htask := admitAt_task? id x s
  have hcrane := admitAt_crane id x s
  have hport := admitAt_port id x s
  have hdue := admitAt_due id x s
  have htasks := admitAt_tasks id x s
  have hlatch : LatchStays s (admitAt id x s) := latchStays_taskSteps.admitAt id x s
  obtain ⟨_, _, _, _, h⟩ := admitAt_frame id x s
  generalize admitAt id x s = t at *
  have hkept (i : Nat) (z : Task) (hz : s.task? i = some z) : t.task? i = some z := by
    refine (htask i).trans ((if_neg ?_).trans hz)
    rintro rfl
    exact nomatch hid.symm.trans hz
  refine ⟨fun hwf => by rw [htasks]; exact Table.wf_insert hwf .., fun i z hz _ => hkept i z hz,
    fun i z hz hzj => ⟨z, hkept i z hz, hzj, rfl, rfl⟩, fun i z hs hz => ?_, fun i hi => ⟨(hcrane i).trans (if_neg hi), ?_⟩,
    fun hs i hi => ?_, fun i hi => ?_, hlatch, fun _ _ => by rw [h], fun hb => by rw [h]; exact hb⟩
  · rw [htask] at hz
    split at hz
    · obtain rfl := Option.some.inj hz
      exact ⟨rfl, hkind⟩
    · exact nomatch hs.symm.trans hz
  · rw [hdue]
    exact due_set_other hi
  · rw [hcrane, if_pos rfl] at hi
    have hown : i = id ∨ i ∈ (s.crane x.crane).active ∨ i ∈ (s.crane x.crane).queue := by
      rcases hi with hi | hi
      · exact .inr (.inl hi)
      · rcases (State.mem_enqueue ..).mp hi with hi | hi
        · exact .inl hi
        · exact .inr (.inr hi)
    rcases hown with rfl | hown
    · exact ⟨_, (htask i).trans (if_pos rfl), rfl⟩
    · obtain ⟨z, hz, hzj⟩ := hs i hown
      exact ⟨z, hkept i z hz, hzj⟩
  · rw [hport, if_neg]
    simp [hi]

theorem testWork_touchClaim (id : Nat) (f : Claim → Claim) (s : State) : TestWork j s (touchClaim id f s) := by
  have hlatch := latchStays_taskSteps.touchClaim id f s
  have hframe : ∃ claims portC, touchClaim id f s = { s with claims := claims, portC := portC } := by
    unfold touchClaim
    split <;> exact ⟨_, _, rfl⟩
  obtain ⟨_, _, h⟩ := hframe
  rw [h] at hlatch ⊢
  exact testWork_of_tasks rfl (fun _ _ => rfl) (fun _ _ => rfl) (fun _ h => h) (fun _ _ => rfl) hlatch (fun _ _ => rfl) rfl

theorem testWork_slotFreed (j : Crane) (s : State) : TestWork j s (slotFreed j s) := by
  unfold slotFreed
  split
  · next cid hcid =>
    obtain ⟨c, hc, hstation⟩ := backlogNext_station hcid
    split
    · set v : State := { s with backlog := s.backlog.erase cid } with hv
      have hback : TestWork j s v := by
        refine ⟨fun h => h, fun _ _ h _ => h, fun _ x h hj => ⟨x, h, hj, rfl, rfl⟩, fun _ _ hs hy => (nomatch hs.symm.trans hy),
          fun _ _ => ⟨rfl, rfl⟩, fun h => h, fun _ _ => rfl, .of_ports rfl rfl, fun _ _ => rfl, fun h => ?_⟩
        show s.backlog.erase cid = []
        rw [h]
        rfl
      have hvc : v.claim? cid = some c := hc
      cases htid : v.tasks.lowestFree 64 with
      | none =>
        have hnone : admitFetch cid v = v := by
          unfold admitFetch
          rw [hvc, htid]
        rw [hnone]
        exact hback
      | some tid =>
        rw [admitFetch_eq hvc htid]
        exact hback.trans ((testWork_admitAt (Table.lowestFree_free htid) hstation (by show TaskKind.fetch ≠ _; decide)).trans
          (testWork_touchClaim ..))
    · exact .refl j s
  · exact .refl j s

end Sys2Proof.Machine
end

section
namespace Sys2Proof.Machine

variable {s t u w : State} {k j i : Crane} {id new old : Nat} {x y o : Task}

/-! ### The test of a crane in an alarm (R74, R75) -/

theorem testWork_ite {c : Prop} [Decidable c] {f : State → State} (h : TestWork j s t) (hf : TestWork j t (f t)) :
    TestWork j s (if c then f t else t) := by
  split
  · exact h.trans hf
  · exact h

theorem testWork_pushActive (ho : s.task? old = some o) (hoj : o.crane = j) (hnew : new ∈ (s.crane j).queue) (x : Task) :
    TestWork j s (pushActive j old new x s) := by
  have h1 : TestWork j s (s.modTask old (fun o => { o with state := .suspended, yield := none })) :=
    testWork_modTask ho hoj ⟨rfl, rfl, rfl⟩
  have hcrane : (s.modTask old (fun o => { o with state := .suspended, yield := none })).crane j = s.crane j :=
    State.crane_of_modTask ..
  unfold pushActive makeActive
  dsimp only
  generalize s.modTask old (fun o => { o with state := .suspended, yield := none }) = v at *
  have h2 : TestWork j s (v.modCrane j (fun c => { c with stack := old :: c.stack, roomRefusal := false })) :=
    h1.trans (testWork_modCrane fun _ h => h)
  have hcrane2 : ((v.modCrane j (fun c => { c with stack := old :: c.stack, roomRefusal := false })).crane j).queue =
      (s.crane j).queue := by
    rw [State.crane_modCrane_self, ← hcrane]
  generalize v.modCrane j (fun c => { c with stack := old :: c.stack, roomRefusal := false }) = v at *
  have h3 (y : CraneTasks → Option Int) : TestWork j s (markDue j (v.modCrane j (fun c =>
      { c with queue := c.queue.erase new, active := some new, standingYield := y c }))) := by
    refine h2.trans ((testWork_modCrane fun id hid => ?_).trans (testWork_due ..))
    rcases hid with hid | hid
    · refine .inr ?_
      rw [hcrane2]
      obtain rfl : new = id := Option.some.inj hid
      exact hnew
    · exact .inr (List.mem_of_mem_erase hid)
  have h4 (y : CraneTasks → Option Int) (m : Undelivered) : TestWork j s (State.modCrane (markDue j (v.modCrane j (fun c =>
      { c with queue := c.queue.erase new, active := some new, standingYield := y c }))) j (fun c =>
        { c with undelivered := m })) := (h3 y).trans (testWork_modCrane fun _ h => h)
  split
  · exact (testWork_ite (h4 _ _) (testWork_slotFreed ..)).trans ((testWork_latchK ..).trans (testWork_latchK ..))
  · exact (testWork_ite (h4 _ _) (testWork_slotFreed ..)).trans (testWork_latchK ..)

/-- A task that has been taken for its TRAVEL (R66). -/
def State.travelling (s : State) (x : Task) : Task :=
  { x with state := .active, block := none, step := .travel, dest := some (.rail (s.params.travelEnd x.crane x.kind)) }

/-- The state in which the test of a crane is taken (R74). -/
def State.testing (s : State) (j : Crane) : State := { s with due := s.due.set j false }

/-- The PARK that heads a crane's eligible tasks and the active task that it is weighed against (R74). -/
structure ParkOver (j : Crane) (s : State) (new : Nat) (x : Task) (old : Nat) (o : Task) : Prop where
  candidate : (s.crane j).queue.find? (fun id => s.eligibleId id && !List.contains [] id) = some new
  queued : new ∈ (s.crane j).queue
  newTask : s.task? new = some x
  newCrane : x.crane = j
  park : x.kind = .park
  cls : x.cls = 0
  active : (s.crane j).active = some old
  oldTask : s.task? old = some o
  oldCrane : o.crane = j
  less : x.cls < o.cls

theorem ParkOver.test (h : ParkOver j s new x old o) : TestOf j [] (s.testing j) new x old o :=
  ⟨h.candidate, h.newTask, h.active, h.oldTask⟩

theorem ParkOver.activate (h : ParkOver j s new x old o) :
    Machine.activate new (s.testing j) = ((s.testing j).setTask new (s.travelling x), true) :=
  activate_travel (s := s.testing j) h.newTask (.inl h.park)

/-- What the test of a crane outside NORMAL finds: nothing to preempt, or a PARK over its active task (R74 to R76). -/
theorem parkTest_cases (hw : ParkWork s) (hj : s.due[j] = true) :
    preemptTest j [] (s.testing j) = ((s.testing j).modCrane j (fun c => { c with roomRefusal := false }), [])
      ∨ ∃ new x old o, ParkOver j s new x old o := by
  cases hcand : (s.crane j).queue.find? (fun id => s.eligibleId id && !List.contains [] id) with
  | none => exact .inl (preemptTest_noCandidate (s := s.testing j) hcand)
  | some new =>
    have hqueued := List.mem_of_find?_eq_some hcand
    obtain ⟨x, hx, hxj⟩ := hw.queue j new hqueued
    have helig : s.eligible x = true := by
      have := List.find?_some hcand
      simpa [State.eligibleId, hx] using this
    have hpark : x.kind = .park := by
      have hfire := hw.firing j hj
      simp only [State.eligible, State.normal, hxj, hfire, Bool.and_eq_true, decide_eq_true_eq, decide_false, Bool.false_or] at helig
      exact helig.1.2
    cases ha : (s.crane j).active with
    | none => exact .inl (preemptTest_inactive (s := s.testing j) ha)
    | some old =>
      obtain ⟨o, ho, hoj⟩ := hw.active j old ha
      by_cases hcls : x.cls < o.cls
      · exact .inr ⟨new, x, old, o, hcand, hqueued, hx, hxj, hpark, hw.parks new x hx hpark, ha, ho, hoj, hcls⟩
      · refine .inl ?_
        have htest : TestOf j [] (s.testing j) new x old o := ⟨hcand, hx, ha, ho⟩
        rw [preemptTest_eq htest, if_neg hcls]

/-- The outcome of a test that finds a PARK over the active task (R75, R76). -/
theorem ParkOver.outcome (h : ParkOver j s new x old o) : preemptTest j [] (s.testing j) =
    (if (s.crane j).stack.length < 4 then pushActive j old new x ((s.testing j).setTask new (s.travelling x))
      else if (s.crane j).roomRefusal = true then s.testing j
      else latchStackFull j ((s.testing j).modCrane j (fun c => { c with roomRefusal := true })), []) := by
  have himmediate : (x.immediate || (s.testing j).atBoundary j o) = true := by simp [Task.immediate, h.park]
  have hroom : (s.testing j).stackRoom j x = true ↔ (s.crane j).stack.length < 4 := by
    simp [State.stackRoom, h.cls, State.testing, State.crane]
  have hrefusal : ((s.testing j).crane j).roomRefusal = (s.crane j).roomRefusal := rfl
  rw [preemptTest_eq h.test, if_pos h.less, if_pos himmediate, h.activate, hrefusal]
  simp only [hroom, if_true]
  split
  · rfl
  · split <;> rfl

theorem testWork_testing (j : Crane) (s : State) : TestWork j s (s.testing j) := testWork_due j false s

theorem testing_due (j : Crane) (s : State) : (s.testing j).due[j] = false := Vector.getElem_set_self _

theorem slotFreed_active (j : Crane) (s : State) : ((slotFreed j s).crane j).active = (s.crane j).active := by
  unfold slotFreed admitFetch touchClaim
  split
  · split
    · dsimp only
      split
      · split
        · refine (congrArg CraneTasks.active (admitAt_crane ..)).trans ?_
          split <;> rfl
        · refine (congrArg CraneTasks.active (admitAt_crane ..)).trans ?_
          split <;> rfl
      · rfl
    · rfl
  · rfl

theorem pushActive_active (j : Crane) (old new : Nat) (x : Task) (s : State) :
    ((pushActive j old new x s).crane j).active = some new := by
  unfold pushActive makeActive
  dsimp only
  have hfreed (c : Prop) [Decidable c] (v : State) (hv : (v.crane j).active = some new) :
      ((if c then slotFreed j v else v).crane j).active = some new := by
    split
    · exact (slotFreed_active j v).trans hv
    · exact hv
  split
  · rw [latchK_crane, latchK_crane]
    refine hfreed _ _ ?_
    rw [State.crane_modCrane_self, markDue_crane, State.crane_modCrane_self]
  · rw [latchK_crane]
    refine hfreed _ _ ?_
    rw [State.crane_modCrane_self, markDue_crane, State.crane_modCrane_self]

/-- The tests of crane j, until none is owed for it (R74). -/
def visit (j : Crane) (s : State) : State :=
  let t := (preemptTest j [] (s.testing j)).1
  if t.due[j] = true then (preemptTest j [] (t.testing j)).1 else t

/-- The first test of a crane in an alarm, and the second that it owes where a PARK preempted. -/
theorem parkTest_spec (hw : ParkWork s) (hj : s.due[j] = true) :
    let t := (preemptTest j [] (s.testing j)).1
    (preemptTest j [] (s.testing j)).2 = [] ∧ TestWork j s t
      ∧ (t.due[j] = true → ∃ new y, (t.crane j).active = some new ∧ t.task? new = some y ∧ y.cls = 0) := by
  have htesting := testWork_testing j s
  rcases parkTest_cases hw hj with h | ⟨new, x, old, o, h⟩
  · rw [h]
    dsimp only
    exact ⟨rfl, htesting.trans (testWork_modCrane fun _ h => h), fun hdue => absurd ((testing_due j s).symm.trans hdue) (by decide)⟩
  · rw [h.outcome]
    have hne : old ≠ new := by
      rintro rfl
      obtain rfl := Option.some.inj (h.newTask.symm.trans h.oldTask)
      exact absurd h.less (Nat.lt_irrefl _)
    have hset : TestWork j s ((s.testing j).setTask new (s.travelling x)) :=
      htesting.trans (testWork_setTask (s := s.testing j) h.newTask h.newCrane h.newCrane rfl rfl)
    have hold : ((s.testing j).setTask new (s.travelling x)).task? old = some o :=
      (State.task?_setTask ..).trans ((if_neg hne).trans h.oldTask)
    have hpush := hset.trans (testWork_pushActive (j := j) (new := new) hold h.oldCrane h.queued x)
    dsimp only
    split
    · refine ⟨rfl, hpush, fun _ => ?_⟩
      obtain ⟨y, hy, -, -, hcls⟩ := hpush.own new x h.newTask h.newCrane
      exact ⟨new, y, pushActive_active .., hy, hcls.trans h.cls⟩
    · split
      · exact ⟨rfl, htesting, fun hdue => absurd ((testing_due j s).symm.trans hdue) (by decide)⟩
      · exact ⟨rfl, htesting.trans ((testWork_modCrane fun _ h => h).trans (testWork_latchStackFull ..)),
          fun hdue => absurd ((testing_due j s).symm.trans hdue) (by decide)⟩

theorem ParkWork.testWork (h : ParkWork s) (g : TestWork j s t) (hf : TaskFrame s t)
    (hdue : t.due[j] = true → s.due[j] = true) : ParkWork t := by
  have howns (i : Crane) : t.ownsTasks i := by
    by_cases hi : i = j
    · subst hi
      exact g.owns (h.owns i)
    · intro id hid
      rw [(g.crane i hi).1] at hid
      obtain ⟨x, hx, hxi⟩ := h.owns i id hid
      exact ⟨x, g.other id x hx (by rw [hxi]; exact hi), hxi⟩
  refine ⟨g.wf h.wf, fun i id hid => howns i id (.inl hid), fun i id hid => howns i id (.inr hid), fun id y hy hpark => ?_,
    fun i hi => ?_⟩
  · cases hx : s.task? id with
    | none => exact absurd hpark (g.new id y hx hy).2
    | some x =>
      by_cases hj : x.crane = j
      · obtain ⟨z, hz, -, hkind, hcls⟩ := g.own id x hx hj
        obtain rfl := Option.some.inj (hz.symm.trans hy)
        exact hcls.trans (h.parks id x hx (hkind.symm.trans hpark))
      · obtain rfl := Option.some.inj ((g.other id x hx hj).symm.trans hy)
        exact h.parks id x hx hpark
  · have hdue' : s.due[i] = true := by
      by_cases hij : i = j
      · subst hij
        exact hdue hi
      · rw [← (g.crane i hij).2]
        exact hi
    have hfire : t.fire (aisleOf i) = s.fire (aisleOf i) := by simp [State.fire, hf.fires]
    rw [hfire]
    exact h.firing i hdue'

/-- Over an active task of class 0 nothing preempts (R74). -/
theorem parkTest_class0 (hw : ParkWork s) (hj : s.due[j] = true) (ha : (s.crane j).active = some new)
    (hy : s.task? new = some y) (hcls : y.cls = 0) :
    preemptTest j [] (s.testing j) = ((s.testing j).modCrane j (fun c => { c with roomRefusal := false }), []) := by
  rcases parkTest_cases hw hj with h | ⟨new', x, old, o, h⟩
  · exact h
  · obtain rfl : new = old := Option.some.inj (ha.symm.trans h.active)
    obtain rfl := Option.some.inj (hy.symm.trans h.oldTask)
    exact absurd h.less (by rw [hcls]; exact Nat.not_lt_zero _)

theorem testFrame (j : Crane) (tried : List Nat) (s : State) : TaskFrame s (preemptTest j tried (s.testing j)).1 :=
  taskFrame_taskSteps.trans (taskFrame_taskSteps.due s _) (taskFrame_taskSteps.preemptTest j tried (s.testing j))

/-- What the tests of one crane in an alarm do: they touch its own tasks alone, and two settle it. -/
theorem visit_spec (hw : ParkWork s) (hj : s.due[j] = true) : TestWork j s (visit j s) ∧ TaskFrame s (visit j s)
    ∧ (visit j s).due[j] = false ∧ ParkWork (visit j s)
    ∧ ∀ n, allCranes.find? (fun k => s.due[k]) = some j → ∃ m, n ≤ m ∧ settleTests (n + 2) [] s = settleTests m [] (visit j s) := by
  obtain ⟨htried, hwork, hpark⟩ := parkTest_spec hw hj
  have hframe := testFrame j [] s
  have hfirst (n : Nat) (hfind : allCranes.find? (fun k => s.due[k]) = some j) :
      settleTests (n + 2) [] s = settleTests (n + 1) [] (preemptTest j [] (s.testing j)).1 := by
    conv_lhs => unfold settleTests
    rw [hfind]
    dsimp only
    rw [show ({ s with due := s.due.set j false } : State) = s.testing j from rfl, htried]
  unfold visit
  dsimp only
  generalize (preemptTest j [] (s.testing j)).1 = t at *
  have hwt : ParkWork t := hw.testWork hwork hframe (fun _ => hj)
  by_cases hdue : t.due[j] = true
  · rw [if_pos hdue]
    obtain ⟨new, y, hactive, hy, hcls⟩ := hpark hdue
    have htest := parkTest_class0 hwt hdue hactive hy hcls
    have hwork2 : TestWork j t ((t.testing j).modCrane j (fun c => { c with roomRefusal := false })) :=
      (testWork_testing j t).trans (testWork_modCrane fun _ h => h)
    have hframe2 := testFrame j [] t
    rw [htest] at hframe2 ⊢
    have hnot : (State.due ((t.testing j).modCrane j (fun c => { c with roomRefusal := false })))[j] = false := testing_due j t
    have hw2 := hwt.testWork hwork2 hframe2 (fun h => absurd h (by rw [hnot]; decide))
    refine ⟨hwork.trans hwork2, taskFrame_taskSteps.trans hframe hframe2, hnot, hw2, fun n hfind => ⟨n, Nat.le_refl _, ?_⟩⟩
    have hfind' : allCranes.find? (fun k => t.due[k]) = some j := by
      have hsame : (fun k : Crane => t.due[k]) = fun k => s.due[k] := by
        funext i
        by_cases hi : i = j
        · subst hi
          exact hdue.trans hj.symm
        · exact (hwork.crane i hi).2
      rw [hsame, hfind]
    rw [hfirst n hfind]
    conv_lhs => unfold settleTests
    rw [hfind']
    dsimp only
    rw [show ({ t with due := t.due.set j false } : State) = t.testing j from rfl, htest]
  · rw [if_neg hdue]
    exact ⟨hwork, hframe, by simpa using hdue, hwt, fun n hfind => ⟨n + 1, by omega, hfirst n hfind⟩⟩

end Sys2Proof.Machine
end

section
namespace Sys2Proof.Machine

variable {s t u v w : State} {k j i : Crane} {id new old : Nat} {x y o : Task}

/-! ### The tests that an alarm owes, one crane after the other (R74) -/

/-- How many cranes owe a test. -/
def State.dueCount (s : State) : Nat := allCranes.countP (fun k => s.due[k])

theorem dueCount_lt (hj : s.due[j] = true) (hj' : t.due[j] = false) (hsame : ∀ i, i ≠ j → t.due[i] = s.due[i]) :
    t.dueCount < s.dueCount := by
  have hcount (u : State) : u.dueCount = (u.due[(0 : Crane)]).toNat + (u.due[(1 : Crane)]).toNat + (u.due[(2 : Crane)]).toNat
      + (u.due[(3 : Crane)]).toNat := by
    simp only [State.dueCount, allCranes, List.countP_cons, List.countP_nil]
    cases u.due[(0 : Crane)] <;> cases u.due[(1 : Crane)] <;> cases u.due[(2 : Crane)] <;> cases u.due[(3 : Crane)] <;> rfl
  have hat (i : Crane) : (t.due[i]).toNat + (if i = j then 1 else 0) = (s.due[i]).toNat := by
    by_cases hi : i = j
    · subst hi
      simp [hj, hj']
    · simp [hi, hsame i hi]
  have hone : ∀ j : Crane, (if (0 : Crane) = j then 1 else 0) + (if (1 : Crane) = j then 1 else 0)
      + (if (2 : Crane) = j then 1 else 0) + (if (3 : Crane) = j then 1 else 0) = 1 := by decide
  have hone := hone j
  have h0 := hat 0
  have h1 := hat 1
  have h2 := hat 2
  have h3 := hat 3
  rw [hcount, hcount]
  omega

/-- A property that every visit keeps holds where the tests end, and none is owed there. -/
theorem settleTests_visits {P : State → Prop} (hwork : ∀ s, P s → ParkWork s)
    (hvisit : ∀ j s, P s → s.due[j] = true → P (visit j s)) (s : State) (hs : P s) (n : Nat) (hn : 2 * s.dueCount ≤ n) :
    P (settleTests n [] s) ∧ (settleTests n [] s).settled := by
  induction hd : s.dueCount using Nat.strong_induction_on generalizing s n with
  | _ d ih =>
    cases hfind : allCranes.find? (fun k => s.due[k]) with
    | none =>
      have hsettled : s.settled := fun k => by
        have := List.find?_eq_none.1 hfind k (mem_allCranes k)
        simpa using this
      rw [settleTests_of_settled hsettled]
      exact ⟨hs, hsettled⟩
    | some j =>
      have hj : s.due[j] = true := by
        have := List.find?_some hfind
        exact this
      obtain ⟨htest, -, hdue, -, hloop⟩ := visit_spec (hwork s hs) hj
      have hlt := dueCount_lt hj hdue (fun i hi => (htest.crane i hi).2)
      obtain ⟨m, hm, hsettle⟩ := hloop (n - 2) hfind
      rw [show n = n - 2 + 2 by omega, hsettle]
      exact ih _ (by omega) (visit j s) (hvisit j s hs hj) m (by omega) rfl

theorem dueCount_le (s : State) : s.dueCount ≤ 4 := List.countP_le_length

/-- Work on other cranes' tasks, seen from crane k. -/
structure Elsewhere (k : Crane) (s t : State) : Prop where
  task : ∀ id x, s.task? id = some x → x.crane = k → t.task? id = some x
  crane : t.crane k = s.crane k
  due : t.due[k] = s.due[k]
  port : t.port (.k k) = s.port (.k k)
  latch : LatchStays s t
  full : t.sources.stackFull.getLsbD k.val = s.sources.stackFull.getLsbD k.val
  backlog : s.backlog = [] → t.backlog = []
  frame : TaskFrame s t

theorem Elsewhere.refl (k : Crane) (s : State) : Elsewhere k s s :=
  ⟨fun _ _ h _ => h, rfl, rfl, rfl, fun _ _ h => h, rfl, fun h => h, taskFrame_taskSteps.refl s⟩

theorem Elsewhere.trans (h : Elsewhere k s t) (g : Elsewhere k t u) : Elsewhere k s u where
  task id x hx hk := g.task id x (h.task id x hx hk) hk
  crane := g.crane.trans h.crane
  due := g.due.trans h.due
  port := g.port.trans h.port
  latch p i hi := g.latch p i (h.latch p i hi)
  full := g.full.trans h.full
  backlog hs := g.backlog (h.backlog hs)
  frame := taskFrame_taskSteps.trans h.frame g.frame

theorem TestWork.elsewhere (h : TestWork j s t) (hf : TaskFrame s t) (hk : k ≠ j) : Elsewhere k s t where
  task id x hx hxk := h.other id x hx (by rw [hxk]; exact hk)
  crane := (h.crane k hk).1
  due := (h.crane k hk).2
  port := h.port k hk
  latch := h.latch
  full := h.full k hk
  backlog := h.backlog
  frame := hf

/-- Where the tests of an alarm stand, seen from crane k: before its own, or after them. -/
def Visited (k : Crane) (w s : State) : Prop :=
  ParkWork s ∧ (s.due[k] = true ∧ Elsewhere k w s
    ∨ s.due[k] = false ∧ ∃ v, ParkWork v ∧ v.due[k] = true ∧ Elsewhere k w v ∧ Elsewhere k (visit k v) s)

/-- Settling the tests of an alarm visits crane k once, with the other cranes' work before and after it. -/
theorem settle_visits (hw : ParkWork w) (hk : w.due[k] = true) : ∃ v, ParkWork v ∧ v.due[k] = true ∧ Elsewhere k w v
    ∧ Elsewhere k (visit k v) (settle w) := by
  have hstart : Visited k w w := ⟨hw, .inl ⟨hk, .refl k w⟩⟩
  obtain ⟨⟨-, hend⟩, hsettled⟩ := settleTests_visits (P := Visited k w) (fun _ h => h.1) (fun j s hs hj => by
    obtain ⟨hpark, hwhere⟩ := hs
    obtain ⟨htest, hframe, hdue, hpark', -⟩ := visit_spec hpark hj
    by_cases hkj : k = j
    · subst hkj
      rcases hwhere with ⟨-, hbefore⟩ | ⟨hnot, -⟩
      · exact ⟨hpark', .inr ⟨hdue, s, hpark, hj, hbefore, .refl k _⟩⟩
      · exact absurd (hnot.symm.trans hj) (by decide)
    · have hstep := htest.elsewhere hframe hkj
      refine ⟨hpark', ?_⟩
      rcases hwhere with ⟨hdue', hbefore⟩ | ⟨hnot, v, hv, hvdue, hbefore, hafter⟩
      · exact .inl ⟨hstep.due.trans hdue', hbefore.trans hstep⟩
      · exact .inr ⟨hstep.due.trans hnot, v, hv, hvdue, hbefore, hafter.trans hstep⟩) w hstart 400
    (by have := dueCount_le w; omega)
  rcases hend with ⟨hdue, -⟩ | ⟨-, hv⟩
  · exact absurd ((hsettled k).symm.trans hdue) (by decide)
  · exact hv

/-! ### The visit of a crane whose PARK waits (R74 to R76, R128) -/

theorem slotFreed_of_nil (h : s.backlog = []) : slotFreed k s = s := by
  have : s.backlogNext k = none := by
    unfold State.backlogNext
    rw [h]
    rfl
  unfold slotFreed
  rw [this]

theorem pushPark_spec (ho : s.task? old = some o) (hx : s.task? new = some x) (hne : new ≠ old) (hpark : x.kind = .park)
    (hback : (s.crane k).undelivered = .push → o.kind = .fetch → s.backlog = []) :
    let u := pushActive k old new x s
    (∀ j, u.task? j = if j = old then some { o with state := .suspended, yield := none } else s.task? j)
      ∧ u.crane k = { s.crane k with
          queue := (s.crane k).queue.erase new, active := some new, stack := old :: (s.crane k).stack, standingYield := none,
          undelivered := .parkPush, roomRefusal := false }
      ∧ (u.port (.k k)).latch.getLsbD NoticeK.taskReady.position = true
      ∧ (u.port (.k k)).latch.getLsbD NoticeK.firePark.position = true := by
  have hset := State.modTask_eq ho (fun o => { o with state := .suspended, yield := none })
  have htask (j) := State.task?_setTask s old j { o with state := .suspended, yield := none }
  have himmediate : x.immediate = true := by simp [Task.immediate, hpark]
  unfold pushActive
  rw [hset]
  dsimp only
  have hvback : (s.setTask old { o with state := .suspended, yield := none }).backlog = s.backlog := rfl
  have hvcrane : (s.setTask old { o with state := .suspended, yield := none }).crane k = s.crane k := rfl
  generalize s.setTask old { o with state := .suspended, yield := none } = v at *
  have hwtask (j) : (v.modCrane k (fun c => { c with stack := old :: c.stack, roomRefusal := false })).task? j = v.task? j := rfl
  have hwback : (v.modCrane k (fun c => { c with stack := old :: c.stack, roomRefusal := false })).backlog = v.backlog := rfl
  have hwcrane : (v.modCrane k (fun c => { c with stack := old :: c.stack, roomRefusal := false })).crane k =
      { s.crane k with stack := old :: (s.crane k).stack, roomRefusal := false } := by
    rw [State.crane_modCrane_self, hvcrane]
  generalize v.modCrane k (fun c => { c with stack := old :: c.stack, roomRefusal := false }) = w at *
  have hwx : w.task? new = some x := (hwtask new).trans ((htask new).trans ((if_neg hne).trans hx))
  have hmade : makeActive k new w = markDue k (w.modCrane k (fun c =>
      { c with queue := c.queue.erase new, active := some new, standingYield := none })) := by
    unfold makeActive
    rw [hwx]
    simp only [hpark, decide_true, if_true]
  rw [hmade]
  have hzback : (State.modCrane (markDue k (w.modCrane k (fun c => { c with
      queue := c.queue.erase new, active := some new, standingYield := none }))) k (fun c =>
        { c with undelivered := .parkPush })).backlog = w.backlog := rfl
  have hztask (j) : (State.modCrane (markDue k (w.modCrane k (fun c => { c with
      queue := c.queue.erase new, active := some new, standingYield := none }))) k (fun c =>
        { c with undelivered := .parkPush })).task? j = w.task? j := rfl
  have hzcrane : (State.modCrane (markDue k (w.modCrane k (fun c => { c with
      queue := c.queue.erase new, active := some new, standingYield := none }))) k (fun c =>
        { c with undelivered := .parkPush })).crane k = { s.crane k with
          queue := (s.crane k).queue.erase new, active := some new, stack := old :: (s.crane k).stack, standingYield := none,
          undelivered := .parkPush, roomRefusal := false } := by
    rw [State.crane_modCrane_self, markDue_crane, State.crane_modCrane_self, hwcrane]
  simp only [himmediate, hpark, ho, if_true]
  generalize State.modCrane (markDue k (w.modCrane k _)) k _ = z at *
  have hfreed : (if (decide ((s.crane k).undelivered = .push) && decide (o.kind = .fetch)) = true then slotFreed k z else z) = z := by
    split
    · next h =>
      simp only [Bool.and_eq_true, decide_eq_true_eq] at h
      exact slotFreed_of_nil (hzback.trans (hwback.trans (hvback.trans (hback h.1 h.2))))
    · rfl
  rw [hfreed]
  refine ⟨fun j => ((hztask j).trans (hwtask j)).trans (htask j), ?_, ?_, ?_⟩
  · rw [latchK_crane, latchK_crane, hzcrane]
  · rw [latchK_port, if_pos rfl, latchK_port, if_pos rfl, BitVec.getLsbD_or, BitVec.getLsbD_or]
    simp +decide
  · rw [latchK_port, if_pos rfl, BitVec.getLsbD_or]
    simp +decide

theorem visit_of_due (hdue : (preemptTest j [] (s.testing j)).1.due[j] = true) :
    visit j s = (preemptTest j [] ((preemptTest j [] (s.testing j)).1.testing j)).1 := if_pos hdue

theorem visit_of_done (hdue : (preemptTest j [] (s.testing j)).1.due[j] = false) :
    visit j s = (preemptTest j [] (s.testing j)).1 := if_neg (by rw [hdue]; decide)

end Sys2Proof.Machine
end

section
namespace Sys2Proof.Machine

variable {a b : Aisle} {s t u v w prev : State} {k j i : Crane} {id new old : Nat} {x y o : Task} {c : Claim}

/-! ### The claims and the FETCH tasks of an aisle in an alarm (R43, R67, R127) -/

/-- A PRESENTED claim whose station is shut (R43). -/
def Claim.heldNow (c : Claim) : Claim := { c with state := .held, unseen := true }

theorem touchClaim_claim? (i : Nat) (f : Claim → Claim) (s : State) (j : Nat) : (touchClaim i f s).claim? j =
    if j = i then (s.claim? j).map (fun c => { f c with unseen := true }) else s.claim? j := by
  cases hi : s.claim? i with
  | none =>
    have hsame : touchClaim i f s = s := by
      unfold touchClaim
      rw [hi]
    rw [hsame]
    split
    · next h => rw [h, hi]; rfl
    · rfl
  | some c =>
    refine ((touchClaim_spec hi f).1 j).trans ?_
    split
    · next h => rw [h, hi]; rfl
    · rfl

theorem holdClaims_claim (hwf : s.claims.wf = true) (k : Crane) (id : Nat) : (holdClaims k s).claim? id =
    (s.claim? id).map (fun c => if c.station = k ∧ c.state = .presented then c.heldNow else c) := by
  refine (forIds_map (read := State.claim?) (f := fun i => touchClaim i (fun c => { c with state := .held }))
    (g := Claim.heldNow) (fun i s j => touchClaim_claim? i _ s j) (filterKeys_nodup hwf _) s id).trans ?_
  simp only [mem_filterKeys hwf, Bool.and_eq_true, decide_eq_true_eq]
  cases hc : s.claim? id with
  | none => simp
  | some c =>
    have hfind : s.claims.find? id = some c := hc
    simp only [hfind, Option.some.injEq, exists_eq_left', Option.map_some]
    split <;> rfl

theorem sameClaims_admitPark (k : Crane) (s : State) : (admitPark k s).claims = s.claims := by
  obtain ⟨_, _, _, _, h⟩ := (parksAdmitted_admitPark k s).frame
  rw [h]

theorem sameClaims_closeFetches (k : Crane) (s : State) : (closeFetches k s).claims = s.claims := by
  obtain ⟨_, h⟩ := closeFetches_frame k s
  rw [h]

/-- After its stations are shut, an alarm changes no claim. -/
theorem enterParking_claims (b : Aisle) (s : State) :
    (enterParking b s).claims = (forCranes (cranesOf b) shutStation (parkingFire b s)).claims := by
  have hend (w : State) : (endAlarm b w).claims = w.claims := by
    have h := ((deviceWork_startHold b w).trans ((deviceWork_releaseClear b _).trans (deviceWork_alarmNotices b _))).frame
    unfold endAlarm
    rw [h]
  rw [enterParking_stages, hend]
  unfold shutAisle
  rw [forCranes_cranesOf b admitPark, forCranes_cranesOf b closeFetches, sameClaims_admitPark, sameClaims_admitPark,
    sameClaims_closeFetches, sameClaims_closeFetches]

theorem shutStation_claim (hwf : s.tablesWf) (k : Crane) (id : Nat) : (shutStation k s).claim? id =
    (s.claim? id).map (fun c => if c.station = k ∧ c.state = .presented then c.heldNow else c) := by
  obtain ⟨-, -, hclaims, -⟩ := hwf
  exact holdClaims_claim (s := s.modStation k _) hclaims k id

/-- An alarm holds the PRESENTED claims at the stations of its aisle, and changes no other. -/
theorem enterParking_claim (hwf : s.tablesWf) (b : Aisle) (hc : s.claim? id = some c) : (enterParking b s).claim? id =
    some (if aisleOf c.station = b ∧ c.state = .presented then c.heldNow else c) := by
  have hread : (enterParking b s).claim? id = (forCranes (cranesOf b) shutStation (parkingFire b s)).claim? id :=
    congrArg (fun t : Table Claim => t.find? id) (enterParking_claims b s)
  rw [hread, forCranes_cranesOf]
  have hwf0 : (parkingFire b s).tablesWf := hwf
  have hfirst : (parkingFire b s).claim? id = some c := hc
  generalize parkingFire b s = v at *
  have hwf' : (shutStation (westCrane b) v).tablesWf := keepsTables_wingSteps.shutStation (westCrane b) v hwf0
  rw [shutStation_claim hwf', shutStation_claim hwf0, hfirst]
  have haisle : aisleOf c.station = b ↔ c.station = westCrane b ∨ c.station = eastCrane b := by
    rw [← mem_cranesOf, mem_cranesOf_iff]
  have hne := west_ne_east b
  simp only [Option.map_some, Option.some.injEq, haisle]
  by_cases hstate : c.state = .presented
  · by_cases hw : c.station = westCrane b
    · simp [hstate, hw, hne, Claim.heldNow]
    · simp [hstate, hw]
  · simp [hstate]

theorem alarmTurn_tablesWf (hwf : s.tablesWf) (b : Aisle) : (alarmTurn prev s b).tablesWf := by
  unfold alarmTurn
  split
  · exact keepsTables_wingSteps.alarmEdge b s hwf
  · exact hwf

/-- A claim of aisle `a` that is PRESENTED is HELD after the alarm edges, where the aisle has one. -/
theorem alarmEdges_held (hwf : s.tablesWf) (hold : prev.alarm a = false) (hnew : s.alarm a = true)
    (hfire : (s.fire a).state = .normal ∨ (s.fire a).state = .reopening) (hc : s.claim? id = some c)
    (hstation : aisleOf c.station = a) (hstate : c.state = .presented) :
    (alarmEdges prev s).claim? id = some c.heldNow := by
  have hne : ∀ c : Claim, aisleOf c.station = a → aisleOf c.station ≠ otherAisle a := fun c hc h =>
    otherAisle_ne a (h.symm.trans hc)
  have hother (s : State) (hwf : s.tablesWf) (c : Claim) (hc : s.claim? id = some c) (hstation : aisleOf c.station = a) :
      (alarmTurn prev s (otherAisle a)).claim? id = some c := by
    have hentered : (enterParking (otherAisle a) s).claim? id = some c := by
      rw [enterParking_claim hwf _ hc, if_neg (fun h => hne c hstation h.1)]
    unfold alarmTurn alarmEdge
    split
    · split
      · exact hentered
      · exact hentered
      all_goals exact hc
    · exact hc
  have hown (s : State) (hwf : s.tablesWf) (hc : s.claim? id = some c) : (enterParking a s).claim? id = some c.heldNow := by
    rw [enterParking_claim hwf _ hc, if_pos ⟨hstation, hstate⟩]
  rcases alarmEdges_turns a prev s with ⟨-, hturns⟩ | ⟨-, hturns⟩
  · rw [hturns, alarmTurn_edge hold hnew hfire]
    exact hother _ (keepsTables_wingSteps.enterParking a s hwf) _ (hown s hwf hc) hstation
  · have hspare := spares_alarmTurn (otherAisle_ne a) prev s
    have hkept := hother s hwf c hc hstation
    have hwf' := alarmTurn_tablesWf (prev := prev) hwf (otherAisle a)
    rw [hturns]
    generalize alarmTurn prev s (otherAisle a) = w at *
    rw [alarmTurn_edge hold (by rw [show w.alarm a = s.alarm a by rw [hspare.frame]; rfl]; exact hnew)
      (by rw [hspare.fire]; exact hfire)]
    exact hown w hwf' hkept

/-- A FETCH that waits at a crane of the aisle is blocked by its alarm (R67). -/
theorem shutAisle_closed (hwf : s.tasks.wf = true) (hx : s.task? id = some x) (hk : aisleOf x.crane = b)
    (hkind : x.kind = .fetch) (hstate : x.state = .queued) : (shutAisle b s).task? id = some x.closed := by
  have hshut := (((deviceWork_parkingFire b s).drill (p := fun _ => True) hwf).trans
    (drill_forCranes (b := b) (fun k _ hwf _ => drill_shutStation hwf k) hwf))
  have hx' : (forCranes (cranesOf b) shutStation (parkingFire b s)).task? id = some x := by
    have hsame (k : Crane) (s : State) : (shutStation k s).tasks = s.tasks := by
      obtain ⟨_, _, h⟩ := holdClaims_frame k (s.modStation k (fun st => { st with state := .shuttered }))
      have h : shutStation k s = _ := h
      rw [h]
      rfl
    have : (forCranes (cranesOf b) shutStation (parkingFire b s)).tasks = s.tasks := by
      rw [forCranes_cranesOf, hsame, hsame]
      rfl
    exact (congrArg (fun t : Table Task => t.find? id) this).trans hx
  unfold shutAisle
  generalize forCranes (cranesOf b) shutStation (parkingFire b s) = w at *
  obtain ⟨hwf', -⟩ := closeFetches_wf hshut.wf (westCrane b)
  rw [forCranes_cranesOf, closeFetches_task hwf', closeFetches_task hshut.wf, hx']
  have hne := west_ne_east b
  have hclosed : x.closed.state ≠ .queued := fun h => nomatch h
  rcases crane_of_aisle hk with h | h
  · simp [h, hkind, hstate, hclosed]
  · simp [h, hkind, hstate, Ne.symm hne]

theorem enterParking_closed (hwf : s.tasks.wf = true) (hx : s.task? id = some x) (hk : aisleOf x.crane = b)
    (hkind : x.kind = .fetch) (hstate : x.state = .queued) : (enterParking b s).task? id = some x.closed := by
  have hwf' := (drill_shutAisle (p := fun _ => True) hwf b).1.wf
  have hclosed := shutAisle_closed hwf hx hk hkind hstate
  have h1 := drill_forCranes (f := admitPark) (b := b) (fun k _ hwf _ => drill_admitPark (p := fun _ => True) hwf trivial) hwf'
  have h2 := h1.trans (drill_endAlarm h1.wf b)
  rw [enterParking_stages]
  obtain ⟨y, hy, hxy⟩ := h2.task id _ hclosed
  rw [hy, hxy.eq (.inr (fun h => nomatch h))]

theorem alarmEdges_closed (hwf : s.tasks.wf = true) (hold : prev.alarm a = false) (hnew : s.alarm a = true)
    (hfire : (s.fire a).state = .normal ∨ (s.fire a).state = .reopening) (hx : s.task? id = some x)
    (hk : aisleOf x.crane = a) (hkind : x.kind = .fetch) (hstate : x.state = .queued) :
    (alarmEdges prev s).task? id = some x.closed := by
  have hclosed : x.closed.state ≠ .queued := fun h => nomatch h
  rcases alarmEdges_turns a prev s with ⟨-, hturns⟩ | ⟨-, hturns⟩
  · rw [hturns, alarmTurn_edge hold hnew hfire]
    obtain ⟨hdrill, -⟩ := drill_enterParking hwf a
    obtain ⟨y, hy, hxy⟩ := (drill_alarmTurn (old := prev) hdrill.wf (otherAisle a)).task id _
      (enterParking_closed hwf hx hk hkind hstate)
    rw [hy, hxy.eq (.inr hclosed)]
  · have hspare := spares_alarmTurn (otherAisle_ne a) prev s
    have hdrill := drill_alarmTurn (old := prev) hwf (otherAisle a)
    rw [hturns]
    generalize alarmTurn prev s (otherAisle a) = w at *
    rw [alarmTurn_edge hold (by rw [show w.alarm a = s.alarm a by rw [hspare.frame]; rfl]; exact hnew)
      (by rw [hspare.fire]; exact hfire)]
    obtain ⟨y, hy, hxy⟩ := hdrill.task id x hx
    rcases hxy with rfl | ⟨-, -, rfl⟩
    · exact enterParking_closed hdrill.wf hy hk hkind hstate
    · obtain ⟨z, hz, hyz⟩ := (drill_enterParking hdrill.wf a).1.task id _ hy
      rw [hz, hyz.eq (.inr hclosed)]

/-- After the alarm edges each crane of the aisle holds a PARK, a new one where it held none (R80, R128). -/
theorem alarmEdges_park (hwf : s.tasks.wf = true) (k : Crane) (hold : prev.alarm (aisleOf k) = false)
    (hnew : s.alarm (aisleOf k) = true) (hfire : (s.fire (aisleOf k)).state = .normal ∨ (s.fire (aisleOf k)).state = .reopening)
    (hroom : s.tasks.entries.length ≤ 60) : ∃ id y, (alarmEdges prev s).task? id = some y ∧ y.kind = .park ∧ y.crane = k
      ∧ (s.holdsKind k .park = false → y.dest = some (.rail s.params.parkPos[k])) := by
  obtain ⟨v, hbefore, hafter⟩ := drill_alarmEdges (old := prev) hwf k hold hnew hfire
  cases hv : v.holdsKind k .park with
  | true =>
    obtain ⟨⟨id, y⟩, he, hy⟩ := List.any_eq_true.1 hv
    simp only [Bool.and_eq_true, decide_eq_true_eq] at hy
    have hvy : v.task? id = some y := (Table.mem_entries hbefore.wf id y).mp he
    have hsame : admitPark k v = v := by
      unfold admitPark
      rw [if_pos hv]
    rw [hsame] at hafter
    obtain ⟨z, hz, hyz⟩ := hafter.task id y hvy
    obtain ⟨hkind, hcrane, -⟩ := hyz.same
    refine ⟨id, z, hz, hkind.trans hy.2, hcrane.trans hy.1, fun hnone => ?_⟩
    cases hx : s.task? id with
    | none => exact absurd hy.1 (hbefore.new id y hx hvy).2.2
    | some x =>
      obtain ⟨y', hy', hxy⟩ := hbefore.task id x hx
      obtain rfl := Option.some.inj (hy'.symm.trans hvy)
      obtain ⟨hkind', hcrane', -⟩ := hxy.same
      have := List.any_eq_false.1 hnone (id, x) (mem_of_lookupEntry hx)
      simp [← hkind', ← hcrane', hy] at this
  | false =>
    have hsize := hbefore.size
    obtain ⟨id, hid⟩ := Table.lowestFree_isSome (t := v.tasks) (n := 64) (by omega)
    rw [admitPark_new hv hid] at hafter
    have htask : (admitAt id (v.newPark k) v).task? id = some ((v.newPark k).admittedAt v.wingTime) :=
      (admitAt_task? ..).trans (if_pos rfl)
    obtain ⟨z, hz, hyz⟩ := hafter.task id _ htask
    obtain rfl := hyz.eq (.inl fun h => nomatch h)
    refine ⟨id, _, hz, rfl, rfl, fun _ => ?_⟩
    show some (Dest.rail v.params.parkPos[k]) = _
    rw [hbefore.params]

end Sys2Proof.Machine
end

section
namespace Sys2Proof.Machine

variable {a : Aisle} {s t u v w : State} {k : Crane} {id old : Nat} {o : Task} {line : FireLine}

/-! ### FIRE_LINE_SETTLED (R124, R127, R128) -/

/-- The alarm edge of an aisle's line, or of the wing's (R124). -/
theorem alarm_of_line (h : line = .fireW ∨ (line = .fire0 ∧ a = 0) ∨ (line = .fire1 ∧ a = 1)) (s : State) :
    State.alarm { s with fireLines := s.fireLines.set line true } a = true := by
  rcases h with rfl | ⟨rfl, rfl⟩ | ⟨rfl, rfl⟩ <;> simp [State.alarm, FireLines.set]

/-- A line that is taken as released, or that is the other aisle's, makes no alarm (R124). -/
theorem alarm_of_set {active : Bool} (h : State.alarm { s with fireLines := s.fireLines.set line active } a = true) :
    s.alarm a = true ∨ active = true ∧ ¬ (line = .fire0 ∧ a = 1) ∧ ¬ (line = .fire1 ∧ a = 0) := by
  unfold State.alarm FireLines.set at *
  cases line with
  | fireW => cases active <;> simp_all
  | fire0 => rcases aisle_eq a with rfl | rfl <;> cases active <;> simp_all
  | fire1 => rcases aisle_eq a with rfl | rfl <;> cases active <;> simp_all

theorem alarmEdges_active {prev : State} (hwf : s.tasks.wf = true) (k : Crane) :
    ((alarmEdges prev s).crane k).active = (s.crane k).active := by
  have h0 := drill_alarmTurn (old := prev) hwf 0
  have h1 := drill_alarmTurn (old := prev) h0.wf 1
  exact (h1.active k).trans (h0.active k)

/-- The devices of an aisle with an alarm edge, whichever aisle's turn comes first. -/
theorem alarmEdges_alarmOn {prev : State} (hold : prev.alarm a = false) (hnew : s.alarm a = true)
    (hfire : (s.fire a).state = .normal ∨ (s.fire a).state = .reopening)
    (hline : ∃ k, aisleOf k = a ∧ (s.shutter k).holdOpen = true ∧ (s.shutter k).planeClear = false) :
    AlarmOn a s (alarmEdges prev s) := by
  rcases alarmEdges_turns a prev s with ⟨-, hturns⟩ | ⟨-, hturns⟩
  · rw [hturns, alarmTurn_edge hold hnew hfire]
    exact (enterParking_alarmOn hline).spares (spares_alarmTurn (otherAisle_ne a) prev _)
  · have hspare := spares_alarmTurn (otherAisle_ne a) prev s
    rw [hturns]
    generalize alarmTurn prev s (otherAisle a) = w at *
    rw [alarmTurn_edge hold (by rw [show w.alarm a = s.alarm a by rw [hspare.frame]; rfl]; exact hnew)
      (by rw [hspare.fire]; exact hfire)]
    refine hspare.alarmOn (enterParking_alarmOn ?_)
    obtain ⟨k, hk, h⟩ := hline
    exact ⟨k, hk, by rw [hspare.shutter k hk]; exact h⟩

/-- What the tests after an alarm leave at its devices. -/
theorem AlarmOn.settled (h : AlarmOn a s w) : let t := settle w
    (t.fire a).state = .parking ∧ (t.fire a).hold = startTimer s.params.shutterHold ∧ (t.fire a).confirm.running = false
      ∧ (∀ k ∈ cranesOf a, (t.station k).state = .shuttered ∧ (t.station k).staff = (s.station k).staff
          ∧ (t.station k).bins = (s.station k).bins
          ∧ t.shutter k = { s.shutter k with holdOpen := (s.shutter k).holdOpen && !(s.shutter k).planeClear }
          ∧ (t.port (.k k)).latch.getLsbD NoticeK.firePark.position = true)
      ∧ t.portC.latch.getLsbD NoticeC.fire.position = true ∧ t.sources.fire.getLsbD a.val = true
      ∧ t.bins = s.bins ∧ t.channels = s.channels ∧ (∀ k ∈ cranesOf a, t.rail k = s.rail k) ∧ t.search = s.search
      ∧ t.sweep = s.sweep ∧ t.wing = s.wing ∧ t.params = s.params ∧ t.wingTime = s.wingTime ∧ t.pending = s.pending
      ∧ t.fireLines = s.fireLines := by
  have hf := settle_frame w
  have hlatch : LatchStays w (settle w) := latchStays_taskSteps.settle w
  have hsource := fire_settle w
  have hframe := h.frame
  have hwbins : w.bins = s.bins := by rw [hframe]
  have hwchannels : w.channels = s.channels := by rw [hframe]
  have hwsearch : w.search = s.search := by rw [hframe]
  have hwsweep : w.sweep = s.sweep := by rw [hframe]
  have hwwing : w.wing = s.wing := by rw [hframe]
  have hwparams : w.params = s.params := by rw [hframe]
  have hwtime : w.wingTime = s.wingTime := by rw [hframe]
  have hwpending : w.pending = s.pending := by rw [hframe]
  have hwlines : w.fireLines = s.fireLines := by rw [hframe]
  generalize settle w = t at *
  have hfire : t.fire a = w.fire a := by simp [State.fire, hf.fires]
  refine ⟨by rw [hfire]; exact h.state, by rw [hfire]; exact h.hold, by rw [hfire]; exact h.confirm, fun k hk => ?_,
    hlatch .c _ h.fire, by rw [hsource]; exact h.source, hf.bins.trans hwbins, hf.channels.trans hwchannels, fun k hk => ?_,
    hf.search.trans hwsearch, hf.sweep.trans hwsweep, hf.wing.trans hwwing, hf.params.trans hwparams,
    hf.wingTime.trans hwtime, hf.pending.trans hwpending, hf.fireLines.trans hwlines⟩
  · have hk := (mem_cranesOf_iff a k).mp hk
    have hstation := hf.station k
    rw [h.station k hk] at hstation
    refine ⟨by rw [hstation], by rw [hstation], by rw [hstation], ?_, hlatch _ _ (h.park k hk)⟩
    rw [← h.shutter k hk]
    simp [State.shutter, hf.shutters]
  · rw [← h.rail k ((mem_cranesOf_iff a k).mp hk)]
    simp [State.rail, hf.rails]

/-- What the tests find of a crane that an alarm gave its PARK: the PARK over its active task (R74, R128). -/
theorem Parking.parkOver (h : Parking k s id w) (g : Elsewhere k w v) (ha : (s.crane k).active = some old)
    (ho : s.task? old = some o) (hoc : o.crane = k) (hostate : o.state = .active) (hcls : o.cls ≠ 0)
    (hrail : (s.rail k).state = .ready ∨ (s.rail k).state = .unhomed) : ParkOver k v id (s.newPark k) old o := by
  have hpark : v.task? id = some (s.newPark k) := g.task id _ h.park rfl
  obtain ⟨-, hwo⟩ := h.task old o ho hoc hostate
  have hcrane := g.crane.trans h.crane
  have hvrail : (v.rail k).state = (s.rail k).state := by
    rw [← h.rail]
    simp [State.rail, g.frame.rails]
  have helig : v.eligibleId id = true := by
    have : v.eligible (s.newPark k) = true := by
      have hk : (s.newPark k).crane = k := rfl
      have hkind : (s.newPark k).kind = .park := rfl
      have hstate : (s.newPark k).state = .queued := rfl
      rcases hrail with hrail | hrail <;> simp [State.eligible, hk, hkind, hstate, hvrail, hrail]
    simp [State.eligibleId, hpark, this]
  refine ⟨?_, ?_, hpark, rfl, rfl, rfl, ?_, g.task old o hwo hoc, hoc, Nat.pos_of_ne_zero hcls⟩
  · rw [hcrane]
    simp [helig]
  · rw [hcrane]
    exact List.mem_cons_self ..
  · rw [hcrane]
    exact ha

/-- The visit of a crane whose PARK preempts: the test of the PARK itself then finds nothing more to do (R74, R75). -/
theorem ParkOver.visit_pushes {new : Nat} {x : Task} (h : ParkOver k v new x old o) (hw : ParkWork v) (hdue : v.due[k] = true)
    (hroom : (v.crane k).stack.length < 4)
    (hback : (v.crane k).undelivered = .push → o.kind = .fetch → v.backlog = []) :
    let u := visit k v
    u.task? new = some (v.travelling x) ∧ u.task? old = some { o with state := .suspended, yield := none }
      ∧ u.crane k = { v.crane k with
          queue := (v.crane k).queue.erase new, active := some new, stack := old :: (v.crane k).stack, standingYield := none,
          undelivered := .parkPush, roomRefusal := false }
      ∧ (u.port (.k k)).latch.getLsbD NoticeK.taskReady.position = true
      ∧ (u.port (.k k)).latch.getLsbD NoticeK.firePark.position = true := by
  have hne : new ≠ old := by
    rintro rfl
    obtain rfl := Option.some.inj (h.newTask.symm.trans h.oldTask)
    exact absurd h.less (Nat.lt_irrefl _)
  have hset (j) := State.task?_setTask (v.testing k) new j (v.travelling x)
  obtain ⟨htask, hcrane, hready, hpark⟩ := pushPark_spec (k := k) (s := (v.testing k).setTask new (v.travelling x))
    ((hset old).trans ((if_neg (Ne.symm hne)).trans h.oldTask)) ((hset new).trans (if_pos rfl)) hne h.park hback
  obtain ⟨-, htest, -⟩ := parkTest_spec hw hdue
  have houtcome := h.outcome
  rw [if_pos hroom] at houtcome
  have hpush : pushActive k old new (v.travelling x) ((v.testing k).setTask new (v.travelling x)) =
      pushActive k old new x ((v.testing k).setTask new (v.travelling x)) := by
    unfold pushActive
    rfl
  rw [hpush] at htask hcrane hready hpark
  have hframe := testFrame k [] v
  have hdone := visit_of_done (j := k) (s := v)
  have hagain := visit_of_due (j := k) (s := v)
  rw [houtcome] at htest hframe hdone hagain
  dsimp only at htest hframe hdone hagain
  generalize pushActive k old new x ((v.testing k).setTask new (v.travelling x)) = t at *
  have hnew : t.task? new = some (v.travelling x) := (htask new).trans ((if_neg hne).trans ((hset new).trans (if_pos rfl)))
  have hactive : (t.crane k).active = some new := by rw [hcrane]
  have hvisit : visit k v = t ∨ visit k v = (t.testing k).modCrane k (fun c => { c with roomRefusal := false }) := by
    cases htdue : t.due[k] with
    | false => exact .inl (hdone htdue)
    | true =>
      refine .inr ?_
      rw [hagain htdue, parkTest_class0 (hw.testWork htest hframe (fun _ => hdue)) htdue hactive hnew h.cls]
  have hold : t.task? old = some { o with state := .suspended, yield := none } := (htask old).trans (if_pos rfl)
  rcases hvisit with hvisit | hvisit
  · rw [hvisit]
    exact ⟨hnew, hold, hcrane, hready, hpark⟩
  · rw [hvisit]
    refine ⟨hnew, hold, ?_, hready, hpark⟩
    rw [State.crane_modCrane_self, show (t.testing k).crane k = t.crane k from rfl, hcrane]
    rfl

/-- The visit of a crane whose PARK finds no room on the stack (R76). -/
theorem ParkOver.visit_refused {new : Nat} {x : Task} (h : ParkOver k v new x old o) (hroom : ¬ (v.crane k).stack.length < 4) :
    visit k v = if (v.crane k).roomRefusal = true then v.testing k
      else latchStackFull k ((v.testing k).modCrane k (fun c => { c with roomRefusal := true })) := by
  have houtcome := h.outcome
  rw [if_neg hroom] at houtcome
  have hdone := visit_of_done (j := k) (s := v)
  rw [houtcome] at hdone
  refine hdone ?_
  dsimp only
  split
  · exact testing_due k v
  · exact testing_due k v

theorem latchStackFull_spec (k : Crane) (s : State) : ((latchStackFull k s).port (.k k)).latch.getLsbD NoticeK.stackFull.position = true
    ∧ (latchStackFull k s).portC.latch.getLsbD NoticeC.stackFull.position = true
    ∧ (latchStackFull k s).sources.stackFull.getLsbD k.val = true := by
  refine ⟨?_, ?_, ?_⟩
  · unfold latchStackFull
    rw [latchK_port, if_pos rfl, BitVec.getLsbD_or]
    simp +decide
  · show (s.portC.latch ||| bit16 NoticeC.stackFull.position).getLsbD NoticeC.stackFull.position = true
    rw [BitVec.getLsbD_or]
    simp +decide
  · show (s.sources.stackFull ||| BitVec.ofNat 4 (2 ^ k.val)).getLsbD k.val = true
    have hbit : ∀ k : Crane, (BitVec.ofNat 4 (2 ^ k.val)).getLsbD k.val = true := by decide
    rw [BitVec.getLsbD_or, hbit, Bool.or_true]

/-- An alarm edge over the active task of a crane that held no PARK: the PARK stands over that task when its test comes,
before and after which the other cranes' tests leave the crane alone (R74, R128). -/
theorem alarm_parkOver {prev : State} (hs : s.settled) (hlaw : s.stackLaw) (hroom : s.tasks.entries.length ≤ 60)
    (hold : prev.alarm (aisleOf k) = false) (hnew : s.alarm (aisleOf k) = true)
    (hfire : (s.fire (aisleOf k)).state = .normal ∨ (s.fire (aisleOf k)).state = .reopening)
    (hrail : (s.rail k).state = .ready ∨ (s.rail k).state = .unhomed) (ha : (s.crane k).active = some old)
    (ho : s.task? old = some o) (hpark : ∀ e ∈ s.tasks.entries, e.2.crane = k → e.2.kind ≠ .park) :
    ∃ id w v, Parking k s id w ∧ ParkWork v ∧ v.due[k] = true ∧ Elsewhere k w v
      ∧ ParkOver k v id (s.newPark k) old o ∧ w.task? old = some o ∧ o.crane = k
      ∧ Elsewhere k (visit k v) (settle (alarmEdges prev s)) := by
  have hwork := parkWork_of_stackLaw hlaw hs
  obtain ⟨hwf, hcranes, -, htasks⟩ := hlaw
  have hmem (id : Nat) (x : Task) (hx : s.task? id = some x) : (id, x) ∈ s.tasks.entries := (Table.mem_entries hwf id x).mpr hx
  have hcls (id : Nat) (x : Task) (hx : s.task? id = some x) (hxk : x.crane = k) : x.kind ≠ .park ∧ x.cls ≠ 0 := by
    have hkind := hpark _ (hmem id x hx) hxk
    obtain ⟨hok, -⟩ := htasks _ (hmem id x hx)
    refine ⟨hkind, fun hzero => ?_⟩
    unfold Task.classOk at hok
    cases hk : x.kind <;> simp_all
  obtain ⟨hactive, -⟩ := hcranes k
  obtain ⟨o', ho', hoc, hostate⟩ := hactive old (by rw [ha]; rfl)
  obtain rfl : o = o' := Option.some.inj (ho.symm.trans ho')
  obtain ⟨v0, hbefore, hafter⟩ := drill_alarmEdges (old := prev) hwf k hold hnew hfire
  obtain ⟨id, hparking⟩ := parking_of_drills hwork hcls hroom hbefore hafter
  obtain ⟨v, hv, hvdue, hwv, hvt⟩ := settle_visits (parkWork_alarmEdges (old := prev) hwork) hparking.due
  exact ⟨id, _, v, hparking, hv, hvdue, hwv, hparking.parkOver hwv ha ho hoc hostate (hcls old o ho hoc).2 hrail,
    (hparking.task old o ho hoc hostate).2, hoc, hvt⟩

end Sys2Proof.Machine
end

section
open Sys2Proof Sys2Proof.Machine

/-- Settles O45: an alarm edge parks its aisle, whichever aisle's turn comes first; each crane's tests touch its own tasks
alone, so the PARK preempts or is refused by its own crane's stack. -/
theorem fireLinesRaiseTheAlarm : Obligations.FireLinesRaiseTheAlarm := by
  unfold Obligations.FireLinesRaiseTheAlarm
  refine ⟨?noEdge, ?edge, ?preempts, ?full⟩
  case noEdge =>
    intro s line active hr hs lines hnone
    have hlines : s.fireLines.set line active = lines := rfl
    have hturn (w : State) (a : Aisle) (hw : w = { s with fireLines := lines }) : alarmTurn s w a = w := by
      subst hw
      refine alarmTurn_noEdge ?_
      by_cases hnew : State.alarm { s with fireLines := lines } a = true
      · rcases alarm_of_set (line := line) (active := active) (s := s) hnew with hold | ⟨hactive, h0, h1⟩
        · exact .inl hold
        · rcases hnone a with h | h | h | h | h
          · exact absurd (hactive.symm.trans h) (by decide)
          · exact absurd h h0
          · exact absurd h h1
          · exact .inl h
          · exact .inr (.inr h)
      · exact .inr (.inl (by simpa using hnew))
    rw [execFireLineSettled_eq line active hr, hlines, alarmEdges_eq, hturn _ 0 rfl, hturn _ 1 rfl,
      settle_of_settled (by exact hs)]
  case edge =>
    intro s line a hr hs hold hline hfire hasserted
    have hnew := alarm_of_line hline s
    obtain ⟨k, hk, hopen, hclear⟩ := hasserted
    have hon := alarmEdges_alarmOn (prev := s) (s := { s with fireLines := s.fireLines.set line true }) hold hnew hfire
      ⟨k, (mem_cranesOf_iff a k).mp hk, hopen, hclear⟩
    obtain ⟨h1, h2, h3, h4, h5, h6, h7, h8, h9, h10, h11, h12, h13, h14, h15, h16⟩ := hon.settled
    refine ⟨_, execFireLineSettled_eq line true hr, ?_, h1, h2, h3, h4, h5, h6, h7, h8, h9, h10, h11, h12, h13, h14, h15,
      fun hidle hwf hroom => ⟨fun id c hc hstate hstation => ?_, fun id u hu hkind hstate hcrane => ?_, fun k hk => ?_⟩⟩
    · show State.alarm _ a = true
      unfold State.alarm
      rw [h16]
      exact hnew
    all_goals
      have hwftasks : s.tasks.wf = true := by
        obtain ⟨-, -, -, hwf, -⟩ := hwf
        exact hwf
      obtain ⟨cranes, hidle', -⟩ := settle_idle (s := alarmEdges s { s with fireLines := s.fireLines.set line true })
        (fun k => (alarmEdges_active (by exact hwftasks) k).trans (hidle k))
      rw [hidle']
    · exact alarmEdges_held (s := { s with fireLines := s.fireLines.set line true }) hwf hold hnew hfire hc
        ((mem_cranesOf_iff ..).mp hstation) hstate
    · exact ⟨u.closed, alarmEdges_closed (s := { s with fireLines := s.fireLines.set line true }) hwftasks hold hnew hfire hu
        ((mem_cranesOf_iff ..).mp hcrane) hkind hstate, rfl, rfl⟩
    · obtain rfl := (mem_cranesOf_iff a k).mp hk
      exact alarmEdges_park (s := { s with fireLines := s.fireLines.set line true }) hwftasks k hold hnew hfire hroom
  case preempts =>
    intro s line k old o hr hs hlaw hroom hold hline hfire hrail hstack ha ho hpark hback
    obtain ⟨id, w, v, hparking, hv, hdue, hwv, hover, hwo, hoc, hvt⟩ := alarm_parkOver (prev := s)
      (s := { s with fireLines := s.fireLines.set line true }) hs hlaw hroom hold (alarm_of_line hline s) hfire hrail ha ho hpark
    have hvcrane : v.crane k = { s.crane k with queue := id :: (s.crane k).queue } := hwv.crane.trans hparking.crane
    obtain ⟨hnew, hsuspended, hcrane, hready, hlatched⟩ := hover.visit_pushes hv hdue (by rw [hvcrane]; exact hstack)
      (fun hpush hfetch => hwv.backlog (hparking.backlog.trans (hback (by rw [hvcrane] at hpush; exact hpush) hfetch)))
    have hvparams : v.params = s.params := hwv.frame.params.trans hparking.params
    refine ⟨_, execFireLineSettled_eq line true hr, id, _, hvt.task id _ hnew rfl, rfl, rfl, rfl, rfl, rfl, ?_, rfl,
      hvt.task old _ hsuspended hoc, ?_, ?_, ?_⟩
    · show some (Dest.rail v.params.parkPos[k]) = _
      rw [hvparams]
    · rw [hvt.crane, hcrane, hvcrane]
      simp
    · rw [hvt.port]
      exact hready
    · rw [hvt.port]
      exact hlatched
  case full =>
    intro s line k old o hr hs hlaw hroom hold hline hfire hrail hstack ha ho hpark
    obtain ⟨id, w, v, hparking, hv, hdue, hwv, hover, hwo, hoc, hvt⟩ := alarm_parkOver (prev := s)
      (s := { s with fireLines := s.fireLines.set line true }) hs hlaw hroom hold (alarm_of_line hline s) hfire hrail ha ho hpark
    have hvcrane : v.crane k = { s.crane k with queue := id :: (s.crane k).queue } := hwv.crane.trans hparking.crane
    have hvisit := hover.visit_refused (by rw [hvcrane]; simp [show (s.crane k).stack.length = 4 from hstack])
    have hrefusal : (v.crane k).roomRefusal = (s.crane k).roomRefusal := by rw [hvcrane]
    have hpark' : v.task? id = some (s.newPark k) := hover.newTask
    have hold' : v.task? old = some o := hover.oldTask
    have hvfull : v.sources.stackFull.getLsbD k.val = s.sources.stackFull.getLsbD k.val := by
      rw [hwv.full, hparking.full]
    have hvlatch : (v.port (.k k)).latch.getLsbD NoticeK.stackFull.position
        = (s.port (.k k)).latch.getLsbD NoticeK.stackFull.position := by
      rw [hwv.port]
      exact hparking.latch
    refine ⟨_, execFireLineSettled_eq line true hr, id, s.newPark k, hvt.task id _ ?_ rfl, rfl, rfl, rfl, rfl, rfl, rfl,
      hvt.task old _ ?_ hoc, ?_, fun hno => ?_, fun hyes => ?_⟩
    · rw [hvisit]
      split <;> exact hpark'
    · rw [hvisit]
      split <;> exact hold'
    · rw [hvt.crane, hvisit, hrefusal]
      split
      · next hyes =>
        rw [show (v.testing k).crane k = v.crane k from rfl, hvcrane]
        exact congrArg (fun refused => { s.crane k with queue := id :: (s.crane k).queue, roomRefusal := refused }) hyes
      · rw [latchStackFull_crane, State.crane_modCrane_self, show (v.testing k).crane k = v.crane k from rfl, hvcrane]
    · have hvisit' : visit k v = latchStackFull k ((v.testing k).modCrane k (fun c => { c with roomRefusal := true })) := by
        rw [hvisit, if_neg (by rw [hrefusal, hno]; decide)]
      obtain ⟨hk, hc, hsource⟩ := latchStackFull_spec k ((v.testing k).modCrane k (fun c => { c with roomRefusal := true }))
      rw [← hvisit'] at hk hc hsource
      refine ⟨by rw [hvt.port]; exact hk, hvt.latch .c _ hc, by rw [hvt.full]; exact hsource⟩
    · rw [if_pos (hrefusal.trans hyes)] at hvisit
      refine ⟨?_, ?_⟩
      · rw [hvt.port, hvisit]
        exact hvlatch
      · rw [hvt.full, hvisit]
        exact hvfull
end

section
/-!
The return to NORMAL frees the table entries of the PARKs it completes (R80), and the same step may queue a FETCH from the
backlog (R31), which takes the lowest free entry (R60). `reusedPark` is a state in which that entry is the PARK's own.
-/
namespace Sys2Proof.Machine

/-- A FETCH of crane 0 for the claim `c` on the bin `b`. -/
def fetch0 (cls b c : Nat) (st : TaskState) : Task :=
  { Task.new 0 .fetch cls .pick with bin := some b, claim := some c, state := st }

/-- The FETCH 1 of crane 0 at its pick, which brings the bin 1 from lane 0 to the station. -/
def pickingFetch : Task := { fetch0 3 1 1 .active with source := some (.lane 0), dest := some (.station 0) }

/-- A LEND claim of the bin `b` at station 0 with one pending item. -/
def lend0 (urgent : Bool) (cls b : Nat) (st : ClaimState) (task : Option Nat) : Claim :=
  ⟨.lend, urgent, cls, b, 0, st, 0, none, 0, [⟨77, 5, .pending⟩], false, task⟩

/-- Aisle 0 in REOPENING with shutter 1 open. Crane 0 has the active FETCH 1, a PUSH not yet delivered, the PARK 0 and the FETCH
2 of a more urgent class in its queue, and the claim 3 waits in the backlog. -/
def reusedPark : State :=
  { State.reset with
    wing := .opened
    fires := #v[⟨.reopening, ⟨false, 0⟩, ⟨true, 500⟩⟩, .reset]
    shutters := (State.reset.shutters.set 0 ⟨true, true, false, false, false⟩).set 1 ⟨true, true, false, true, false⟩
    rails := State.reset.rails.set 0 { Rail.reset 64000 with state := .ready }
    lanes := ⟨[(0, ⟨0, 3, [1], 0⟩), (1, ⟨0, 3, [2], 0⟩), (2, ⟨0, 3, [3], 0⟩)]⟩
    bins := ⟨[(1, plainBin (.stored 0) [1]), (2, plainBin (.stored 1) [2]), (3, plainBin (.stored 2) [3])]⟩
    claims := ⟨[(1, lend0 false 3 1 .fetching (some 1)), (2, lend0 true 2 2 .queued (some 2)),
      (3, lend0 false 3 3 .queued none)]⟩
    backlog := [3]
    tasks := ⟨[(0, park0 .queued), (1, pickingFetch), (2, fetch0 2 2 2 .queued)]⟩
    stations := State.reset.stations.set 0 { State.reset.station 0 with promises := #v[some 1, none] }
    cranes := State.reset.cranes.set 0
      { CraneTasks.reset with active := some 1, queue := [0, 2], undelivered := .push } }

theorem reusedPark_lane (i : Nat) : reusedPark.lane i =
    if i < 3 then ⟨0, 3, [i + 1], 0⟩ else ⟨0, 3, [], 0⟩ := by
  show (lookupEntry i [(0, (⟨0, 3, [1], 0⟩ : Lane)), (1, ⟨0, 3, [2], 0⟩), (2, ⟨0, 3, [3], 0⟩)]).getD ⟨0, 3, [], 0⟩ = _
  obtain rfl | rfl | rfl | h : i = 0 ∨ i = 1 ∨ i = 2 ∨ 3 ≤ i := by omega
  · rfl
  · rfl
  · rfl
  · have h0 : i ≠ 0 := by omega
    have h1 : i ≠ 1 := by omega
    have h2 : i ≠ 2 := by omega
    simp [lookupEntry, h0, h1, h2, Nat.not_lt.mpr h]

theorem reusedPark_bin (b : Nat) : reusedPark.bin? b =
    if b = 1 then some (plainBin (.stored 0) [1]) else if b = 2 then some (plainBin (.stored 1) [2])
    else if b = 3 then some (plainBin (.stored 2) [3]) else none := by
  show lookupEntry b [(1, plainBin (.stored 0) [1]), (2, plainBin (.stored 1) [2]), (3, plainBin (.stored 2) [3])] = _
  by_cases h1 : b = 1 <;> by_cases h2 : b = 2 <;> by_cases h3 : b = 3 <;> simp [lookupEntry, h1, h2, h3]

/-- No task of the state holds a slot of a lane: FETCH 1 digs nothing and its source hold is 0. -/
theorem reusedPark_laneLaw : reusedPark.laneLaw := by
  refine ⟨fun i => ?_, by decide +kernel, by decide +kernel⟩
  have hslots : (reusedPark.tasks.entries.map (fun e => e.2.slotsIn i)).sum = 0 := by
    show ([(0, park0 .queued), (1, pickingFetch), (2, fetch0 2 2 2 .queued)].map (fun e => e.2.slotsIn i)).sum = 0
    simp [park0, pickingFetch, fetch0, Task.new, Task.slotsIn, Task.atWork, Task.slotGivenUp, Task.unfinished]
  rw [hslots, reusedPark_lane]
  split <;> exact ⟨by simp, rfl⟩

theorem reusedPark_placeLaw : reusedPark.placeLaw := by
  refine ⟨fun i => ⟨?_, fun b => ?_⟩, by decide +kernel⟩
  · rw [reusedPark_lane]
    split <;> simp
  · rw [reusedPark_lane, reusedPark_bin]
    by_cases hb1 : b = 1
    · subst hb1; split <;> simp [plainBin] <;> omega
    · by_cases hb2 : b = 2
      · subst hb2; split <;> simp [plainBin] <;> omega
      · by_cases hb3 : b = 3
        · subst hb3; split <;> simp [plainBin] <;> omega
        · have hnone : ¬ b = i + 1 ∨ ¬ i < 3 := by omega
          split <;> simp_all

theorem reusedPark_serviceLaw : reusedPark.serviceLaw :=
  ⟨by unfold State.serves; decide +kernel, by decide +kernel, fun id hid => by
    obtain rfl : id = 3 := List.mem_singleton.mp hid
    exact ⟨lend0 false 3 3 .queued none, rfl, rfl, rfl, rfl, plainBin (.stored 2) [3], rfl, 2, rfl⟩⟩

theorem reusedPark_workLaws : reusedPark.workLaws :=
  ⟨by unfold State.tablesWf; decide +kernel, by unfold State.stackLaw State.craneLaw State.holds; decide +kernel,
    reusedPark_laneLaw, reusedPark_placeLaw, by unfold State.unitsLaw State.binLaw; decide +kernel, reusedPark_serviceLaw,
    ⟨by decide +kernel, by decide +kernel, by decide +kernel, by decide +kernel, by decide +kernel⟩,
    by unfold State.stationLaw; decide +kernel⟩

/-- The PARK 0 is the one PARK of the state. -/
theorem reusedPark_park {i : Nat} {v : Task} (h : reusedPark.task? i = some v) (hk : v.kind = .park) : i = 0 := by
  change lookupEntry i [(0, park0 .queued), (1, pickingFetch), (2, fetch0 2 2 2 .queued)] = some v at h
  simp only [lookupEntry] at h
  split at h
  · assumption
  · have hfetch : v = pickingFetch ∨ v = fetch0 2 2 2 .queued := by
      split at h <;> simp_all
    obtain rfl | rfl := hfetch <;> exact nomatch hk

/-- The state after shutter 0 has opened too: dispatch puts FETCH 2 over FETCH 1, the end of the PUSH over FETCH 1 signals a
slot of the queue (R62), and the FETCH that the claim 3 gets of it takes the entry 0. -/
def reusedParkNext : State :=
  settle (shutterChanged 0 false (reusedPark.modShutter 0 (fun r => r.setInput .openInput true)))

theorem exec_reusedPark : exec (.shutterInputSettled 0 .openInput true) reusedPark = .next reusedParkNext := rfl

theorem task_reusedParkNext : (reusedParkNext.task? 0).map Task.kind = some .fetch := by decide +kernel

end Sys2Proof.Machine
end

section
open Sys2Proof Sys2Proof.Machine

/-- Refutes O47: the ID of a completed PARK does not stay free. In `reusedPark` the return to NORMAL completes the queued PARK 0,
the dispatch of the same step puts a FETCH over the active one, whose PUSH was undelivered, and the slot signal that this makes
admits the claim of the backlog: its FETCH takes the entry 0. -/
theorem not_anAisleReturnsToNormal : ¬ Obligations.AnAisleReturnsToNormal := by
  unfold Obligations.AnAisleReturnsToNormal
  rintro ⟨-, h⟩
  obtain ⟨t, hexec, -, hparks, -⟩ := h reusedPark 0 .openInput true rfl (by unfold State.settled; decide +kernel)
    reusedPark_workLaws rfl (by decide +kernel) (by decide +kernel)
  obtain rfl : reusedParkNext = t := by
    rw [exec_reusedPark] at hexec
    exact Host.Outcome.next.inj hexec
  obtain ⟨hfree, -⟩ := hparks 0 (park0 .queued) rfl rfl rfl (fun i v hv hk _ => reusedPark_park hv hk)
  have hkind := task_reusedParkNext
  rw [hfree] at hkind
  exact absurd hkind (by decide)

end

section
/-!
The return search (Chapter 3): what a PLACE is answered, what a visit records, and how a pass ends without a place.
-/
namespace Sys2Proof.Machine

variable {s : State} {k : Crane} {pr : PlaceRequest} {body : List Byte} {b i : Nat} {r : Bin}

/-! ### PLACE (R52) -/

theorem servePlace_refused {st : Status} (h : s.placeRefusal (byteAt body 0) (byteAt body 1) (byteAt body 2) = some st) :
    servePlace body s = refuse st s := by
  unfold servePlace
  rw [h]

theorem servePlace_accepted (hk : byteAt body 0 = k.val)
    (h : s.placeRefusal (byteAt body 0) (byteAt body 1) (byteAt body 2) = none) :
    let pr : PlaceRequest := ⟨k, byteAt body 1, byteAt body 2, longAt body 3⟩
    servePlace body s = reply .accepted pr.fields { s with search := s.startSearch pr } := by
  unfold servePlace
  rw [h, hk, craneOf_val]

theorem placeRefusal_loading (hw : s.wing = .loading) (st units key : Nat) :
    s.placeRefusal st units key = some .wingState := by
  simp [State.placeRefusal, hw]

theorem placeRefusal_range {st units key : Nat} (hw : s.wing = .opened)
    (h : 3 < st ∨ units = 0 ∨ s.params.capacity < units ∨ 7 < key) : s.placeRefusal st units key = some .outOfRange := by
  unfold State.placeRefusal
  rw [if_neg (by simp [hw])]
  cases hst : craneOf st with
  | none => rfl
  | some k =>
    have hlt : ¬ 3 < st := fun hgt => by simp [craneOf, show ¬ st < 4 by omega] at hst
    exact if_pos (h.resolve_left hlt)

/-- With its fields in range, PLACE is checked against its station, and then against the search that runs (R52). -/
theorem placeRefusal_inRange {units key : Nat} (hw : s.wing = .opened) (h1 : 1 ≤ units) (hcap : units ≤ s.params.capacity)
    (hkey : key ≤ 7) : s.placeRefusal k.val units key =
      if (s.station k).keyMask.getLsbD key = false then some .keyDenied
      else if (s.station k).state = .closed then some .stationClosed
      else if (s.station k).state = .shuttered then some .aisleClosed
      else if s.search.state = .running then some .busy
      else none := by
  unfold State.placeRefusal
  rw [if_neg (by simp [hw]), craneOf_val]
  exact if_neg (by omega)

/-! ### SEARCH VISIT (R47, R53) -/

/-- What the record of a bin must show for a PLACE, its place apart: the key, the free units, and no live AUDIT claim in the
chain (R53). -/
def State.meets (s : State) (pr : PlaceRequest) (r : Bin) : Prop :=
  r.key = pr.key ∧ pr.units ≤ s.params.capacity - r.fill - r.reserved
    ∧ ∀ id ∈ r.chain, ∀ c, s.claim? id = some c → c.kind = .audit → c.state.live = false

theorem hasAudit_eq_false : s.hasAudit r = false ↔
    ∀ id ∈ r.chain, ∀ c, s.claim? id = some c → c.kind = .audit → c.state.live = false := by
  unfold State.hasAudit
  rw [List.any_eq_false]
  refine forall₂_congr fun id _ => ?_
  cases s.claim? id <;> simp

theorem candidate_iff : s.candidate pr b r = true ↔ s.placeSuits pr.station b r = true ∧ s.meets pr r := by
  unfold State.meets
  rw [show s.params.capacity - r.fill - r.reserved = s.freeUnits r from rfl]
  simp [State.candidate, hasAudit_eq_false, and_assoc]

theorem candidateCost_absent (h : s.bin? b = none) : s.candidateCost pr b = none := by
  simp [State.candidateCost, h]

theorem candidateCost_rejected (hr : s.bin? b = some r) (h : ¬ (s.placeSuits pr.station b r = true ∧ s.meets pr r)) :
    s.candidateCost pr b = none := by
  simp [State.candidateCost, hr, candidate_iff, h]

theorem candidateCost_candidate (hr : s.bin? b = some r) (hsuits : s.placeSuits pr.station b r = true)
    (hmeets : s.meets pr r) : s.candidateCost pr b = some (s.placementCost pr.station b r) := by
  simp [State.candidateCost, hr, candidate_iff, hsuits, hmeets]

theorem placeSuits_stored (h : r.place = .stored i) : s.placeSuits k b r = true ↔ s.params.laneAisle i = aisleOf k := by
  simp [State.placeSuits, h]

theorem placeSuits_atStation {j : Crane} {p : Pos} (h : r.place = .atStation j p) : s.placeSuits k b r = true ↔ j = k := by
  simp [State.placeSuits, h]

theorem placeSuits_onCrane {j : Crane} (h : r.place = .onCrane j) :
    s.placeSuits k b r = true ↔ s.carriedToStation k b = true := by
  simp [State.placeSuits, h]

/-- The placement cost of a bin in a lane of its station's aisle (R46, R47). -/
theorem placementCost_stored (h : r.place = .stored i) (ha : s.params.laneAisle i = aisleOf k) :
    s.placementCost k b r = min 65535
      (((s.params.bayMm (aisleOf k) (s.params.laneBay i) - s.params.stationPos[k]).natAbs + 99) / 100
          * s.search.weights.travel
        + s.params.laneLevel i * s.search.weights.level
        + (s.lane i).contents.idxOf b * s.search.weights.depth) := by
  simp [State.placementCost, h, cost, travelTerm, Params.lanePos, ha, Lane.depthOf]

theorem placementCost_elsewhere (h : ∀ i, r.place ≠ .stored i) : s.placementCost k b r = 0 := by
  unfold State.placementCost
  cases hp : r.place with
  | stored i => exact absurd hp (h i)
  | onCrane j => rfl
  | atStation j p => rfl

/-- A visit moves the cursor, and judges the bin that stood there (R53). -/
theorem execSearchVisit_eq (hreset : s.inReset = false) (hrun : s.search.state = .running)
    (hreq : s.search.request = some pr) (hcur : s.search.cursor ≤ 8191) : exec .searchVisit s =
      .next { s with search := { s.search with
        best := betterBest s.search.best s.search.cursor (s.candidateCost pr s.search.cursor),
        cursor := s.search.cursor + 1 } } := by
  show Host.Outcome.next _ = _
  rw [hreq]
  exact congrArg _ (if_pos ⟨hreset, hrun, hcur⟩)

/-! ### PASS COMPLETION (R54, R56) -/

theorem execPassCompletion_eq (hreset : s.inReset = false) (hrun : s.search.state = .running)
    (hreq : s.search.request = some pr) (hcur : s.search.cursor = 8192) :
    exec .passCompletion s = .next (completePass pr s) := by
  show Host.Outcome.next _ = _
  rw [hreq]
  exact congrArg _ (if_pos ⟨hreset, hrun, hcur⟩)

theorem completePass_closed (h : (s.station pr.station).state ≠ .opened) : completePass pr s = noPlace .closed none s :=
  if_pos h

theorem completePass_full (hopen : (s.station pr.station).state = .opened) (hbest : s.search.best = none) :
    completePass pr s = noPlace .full none s := by
  simp [completePass, hopen, hbest]

/-- A pass whose best bin is no candidate at a cost within the recorded one leads to a new pass, and after the third to the
end of the search (R54, R56). -/
theorem completePass_lost {cost : Nat} (hopen : (s.station pr.station).state = .opened)
    (hbest : s.search.best = some (b, cost)) (hlost : ∀ now, s.candidateCost pr b = some now → cost < now) :
    completePass pr s = if s.search.pass < 3 then restartSearch s else noPlace .contended (some (b, cost)) s := by
  have hnone : (s.candidateCost pr b).filter (fun c => decide (c ≤ cost)) = none := by
    rw [Option.filter_eq_none_iff]
    exact fun now hnow => by simpa using hlost now hnow
  simp [completePass, hopen, hbest, hnone]

end Sys2Proof.Machine
end

section
open Sys2Proof Sys2Proof.Machine

/-- Settles O21: the checks of R52 run in order, and a PLACE that passes them all starts the search. -/
theorem placeStartsASearch : Obligations.PlaceStartsASearch := by
  unfold Obligations.PlaceStartsASearch
  intro s q h hk u key refused
  have hrefused {st : Status} (hst : s.placeRefusal (byteAt q.body 0) u key = some st) : refused st :=
    congrArg _ (take_eq_answered h hk rfl (servePlace_refused hst))
  refine ⟨fun hw => hrefused (placeRefusal_loading hw ..), fun hw =>
    ⟨fun hrange => hrefused (placeRefusal_range hw hrange), fun k hbyte hu hcap hkey => ?_⟩⟩
  have hchecks := placeRefusal_inRange (k := k) hw hu hcap hkey
  rw [← hbyte] at hchecks
  refine ⟨fun hmask => hrefused (hchecks.trans (if_pos hmask)), fun hmask => ⟨fun hclosed => hrefused ?_,
    fun hshut => hrefused ?_, fun hopen hrun => hrefused ?_, fun hopen hidle => ?_⟩⟩
  · simp [hchecks, hmask, hclosed]
  · simp [hchecks, hmask, hshut]
  · simp [hchecks, hmask, hopen, hrun]
  · have haccepted : s.placeRefusal (byteAt q.body 0) u key = none := by simp [hchecks, hmask, hopen, hidle]
    exact congrArg _ (take_eq_answered h hk rfl (servePlace_accepted hbyte haccepted))

/-- Settles O22: a visit asks for the cost of the bin at the cursor, which a bin has if its record meets the request and its
place suits the station. -/
theorem searchVisitJudgesOneBin : Obligations.SearchVisitJudgesOneBin := by
  unfold Obligations.SearchVisitJudgesOneBin
  intro s pr hreset hrun hreq hcur b k moved judged
  have hvisit := execSearchVisit_eq hreset hrun hreq hcur
  have hmoved (h : s.candidateCost pr b = none) : moved s.search.best := by
    rw [h] at hvisit
    exact hvisit
  have hjudged {c : Nat} (h : s.candidateCost pr b = some c) : judged c := by
    rw [h] at hvisit
    refine ⟨fun hbest => ?_, fun x d hbest => ?_⟩ <;> rw [hbest] at hvisit <;> exact hvisit
  refine ⟨fun habsent => hmoved (candidateCost_absent habsent), ?_⟩
  intro r hr suits
  have hrejected (h : ¬ s.placeSuits k b r = true) : moved s.search.best :=
    hmoved (candidateCost_rejected hr (fun hc => h hc.1))
  refine ⟨fun h => hmoved (candidateCost_rejected hr (fun hc => h hc.2)), fun i hplace => ⟨fun ha => ?_, fun hs ha => ?_⟩,
    fun j p hplace => ⟨fun hj => ?_, fun hs hj => ?_⟩, fun j hplace => ⟨fun hc => ?_, fun hs hc => ?_⟩⟩
  · exact hrejected (mt (placeSuits_stored hplace).mp ha)
  · rw [← placementCost_stored hplace ha]
    exact hjudged (candidateCost_candidate hr ((placeSuits_stored hplace).mpr ha) hs)
  · exact hrejected (mt (placeSuits_atStation hplace).mp hj)
  · rw [← placementCost_elsewhere (s := s) (k := k) (b := b) (r := r) (by simp [hplace])]
    exact hjudged (candidateCost_candidate hr ((placeSuits_atStation hplace).mpr hj) hs)
  · exact hrejected (by simp [placeSuits_onCrane hplace, hc])
  · rw [← placementCost_elsewhere (s := s) (k := k) (b := b) (r := r) (by simp [hplace])]
    exact hjudged (candidateCost_candidate hr ((placeSuits_onCrane hplace).mpr hc) hs)

/-- Settles O23: the three ways in which a pass ends without a place, and the new pass. -/
theorem passCompletionWithoutAPlace : Obligations.PassCompletionWithoutAPlace := by
  unfold Obligations.PassCompletionWithoutAPlace
  intro s pr hreset hrun hreq hcur ended
  have hexec := execPassCompletion_eq hreset hrun hreq hcur
  refine ⟨fun hshut => ?closed, fun hopen => ⟨fun hbest => ?full, fun b cost hbest hlost => ⟨fun hpass => ?again,
    fun hpass => ?contended⟩⟩⟩
  case closed =>
    rw [completePass_closed hshut] at hexec
    exact hexec
  case full =>
    rw [completePass_full hopen hbest] at hexec
    exact hexec
  case again =>
    rw [completePass_lost hopen hbest hlost, if_pos hpass] at hexec
    exact hexec
  case contended =>
    rw [completePass_lost hopen hbest hlost, if_neg (Nat.not_lt.mpr hpass)] at hexec
    exact hexec

end

section
/-!
The activation of a FETCH by NEXT STEP (R49, R65, R72): the relocation lane, the dig plan of one bin, the promise, the source
hold, and the claim.
-/
namespace Sys2Proof.Machine

variable {s v w : State} {k : Crane} {id b src i cid : Nat} {t u : Task} {r : Bin} {c : Claim} {p : Pos}
  {plan : List (Nat × Nat)}

/-! ### The dig plan (R49) -/

theorem State.mem_relocLanes (s : State) (src key j : Nat) :
    j ∈ (s.openLanes (s.params.laneAisle src) key).filter (fun j => decide (j ≠ src)) ↔
      j < s.params.laneCount ∧ s.params.laneAisle j = s.params.laneAisle src ∧ j ≠ src
        ∧ (s.lane j).key = key ∧ (s.lane j).contents.length + (s.lane j).incoming < (s.lane j).depth := by
  rw [List.mem_filter, State.mem_openLanes, decide_eq_true_iff]
  tauto

/-- Relocation-lane choice: the open lane of lowest cost other than the source, the lowest index among equals (R49). -/
theorem State.relocLane_eq (hr : s.bin? b = some r)
    (hi : i ∈ (s.openLanes (s.params.laneAisle src) r.key).filter (fun j => decide (j ≠ src)))
    (hmin : ∀ j ∈ (s.openLanes (s.params.laneAisle src) r.key).filter (fun j => decide (j ≠ src)),
      s.relocCost src i < s.relocCost src j ∨ s.relocCost src i = s.relocCost src j ∧ i ≤ j) :
    s.relocLane src b = some i := by
  unfold State.relocLane
  rw [hr]
  exact cheapest_eq (((s.params.lanesOf_pairwise _).filter _).filter _) hi hmin

theorem planDig_one (h : s.relocLane src b = some i) : planDig src [b] [] s = (takeSlots i 1 s, some [(b, i)]) := by
  unfold planDig
  rw [h]
  rfl

/-! ### Activation (R65, R72) -/

/-- A queued FETCH that NEXT STEP may activate: its STORED bin lies in a quiet lane, its station has the free position `p`,
and its claim waits (R65). -/
structure State.FetchReady (s : State) (id b src cid : Nat) (t : Task) (r : Bin) (c : Claim) (p : Pos) : Prop where
  task : s.task? id = some t
  kind : t.kind = .fetch
  bin : t.bin = some b
  claimed : t.claim = some cid
  claim : s.claim? cid = some c
  waiting : c.state = .queued
  record : s.bin? b = some r
  stored : r.place = .stored src
  quiet : (s.lane src).incoming = 0
  unsourced : s.isFetchSource src = false
  pos : (s.station t.crane).freePos = some p

/-- A FETCH as its activation leaves it: the promised position, the dig plan and the hold of its source lane (R65, R72). -/
def Task.fetching (src : Nat) (p : Pos) (plan : List (Nat × Nat)) (free : Nat) (t : Task) : Task :=
  { t with
    state := .active, block := none, source := some (.lane src), dest := some (.station p), dig := plan,
    digLeft := plan.length, hold := free, step := if plan.isEmpty then .pick else .relocPick }

theorem claimFetching_queued (hc : s.claim? cid = some c) (h : c.state = .queued) :
    claimFetching cid s = touchClaim cid (fun c => { c with state := .fetching }) s := by
  unfold claimFetching
  rw [hc]
  exact if_pos h

/-- What the activation of a FETCH changes, where `v` is the state with its position promised and the slots of its dig plan
taken (R65, R72). -/
theorem activate_fetch (h : s.FetchReady id b src cid t r c p)
    (hplan : planDig src ((s.lane src).contents.takeWhile (fun x => x != b)) [] (promise t.crane p id s) = (v, some plan))
    (hv : v = { promise t.crane p id s with lanes := v.lanes }) :
    let free := (s.lane src).depth - (s.lane src).contents.length
    ∃ w, activate id s = (w, true)
      ∧ (∀ j, w.task? j = if j = id then some (t.fetching src p plan free) else s.task? j)
      ∧ (∀ j, w.claim? j = if j = cid then some { c with state := .fetching, unseen := true } else s.claim? j)
      ∧ (∀ j, w.lane j = if j = src then { v.lane src with incoming := (v.lane src).incoming + free } else v.lane j)
      ∧ w = { s with
          tasks := w.tasks, claims := w.claims, lanes := w.lanes, portC := w.portC,
          stations := (promise t.crane p id s).stations } := by
  intro free
  have htask : (takeSlots src free v).task? id = some t := by rw [hv]; exact h.task
  have hclaim : ((takeSlots src free v).setTask id (t.fetching src p plan free)).claim? cid = some c := by
    rw [hv]; exact h.claim
  have hplace : s.targetPlace t = some (b, .stored src) := by
    simp [State.targetPlace, h.bin, h.record, h.stored]
  have hact : activate id s = (claimFetching cid ((takeSlots src free v).setTask id (t.fetching src p plan free)), true) := by
    unfold activate
    rw [h.task]
    dsimp only
    rw [h.kind]
    dsimp only
    unfold activateFetch
    rw [hplace]
    dsimp only
    rw [if_neg (by simp [h.quiet, h.unsourced]), h.pos]
    dsimp only
    rw [hplan]
    dsimp only
    rw [State.modTask_eq htask, Task.fetching, h.claimed]
  obtain ⟨hclaims, hframe⟩ := touchClaim_spec hclaim (fun c => { c with state := .fetching })
  rw [claimFetching_queued hclaim h.waiting] at hact
  refine ⟨_, hact, fun j => ?_, fun j => ?_, fun j => ?_, ?_⟩
  all_goals generalize touchClaim cid _ _ = w at *
  · have hset : w.task? j = ((takeSlots src free v).setTask id (t.fetching src p plan free)).task? j := by rw [hframe]; rfl
    rw [hset, State.task?_setTask, hv]
    rfl
  · rw [hclaims, hv]
    rfl
  · have hlane : w.lane j = (takeSlots src free v).lane j := by rw [hframe]; rfl
    rw [hlane]
    exact State.lane_setLane ..
  · rw [hframe, hv]
    rfl

/-! ### Dispatch (R64) -/

theorem modCrane_modCrane (f g : CraneTasks → CraneTasks) :
    (s.modCrane k f).modCrane k g = s.modCrane k (fun c => g (f c)) := by
  simp [State.modCrane]

/-- The test owed after a dispatch of the one queued task finds nothing that preempts it (R64, R74). -/
theorem settle_makeActive (hs : s.settled) (hq : (s.crane k).queue = [id]) (ht : s.task? id = some t) :
    settle (makeActive k id s) = s.modCrane k (fun c => c.dispatched id t.kind) := by
  have hmade : makeActive k id s = markDue k (s.modCrane k (fun c =>
      { c with queue := [], active := some id, standingYield := if t.kind = .park then none else c.standingYield })) := by
    unfold makeActive
    rw [ht]
    refine congrArg (markDue k) (State.modCrane_congr ?_)
    simp [hq]
  have hundue (f : CraneTasks → CraneTasks) : (markDue k (s.modCrane k f)).undue = s.modCrane k f :=
    State.undue_eq (s := s.modCrane k f) hs
  rw [hmade, settle_calm (owesOnly_of_due hs rfl) (Or.inl (by rw [markDue_crane, State.crane_modCrane_self])), hundue,
    modCrane_modCrane]
  rfl

/-- An idle crane with one queued task, no yield to stand by and no change to deliver (R61, R64). -/
structure CraneTasks.Waits (c : CraneTasks) (id : Nat) : Prop where
  queue : c.queue = [id]
  stack : c.stack = []
  active : c.active = none
  standingYield : c.standingYield = none
  undelivered : c.undelivered = .none

/-- NEXT STEP of an idle crane whose one queued task is a FETCH that can be activated, with no claim in the backlog for the
queue slot that it frees (R62, R64). -/
theorem nextWork_fetch (hs : s.settled) (hback : s.backlog = []) (hidle : (s.crane k).Waits id) (ht : s.task? id = some t)
    (helig : s.eligible t = true) (hact : activate id s = (w, true)) (hw : w.task? id = some u) (hkind : u.kind = .fetch)
    (hframe : w = { s with
      tasks := w.tasks, claims := w.claims, lanes := w.lanes, portC := w.portC, stations := w.stations }) :
    nextWork k s = w.modCrane k (fun c => c.dispatched id .fetch) := by
  have hwidle : (w.crane k).Waits id := by rw [hframe]; exact hidle
  have hwback : w.backlog = [] := by rw [hframe]; exact hback
  have htake : takeWork k s = makeActive k id w := by
    unfold takeWork
    rw [hidle.active, hidle.stack, hidle.queue, hidle.standingYield]
    simp only [Option.isSome_none, Bool.false_eq_true, if_false, List.isEmpty_nil, Bool.not_true, Bool.and_false]
    unfold dispatch
    rw [if_pos (by simp [State.eligibleId, ht, helig]), hact]
    have hslot : slotFreed k (makeActive k id w) = makeActive k id w := slotFreed_of_nil hwback
    simp [hw, hkind, hslot]
  unfold nextWork
  rw [releaseKept_plain (by simp [hidle.active, hidle.stack]), setMarker_quiet (Or.inr hback),
    modCrane_of_eq (by rw [← hidle.undelivered]), htake,
    settle_makeActive (by rw [hframe]; exact hs) hwidle.queue hw, hkind]
  refine deliver_none _ ?_
  rw [State.crane_modCrane_self]
  exact hwidle.undelivered

end Sys2Proof.Machine
end

section
open Sys2Proof Sys2Proof.Machine

/-- Settles O29: the FETCH activates with the dig plan of the bins in front of its own, none or one, and takes its source
lane's free slots after the plan's. -/
theorem nextStepActivatesAFetch : Obligations.NextStepActivatesAFetch := by
  unfold Obligations.NextStepActivatesAFetch
  intro s k q id b src cid t r c p rest h hk hs hback hm ha hstack hyield hq hrail hfire ht hcrane hstate hkind hbin hcl hc
    hwait hr hplace hin hsrc hp free active
  obtain rfl : t.crane = k := hcrane
  have hready : s.FetchReady id b src cid t r c p := ⟨ht, hkind, hbin, hcl, hc, hwait, hr, hplace, hin, hsrc, hp⟩
  have helig : s.eligible t = true := by simp [State.eligible, hstate, State.normal, hfire, hkind, hrail]
  have hactivated {v : State} {plan : List (Nat × Nat)}
      (hplan : planDig src ((s.lane src).contents.takeWhile (fun x => x != b)) [] (promise t.crane p id s) = (v, some plan))
      (hv : v = { promise t.crane p id s with lanes := v.lanes }) (hsame : v.lane src = s.lane src) :
      ∃ s', exec (.nextStep t.crane) s = .next s' ∧ active s' plan (if plan.isEmpty then .pick else .relocPick)
        ∧ ∀ j, j ≠ src → s'.lane j = v.lane j := by
    obtain ⟨w, hact, htasks, hclaims, hlanes, hframe⟩ := activate_fetch hready hplan hv
    have hwork := nextWork_fetch hs hback ⟨hq, hstack, ha, hyield, hm⟩ ht helig hact ((htasks id).trans (if_pos rfl)) hkind
      (by rw [hframe])
    have hexec := execNextStep_eq h hk
    rw [hwork] at hexec
    have hlane : w.lane src = { s.lane src with incoming := free } := by
      rw [hlanes, if_pos rfl, hsame, hin, Nat.zero_add]
    have hstation (j : Crane) : w.station j = (promise t.crane p id s).station j := by
      rw [hframe]
      rfl
    refine ⟨_, hexec, ⟨(htasks id).trans (if_pos rfl), fun j hj => (htasks j).trans (if_neg hj), ?_, ?_, ?_, fun j hj => ?_,
      (congrArg Lane.incoming hlane :), (congrArg Lane.contents hlane :), (hclaims cid).trans (if_pos rfl),
      fun j hj => (hclaims j).trans (if_neg hj), ?_⟩, fun j hj => (hlanes j).trans (if_neg hj)⟩
    · rw [answered_crane, State.crane_modCrane_self]
      rfl
    · rw [answered_crane, State.crane_modCrane_self]
      rfl
    · exact (hstation t.crane).trans (State.station_modStation_self ..)
    · exact (hstation j).trans (State.station_modStation_other s (Ne.symm hj) _)
    · rw [hframe]
      rfl
  refine ⟨fun hfront => ?front, ?dig⟩
  case front =>
    exact hactivated (v := promise t.crane p id s) (plan := [])
      (by rw [hfront, List.takeWhile_cons_of_neg (by simp)]; rfl) rfl rfl
  case dig =>
    intro x i y hsecond hne hy open' price hopen hmin
    have hreloc : (promise t.crane p id s).relocLane src x = some i :=
      State.relocLane_eq hy ((s.mem_relocLanes ..).mpr hopen) (fun j hj => hmin j ((s.mem_relocLanes ..).mp hj))
    obtain ⟨-, -, hisrc, -⟩ := hopen
    obtain ⟨s', hexec, hactive, hother⟩ := hactivated (v := takeSlots i 1 (promise t.crane p id s)) (plan := [(x, i)])
      (by rw [hsecond, List.takeWhile_cons_of_pos (by simp [hne]), List.takeWhile_cons_of_neg (by simp), planDig_one hreloc])
      rfl (State.lane_modLane_other _ (Ne.symm hisrc) _)
    exact ⟨s', hexec, hactive, (hother i hisrc).trans (State.lane_modLane_self ..),
      fun j hj hji => (hother j hj).trans (State.lane_modLane_other _ hji _)⟩

end

section
/-!
SUPPORT. A READY crane that is stopped, and the crane reports that have no task to be judged against.
-/
namespace Sys2Proof.Machine

variable {s : State} {k : Crane} {q : Request}

/-! ### What the stop of a READY crane latches (R107, R163) -/

theorem changeRail_portC (k : Crane) (f : Rail → Rail) (s : State) :
    (changeRail k f s).portC = s.portC ∧ (changeRail k f s).sources = s.sources := by
  have hstop : (modRailStop k f s).portC = s.portC ∧ (modRailStop k f s).sources = s.sources := by
    unfold modRailStop
    dsimp only
    split <;> exact ⟨rfl, rfl⟩
  have hready (u : State) : (readyIfNewlyEligible k s u).portC = u.portC ∧ (readyIfNewlyEligible k s u).sources = u.sources := by
    unfold readyIfNewlyEligible
    split <;> exact ⟨rfl, rfl⟩
  unfold changeRail
  dsimp only
  rw [(hready _).1, (hready _).2]
  split <;> exact hstop

theorem stops_ready {r : Rail} (h : r.state = .ready) : r.stops = r.fireHold := by
  unfold Rail.stops
  rw [h]

/-- A change that asserts a released STOP line latches STOP (R107). -/
theorem changeRail_latches_stop {f : Rail → Rail} (hoff : (s.rail k).stops = false) (hon : (f (s.rail k)).stops = true) :
    ((changeRail k f s).port (.k k)).latch.getLsbD NoticeK.stop.position = true := by
  have hstop : modRailStop k f s = latchK k .stop (s.modRail k f) := by
    unfold modRailStop
    dsimp only
    rw [State.rail_modRail_self, hoff, hon]
    rfl
  have hlatched : ((modRailStop k f s).port (.k k)).latch.getLsbD NoticeK.stop.position = true := by
    rw [hstop, latchK_port, if_pos rfl, BitVec.getLsbD_or]
    exact Bool.or_eq_true_iff.mpr (.inr (by decide))
  have hstays := latchStays_taskSteps
  unfold changeRail
  dsimp only
  refine hstays.readyIfNewlyEligible _ _ _ _ _ ?_
  split <;> exact hlatched

/-- The rail record of a crane that is stopped (R107). -/
def Rail.stoppedFor (cause : StopCause) (r : Rail) : Rail :=
  { r with state := .stopped, silentFrom := none, stopCause := cause, granted := none, pending := none }

theorem stopCrane_ready_eq (h : (s.rail k).state = .ready) (cause : StopCause) :
    stopCrane k cause s = latchCraneFault k (changeRail k (Rail.stoppedFor cause) s) := by
  unfold stopCrane
  rw [h]
  rfl

/-- What the stop of a READY crane latches, and the rail records that it leaves (R107). -/
theorem stopCrane_ready_notices (h : (s.rail k).state = .ready) (cause : StopCause) :
    let u := stopCrane k cause s
    (∀ j, j ≠ k → u.rail j = s.rail j) ∧ u.portC.latch = s.portC.latch ||| 2
    ∧ u.sources.craneFault.getLsbD k.val = true
    ∧ ((s.rail k).fireHold = false → (u.port (.k k)).latch.getLsbD NoticeK.stop.position = true) := by
  have hrails := (changeRail_frame k (Rail.stoppedFor cause) s).rail
  have hportC := (changeRail_portC k (Rail.stoppedFor cause) s).1
  have hstop (hhold : (s.rail k).fireHold = false) :=
    changeRail_latches_stop (f := Rail.stoppedFor cause) ((stops_ready h).trans hhold) rfl
  have hbit : (BitVec.ofNat 4 (2 ^ k.val)).getLsbD k.val = true := by
    clear hrails hportC hstop h
    revert k
    decide
  rw [stopCrane_ready_eq h]
  generalize changeRail k (Rail.stoppedFor cause) s = v at hrails hportC hstop ⊢
  refine ⟨fun j hj => (hrails j).trans (State.rail_modRail_other s (Ne.symm hj) _), congrArg (fun b => b.latch ||| 2) hportC,
    ?_, hstop⟩
  show (v.sources.craneFault ||| BitVec.ofNat 4 (2 ^ k.val)).getLsbD k.val = true
  rw [BitVec.getLsbD_or, hbit, Bool.or_true]

/-! ### A report with no task to judge it against (R71, R77) -/

theorem execPicked_unjudged (h : s.hasRequest (.k k) q) (hk : q.kind = .picked)
    (hunjudged : s.judgedTask k = none ∨ (s.crane k).undelivered = .push ∧ (s.fire (aisleOf k)).state ≠ .normal) :
    exec (.picked k) s = .next
      ((settle (stopCrane k .mismatch (consumePick k s))).answered (.k k) q .mismatch []) := by
  refine congrArg Host.Outcome.next (take_eq_answered h hk rfl ?_)
  unfold servePicked
  dsimp only
  rcases hunjudged with hnone | ⟨hpush, hfire⟩
  · rw [hnone]
    rfl
  · split
    · rfl
    · rw [if_neg (by simp [hpush, State.normal, hfire])]
      rfl

theorem execSetDown_unjudged (h : s.hasRequest (.k k) q) (hk : q.kind = .setDown) (hunjudged : s.judgedTask k = none) :
    exec (.setDown k) s = .next
      ((settle (stopCrane k .mismatch (consumeSetDown k s))).answered (.k k) q .mismatch []) := by
  refine congrArg Host.Outcome.next (take_eq_answered h hk rfl ?_)
  unfold serveSetDown
  rw [hunjudged]
  rfl

/-- A crane has no task to judge a report against if it has no active task and no preemption to reverse, if its task was
removed, or if PUSH or PARK_PUSH stands over an empty stack (R77). -/
theorem judgedTask_eq_none
    (h : (s.crane k).active = none ∧ ¬ ((s.crane k).undelivered = .push ∨ (s.crane k).undelivered = .parkPush)
      ∨ (s.crane k).undelivered = .removed
      ∨ (s.crane k).stack = [] ∧ ((s.crane k).undelivered = .push ∨ (s.crane k).undelivered = .parkPush)) :
    s.judgedTask k = none := by
  unfold State.judgedTask
  rcases h with ⟨hactive, hpushed⟩ | hremoved | ⟨hstack, hpush | hpush⟩
  · cases hm : (s.crane k).undelivered with
    | none => exact hactive
    | redirect => exact hactive
    | removed => rfl
    | push => exact absurd (.inl hm) hpushed
    | parkPush => exact absurd (.inr hm) hpushed
  · rw [hremoved]
  all_goals rw [hpush, hstack]; rfl

/-- A READY crane whose report consumes a capture and is a MISMATCH: it is STOPPED and nothing else of the device but the
capture and the notices changes (R71, R107). -/
theorem mismatch_stops (hs : s.settled) (hready : (s.rail k).state = .ready) (f : Channel → Channel) :
    let t := (settle (stopCrane k .mismatch (s.modChannel k f))).answered (.k k) q .mismatch []
    (t.rail k = { s.rail k with
        state := .stopped, silentFrom := none, stopCause := .mismatch, granted := none, pending := none }
      ∧ (∀ j, j ≠ k → t.rail j = s.rail j) ∧ (∀ j, j ≠ k → t.channel j = s.channel j)
      ∧ t.portC.latch = s.portC.latch ||| 2 ∧ t.sources.craneFault.getLsbD k.val = true
      ∧ ((s.rail k).fireHold = false → (t.port (.k k)).latch.getLsbD NoticeK.stop.position = true)
      ∧ (t.port (.k k)).slot = .holding ⟨.mismatch, BitVec.ofNat 8 q.kind.code, q.tag, []⟩
      ∧ t = { s with rails := t.rails, channels := t.channels, portC := t.portC, portK := t.portK, sources := t.sources })
    ∧ t.channel k = f (s.channel k) := by
  set u := stopCrane k .mismatch (s.modChannel k f) with hu
  obtain ⟨hframe, hrail⟩ := stopCrane_ready (s := s.modChannel k f) (k := k) hready .mismatch
  obtain ⟨hrails, hportC, hsources, hstop⟩ := stopCrane_ready_notices (s := s.modChannel k f) (k := k) hready .mismatch
  rw [← hu] at hframe hrail hrails hportC hsources hstop
  have hdue : u.settled := by
    intro j
    rw [hframe]
    exact hs j
  have hchannel (j : Crane) : u.channel j = (s.modChannel k f).channel j := by
    rw [hframe]
    rfl
  rw [settle_of_settled hdue]
  refine ⟨⟨hrail, hrails, fun j hj => ?_, hportC, hsources, fun hhold => ?_, answered_slot .., ?_⟩, ?_⟩
  · exact (hchannel j).trans (State.channel_modChannel_other s (Ne.symm hj) _)
  · rw [State.answered, State.port_modPort_self]
    exact hstop hhold
  · show State.answered u _ _ _ _ = _
    generalize u = v at hframe
    rw [hframe]
    rfl
  · exact (hchannel k).trans (State.channel_modChannel_self ..)

end Sys2Proof.Machine

open Sys2Proof Sys2Proof.Machine

/-- Settles O32: no task is judged, or a PUSH cannot be reversed in its aisle, so the report is a MISMATCH and stops the
crane. -/
theorem aReportWithoutATaskStopsTheCrane : Obligations.AReportWithoutATaskStopsTheCrane := by
  unfold Obligations.AReportWithoutATaskStopsTheCrane
  intro s k q h hs hready pushed hcase stopped
  refine ⟨fun hk => ⟨_, execPicked_unjudged h hk ?_, mismatch_stops hs hready _⟩,
    fun hk => ⟨_, execSetDown_unjudged h hk ?_, mismatch_stops hs hready _⟩⟩
  · rcases hcase with hidle | hremoved | hstack | ⟨hpush, -, hfire⟩
    · exact .inl (judgedTask_eq_none (.inl hidle))
    · exact .inl (judgedTask_eq_none (.inr (.inl hremoved)))
    · exact .inl (judgedTask_eq_none (.inr (.inr hstack)))
    · exact .inr ⟨hpush, hfire⟩
  · rcases hcase with hidle | hremoved | hstack | ⟨-, hpicked, -⟩
    · exact judgedTask_eq_none (.inl hidle)
    · exact judgedTask_eq_none (.inr (.inl hremoved))
    · exact judgedTask_eq_none (.inr (.inr hstack))
    · exact absurd (hk.symm.trans hpicked) (by decide)

end

section
/-!
SUPPORT. The rail units: the two cranes of an aisle, the judging of a grant, the overrun check, the giving of a travel and
the arbiter, said once for GRANT and ARRIVED.
-/
namespace Sys2Proof.Machine

variable {s u : State} {k j : Crane} {t t' asked : Travel} {sp : Span} {f : Rail → Rail}

/-! ### The two cranes of an aisle (R105) -/

@[simp] theorem otherCrane_otherCrane (k : Crane) : otherCrane (otherCrane k) = k := by revert k; decide

@[simp] theorem isWest_otherCrane (k : Crane) : isWest (otherCrane k) = !isWest k := by revert k; decide

@[simp] theorem aisleOf_otherCrane (k : Crane) : aisleOf (otherCrane k) = aisleOf k := by revert k; decide

theorem otherCrane_ne (k : Crane) : otherCrane k ≠ k := by revert k; decide

/-- The west crane of a crane's aisle is the crane itself or the other one, and the east crane is the one left. -/
theorem cranes_of_aisle (k : Crane) : westCrane (aisleOf k) = (if isWest k then k else otherCrane k)
    ∧ eastCrane (aisleOf k) = if isWest k then otherCrane k else k := by
  revert k
  decide

theorem furtherIn_iff (k : Crane) (x y : Int) : furtherIn k x y = true ↔ if isWest k then y < x else x < y := by
  unfold furtherIn
  split <;> exact decide_eq_true_iff

theorem fits_iff : s.fits k sp = true ↔ if isWest k then sp.east + s.params.gap ≤ (s.edges (otherCrane k)).west
    else (s.edges (otherCrane k)).east + s.params.gap ≤ sp.west := by
  unfold State.fits
  dsimp only
  split <;> exact decide_eq_true_iff

/-! ### What a change of a rail record leaves as it was -/

theorem modRail_modRail (s : State) (k : Crane) (f g : Rail → Rail) :
    (s.modRail k f).modRail k g = s.modRail k (fun r => g (f r)) := by
  simp [State.modRail]

theorem modRail_congr {g : Rail → Rail} (h : f (s.rail k) = g (s.rail k)) : s.modRail k f = s.modRail k g := by
  unfold State.modRail
  rw [show f s.rails[k] = g s.rails[k] from h]

theorem modRail_of_eq (h : f (s.rail k) = s.rail k) : s.modRail k f = s := by
  unfold State.modRail
  rw [show f s.rails[k] = s.rails[k] from h]
  simp

theorem rail_modRail_otherCrane : (s.modRail k f).rail (otherCrane k) = s.rail (otherCrane k) :=
  State.rail_modRail_other s (otherCrane_ne k).symm f

theorem edges_of_calibrated (h : (s.rail k).reservation = .calibrated sp) : s.edges k = sp := by
  unfold State.edges
  rw [h]

theorem edges_modRail_other (h : j ≠ k) (f : Rail → Rail) : (s.modRail k f).edges j = s.edges j := by
  unfold State.edges
  rw [State.rail_modRail_other s (Ne.symm h)]
  rfl

theorem edges_modRail_self (h : (f (s.rail k)).reservation = .calibrated sp) : (s.modRail k f).edges k = sp :=
  edges_of_calibrated (by rw [State.rail_modRail_self, h])

/-- A crane's requests are judged by the other crane's reservation alone. -/
theorem fits_modRail (s : State) (k : Crane) (f : Rail → Rail) : (s.modRail k f).fits k = s.fits k := by
  funext x
  unfold State.fits
  rw [edges_modRail_other (otherCrane_ne k)]
  rfl

theorem clampedTravel_modRail (s : State) (k : Crane) (f : Rail → Rail) :
    (s.modRail k f).clampedTravel k = s.clampedTravel k := by
  funext x
  unfold State.clampedTravel State.clampPoint
  rw [edges_modRail_other (otherCrane_ne k), fits_modRail]
  rfl

/-! ### The overrun check (R117) -/

/-- The envelope of the last window, if there is one, lies in a stretch. -/
def State.windowIn (s : State) (k : Crane) (sp : Span) : Prop :=
  ∀ w, (s.channel k).envelope = some w → sp.west ≤ w.west ∧ w.east ≤ sp.east

theorem overrunCheck_of_windowIn (h : s.calibrated k = true → s.windowIn k (s.edges k)) : overrunCheck k s = s := by
  refine if_neg ?_
  intro hover
  unfold State.overrun at hover
  obtain ⟨hcal, hout⟩ := Bool.and_eq_true_iff.mp hover
  split at hout
  · next w hw =>
    obtain ⟨hwest, heast⟩ := h hcal w hw
    simp only [Span.outside, Bool.or_eq_true, decide_eq_true_eq] at hout
    omega
  · contradiction

/-! ### Whether a request is refused (R110) -/

/-- A READY crane of an aisle in NORMAL, its fire hold released and its channel CALIBRATED: no check of R110 but the range of
the speed refuses it. -/
structure State.InService (s : State) (k : Crane) : Prop where
  ready : (s.rail k).state = .ready
  hold : (s.rail k).fireHold = false
  normal : (s.fire (aisleOf k)).state = .normal
  calibrated : s.calibrated k = true

theorem State.InService.modRail_self (h : s.InService k) (hstate : (f (s.rail k)).state = (s.rail k).state)
    (hhold : (f (s.rail k)).fireHold = (s.rail k).fireHold) : (s.modRail k f).InService k where
  ready := by rw [State.rail_modRail_self, hstate, h.ready]
  hold := by rw [State.rail_modRail_self, hhold, h.hold]
  normal := h.normal
  calibrated := h.calibrated

theorem State.InService.modRail_other (h : s.InService j) (hj : j ≠ k) : (s.modRail k f).InService j where
  ready := by rw [State.rail_modRail_other s (Ne.symm hj), h.ready]
  hold := by rw [State.rail_modRail_other s (Ne.symm hj), h.hold]
  normal := h.normal
  calibrated := h.calibrated

theorem State.InService.grantRefusal (h : s.InService k) (hlow : 1 ≤ t.speed) (hhigh : t.speed ≤ 8191) :
    s.grantRefusal k t = none := by
  have haisle : s.aisleRefuses k = false := by
    unfold State.aisleRefuses
    rw [h.ready, h.hold, h.normal]
    rfl
  unfold State.grantRefusal
  rw [if_neg (by omega), h.ready]
  simp [haisle, h.calibrated]

/-! ### The judging of a request (R112, R113) -/

theorem judge_whole (h : s.fits k (s.required k t) = true) : s.judge k t = .whole := if_pos h

theorem judge_clamped (hfit : s.fits k (s.required k t) = false) (h : s.clampedTravel k t = some t') :
    s.judge k t = .clamped t' := by
  unfold State.judge
  rw [hfit, h]
  rfl

theorem judge_held (hfit : s.fits k (s.required k t) = false) (h : s.clampedTravel k t = none) : s.judge k t = .held := by
  unfold State.judge
  rw [hfit, h]
  rfl

theorem clampedTravel_eq (h : furtherIn k t.target (s.posMm k) = true) (h' : furtherIn k (s.clampPoint k t.speed) (s.posMm k) = true)
    (hfit : s.fits k (s.required k ⟨s.clampPoint k t.speed, t.speed⟩) = true) :
    s.clampedTravel k t = some ⟨s.clampPoint k t.speed, t.speed⟩ := by
  refine if_pos ?_
  rw [h, h', hfit]
  rfl

/-- What a clamped travel is, and what it takes (R113). -/
theorem clampedTravel_some (h : s.clampedTravel k t = some t') :
    t' = ⟨s.clampPoint k t.speed, t.speed⟩ ∧ furtherIn k t.target (s.posMm k) = true
      ∧ furtherIn k t'.target (s.posMm k) = true ∧ s.fits k (s.required k t') = true := by
  unfold State.clampedTravel at h
  dsimp only at h
  split at h
  · next hc =>
    obtain rfl := Option.some.inj h
    obtain ⟨hahead, hfit⟩ := Bool.and_eq_true_iff.mp hc
    obtain ⟨htarget, hpoint⟩ := Bool.and_eq_true_iff.mp hahead
    exact ⟨rfl, htarget, hpoint, hfit⟩
  · contradiction

/-- No travel is given where the target or the clamped point is not ahead of the crane, or the clamped travel does not fit. -/
theorem clampedTravel_none (h : (if isWest k then t.target ≤ s.posMm k ∨ s.clampPoint k t.speed ≤ s.posMm k
      else s.posMm k ≤ t.target ∨ s.posMm k ≤ s.clampPoint k t.speed)
    ∨ s.fits k (s.required k ⟨s.clampPoint k t.speed, t.speed⟩) = false) : s.clampedTravel k t = none := by
  refine Option.eq_none_iff_forall_ne_some.mpr fun t' ht' => ?_
  obtain ⟨rfl, htarget, hpoint, hfit⟩ := clampedTravel_some ht'
  rw [furtherIn_iff] at htarget hpoint
  rcases h with hbehind | hover
  · split at hbehind <;> simp_all <;> omega
  · simp [hfit] at hover

/-! ### A travel is given (R112, R113, R118) -/

theorem armIfTravel_eq (k : Crane) (t : Travel) (s : State) : armIfTravel k t s = s.modRail k (fun r =>
    { r with linkArmed := r.linkArmed || decide (t.target ≠ s.posMm k),
             linkLeft := if r.linkArmed = false ∧ t.target ≠ s.posMm k then s.params.linkTime else r.linkLeft }) := by
  unfold armIfTravel armLink
  by_cases h : t.target = s.posMm k
  · rw [if_neg (by simpa using h)]
    exact (modRail_of_eq (by simp [h])).symm
  · rw [if_pos h]
    refine modRail_congr ?_
    rcases s.rail k with ⟨_, _, _, _, _, _, _, _, _, armed, _⟩
    cases armed <;> simp [h]

/-- The rail record of a crane that has been given a travel, with what stays pending (R112, R113, R118). -/
def State.givenTravel (s : State) (k : Crane) (t : Travel) (left : Option Travel) (r : Rail) : Rail :=
  { r with
    reservation := .calibrated (s.required k t), granted := some t, pending := left,
    linkArmed := r.linkArmed || decide (t.target ≠ s.posMm k),
    linkLeft := if r.linkArmed = false ∧ t.target ≠ s.posMm k then s.params.linkTime else r.linkLeft }

theorem giveTravel_armed (k : Crane) (t : Travel) (left : Option Travel) (s : State) :
    armIfTravel k t (giveTravel k t left s) = s.modRail k (s.givenTravel k t left) := by
  rw [armIfTravel_eq, giveTravel, modRail_modRail]
  rfl

/-! ### One evaluation of a pending grant (R115) -/

/-- A travel with its speed clamped to the class cap of this moment (R114). -/
def State.capped (s : State) (k : Crane) (t : Travel) : Travel := { t with speed := min t.speed (s.classCap k) }

theorem pendingNow_eq (h : (s.rail k).pending = some asked) : s.pendingNow k = some (s.capped k asked) := by
  unfold State.pendingNow
  rw [h]
  rfl

theorem evaluatePending_none (h : (s.rail k).pending = none) : evaluatePending k s = (s, false) := by
  unfold evaluatePending
  rw [h]
  split
  · contradiction
  · rfl

section
variable (hp : (s.rail k).pending = some asked)
include hp

section
variable (hcal : s.calibrated k = true) (hallowed : s.grantRefusal k asked = none)
include hcal hallowed

theorem evaluatePending_whole (hfit : s.fits k (s.required k (s.capped k asked)) = true) :
    evaluatePending k s = (overrunCheck k (latchK k .grantExtended
      (armIfTravel k (s.capped k asked) (giveTravel k (s.capped k asked) none s))), false) := by
  unfold evaluatePending
  rw [pendingNow_eq hp, hp]
  dsimp only
  rw [hcal, hallowed, judge_whole hfit]
  rfl

theorem evaluatePending_clamped (hfit : s.fits k (s.required k (s.capped k asked)) = false)
    (hclamp : s.clampedTravel k (s.capped k asked) = some t') :
    evaluatePending k s = if s.extends k t' then
        (overrunCheck k (latchK k .grantExtended (armIfTravel k t' (giveTravel k t' (some asked) s))), false)
      else (s, true) := by
  unfold evaluatePending
  rw [pendingNow_eq hp, hp]
  dsimp only
  rw [hcal, hallowed, judge_clamped hfit hclamp]
  rfl

theorem evaluatePending_held (hfit : s.fits k (s.required k (s.capped k asked)) = false)
    (hclamp : s.clampedTravel k (s.capped k asked) = none) : evaluatePending k s = (s, true) := by
  unfold evaluatePending
  rw [pendingNow_eq hp, hp]
  dsimp only
  rw [hcal, hallowed, judge_held hfit hclamp]
  rfl

end

/-- A pending grant that neither fits whole nor can be extended changes nothing, and is blocked if it may be evaluated. -/
theorem evaluatePending_blocked (hfit : s.fits k (s.required k (s.capped k asked)) = false)
    (hclamp : ∀ t', s.clampedTravel k (s.capped k asked) = some t' → s.extends k t' = false) :
    evaluatePending k s = (s, s.calibrated k && (s.grantRefusal k asked).isNone) := by
  cases hgo : s.calibrated k && (s.grantRefusal k asked).isNone with
  | false =>
    unfold evaluatePending
    rw [pendingNow_eq hp, hp]
    dsimp only
    rw [hgo, if_neg (by simp)]
  | true =>
    obtain ⟨hcal, hallowed⟩ := Bool.and_eq_true_iff.mp hgo
    rw [Option.isNone_iff_eq_none] at hallowed
    cases hc : s.clampedTravel k (s.capped k asked) with
    | none => exact evaluatePending_held hp hcal hallowed hfit hc
    | some t' => rw [evaluatePending_clamped hp hcal hallowed hfit hc, if_neg (by simp [hclamp t' hc])]

end

/-- A pending grant that may be evaluated and can neither be given nor extended is blocked (R115). -/
theorem evaluatePending_inService (hin : s.InService k) (hp : (s.rail k).pending = some asked) (hlow : 1 ≤ asked.speed)
    (hhigh : asked.speed ≤ 8191) (hfit : s.fits k (s.required k (s.capped k asked)) = false)
    (hclamp : ∀ t', s.clampedTravel k (s.capped k asked) = some t' → s.extends k t' = false) :
    evaluatePending k s = (s, true) := by
  rw [evaluatePending_blocked hp hfit hclamp, hin.calibrated, hin.grantRefusal hlow hhigh]
  rfl

theorem edges_latchK (j k : Crane) (n : NoticeK) (s : State) : (latchK j n s).edges k = s.edges k := rfl

/-- A crane extended by a travel: its rail record, and GRANT_EXTENDED at its port (R115). -/
def State.extended (s : State) (k : Crane) (t : Travel) (left : Option Travel) : State :=
  latchK k .grantExtended (s.modRail k (s.givenTravel k t left))

/-- An extension gives the travel and latches GRANT_EXTENDED, and the crane does not overrun (R115, R117). -/
theorem extended_eq (k : Crane) (t : Travel) (left : Option Travel) (h : s.windowIn k (s.required k t)) :
    overrunCheck k (latchK k .grantExtended (armIfTravel k t (giveTravel k t left s))) = s.extended k t left := by
  rw [giveTravel_armed]
  refine overrunCheck_of_windowIn fun _ => ?_
  have hedges : (s.modRail k (s.givenTravel k t left)).edges k = s.required k t := edges_modRail_self rfl
  rw [edges_latchK, hedges]
  exact h

/-! ### The arbiter (R115, R116) -/

/-- The crane has the right of way over the other one (R116). -/
def State.hasWay (s : State) (k : Crane) : Prop :=
  s.wayClass k < s.wayClass (otherCrane k) ∨ (s.wayClass k = s.wayClass (otherCrane k)
    ∧ ((s.rail k).pendingSince < (s.rail (otherCrane k)).pendingSince
      ∨ ((s.rail k).pendingSince = (s.rail (otherCrane k)).pendingSince ∧ isWest k = true)))

theorem firstCrane_eq (s : State) (k : Crane) [Decidable (s.hasWay k)] :
    (if s.westFirst (aisleOf k) then westCrane (aisleOf k) else eastCrane (aisleOf k)) =
      if s.hasWay k then k else otherCrane k := by
  obtain ⟨hw, he⟩ := cranes_of_aisle k
  unfold State.westFirst
  rw [hw, he]
  cases hk : isWest k
  · have : (s.wayClass (otherCrane k) < s.wayClass k ∨ s.wayClass (otherCrane k) = s.wayClass k
        ∧ (s.rail (otherCrane k)).pendingSince ≤ (s.rail k).pendingSince) ↔ ¬ s.hasWay k := by
      simp only [State.hasWay, hk, Bool.false_eq_true, and_false, or_false]
      omega
    simp [this]
  · have : (s.wayClass k < s.wayClass (otherCrane k) ∨ s.wayClass k = s.wayClass (otherCrane k)
        ∧ (s.rail k).pendingSince ≤ (s.rail (otherCrane k)).pendingSince) ↔ s.hasWay k := by
      simp only [State.hasWay, hk, and_true]
      omega
    simp [this]

/-- With nothing pending on the other crane, the arbiter evaluates the one crane's pending grant. -/
theorem arbiter_alone (hother : (s.rail (otherCrane k)).pending = none)
    (hkept : ((evaluatePending k s).1.rail (otherCrane k)).pending = none) :
    arbiter (aisleOf k) s = (evaluatePending k s).1 := by
  classical
  unfold arbiter
  rw [firstCrane_eq]
  dsimp only
  by_cases h : s.hasWay k
  · rw [if_pos h, evaluatePending_none hkept, if_neg (by simp)]
  · rw [if_neg h, otherCrane_otherCrane, evaluatePending_none hother, if_neg (by simp)]

/-- With nothing pending in its aisle the arbiter does nothing. -/
theorem arbiterIfBack_idle (hk : (s.rail k).pending = none) (hother : (s.rail (otherCrane k)).pending = none) (old : Span) :
    arbiterIfBack k old s = s := by
  have harbiter : arbiter (aisleOf k) s = s := by
    have heval := evaluatePending_none hk
    rw [arbiter_alone hother (by rw [heval]; exact hother), heval]
  unfold arbiterIfBack
  rw [harbiter]
  exact ite_self s

/-- Two blocked pending grants: the crane without the right of way is given a yield step (R116). -/
theorem arbiter_mutual {a b : Travel} (hk : evaluatePending k s = (s, true)) (hother : evaluatePending (otherCrane k) s = (s, true))
    (ha : (s.rail k).pending = some a) (hb : (s.rail (otherCrane k)).pending = some b) :
    (s.hasWay k → arbiter (aisleOf k) s = placeYield (otherCrane k) (s.yieldTarget k (s.capped k a)) s)
    ∧ (¬ s.hasWay k → arbiter (aisleOf k) s =
        placeYield k (s.yieldTarget (otherCrane k) (s.capped (otherCrane k) b)) s) := by
  classical
  unfold arbiter
  rw [firstCrane_eq]
  dsimp only
  refine ⟨fun h => ?_, fun h => ?_⟩
  · simp only [if_pos h, hk, hother, Bool.and_self, if_true, firstCrane_eq, pendingNow_eq ha]
  · simp only [if_neg h, hk, hother, otherCrane_otherCrane, Bool.and_self, if_true, firstCrane_eq, pendingNow_eq hb]

/-- The target of a yield step, as the crane that yields sees it (R116). -/
theorem yieldTarget_loser (s : State) {winner loser : Crane} (h : otherCrane winner = loser) (t : Travel) :
    s.yieldTarget winner t =
      if isWest loser then max ((s.required winner t).west - (s.params.gap + s.params.halfLength)) s.params.tmin[loser]
      else min ((s.required winner t).east + (s.params.gap + s.params.halfLength)) s.params.tmax[loser] := by
  subst h
  unfold State.yieldTarget
  rw [isWest_otherCrane]
  cases isWest winner <;> rfl

/-- A yield step is placed on a crane (R82, R116): its pending grant is cleared and the target stands in its active task, or by
itself, with TASK_READY latched. -/
structure YieldPlaced (l : Crane) (y : Int) (s v : State) : Prop where
  rail : v.rail l = { s.rail l with pending := none }
  rails : ∀ j, j ≠ l → v.rail j = s.rail j
  standing : (s.crane l).active = none → v.crane l = { s.crane l with standingYield := some y } ∧ v.tasks = s.tasks
  task : ∀ id a, (s.crane l).active = some id → s.task? id = some a →
    v.task? id = some { a with yield := some y } ∧ (∀ j, j ≠ id → v.task? j = s.task? j) ∧ v.cranes = s.cranes
  crane : ∀ j, j ≠ l → v.crane j = s.crane j
  latched : (v.port (.k l)).latch.getLsbD NoticeK.taskReady.position = true
  frame : v = { s with rails := v.rails, tasks := v.tasks, cranes := v.cranes, portK := v.portK }

theorem placeYield_placed (l : Crane) (y : Int) (s : State) : YieldPlaced l y s (placeYield l y s) := by
  have hlatched (w : State) : ((latchK l .taskReady w).port (.k l)).latch.getLsbD NoticeK.taskReady.position = true := by
    rw [latchK_port, if_pos rfl, BitVec.getLsbD_or]
    exact Bool.or_eq_true_iff.mpr (.inr (by decide))
  set w := s.modRail l (fun r => { r with pending := none }) with hw
  have hself : w.rail l = { s.rail l with pending := none } := State.rail_modRail_self ..
  have hother (j : Crane) (hj : j ≠ l) : w.rail j = s.rail j := State.rail_modRail_other s (Ne.symm hj) _
  have hcrane (j : Crane) : w.crane j = s.crane j := State.crane_of_modRail ..
  have hplaced : placeYield l y s = latchK l .taskReady (match (w.crane l).active with
      | some id => w.modTask id (fun x => { x with yield := some y })
      | none => w.modCrane l (fun c => { c with standingYield := some y })) := rfl
  rw [hplaced, hcrane]
  obtain hidle | ⟨id, hactive⟩ := Option.eq_none_or_eq_some (s.crane l).active
  · rw [hidle]
    exact {
      rail := hself, rails := hother, latched := hlatched _, frame := rfl
      standing := fun _ => ⟨(latchK_crane ..).trans (State.crane_modCrane_self ..), rfl⟩
      task := fun id a h => nomatch hidle.symm.trans h
      crane := fun j hj => (latchK_crane ..).trans (State.crane_modCrane_other _ (Ne.symm hj) _) }
  · rw [hactive]
    dsimp only
    cases hx : s.task? id with
    | none =>
      have hmod : w.modTask id (fun x => { x with yield := some y }) = w := by
        unfold State.modTask
        rw [show w.task? id = none from hx]
      rw [hmod]
      exact {
        rail := hself, rails := hother, latched := hlatched _, frame := rfl, crane := fun j _ => hcrane j
        standing := fun h => nomatch hactive.symm.trans h
        task := fun i a hi ha => by
          obtain rfl := Option.some.inj (hactive.symm.trans hi)
          exact nomatch hx.symm.trans ha }
    | some x =>
      rw [State.modTask_eq (s := w) hx]
      exact {
        rail := hself, rails := hother, latched := hlatched _, frame := rfl, crane := fun j _ => hcrane j
        standing := fun h => nomatch hactive.symm.trans h
        task := fun i a hi ha => by
          obtain rfl := Option.some.inj (hactive.symm.trans hi)
          obtain rfl := Option.some.inj (hx.symm.trans ha)
          exact ⟨State.task?_setTask_self .., fun j hj => State.task?_setTask_other w hj _, rfl⟩ }

/-! ### The other crane's pending grant against a new reservation (R112 to R115) -/

/-- A stretch of the other crane keeps the gap from a reservation of crane k (R112). -/
def State.keepsGap (s : State) (k : Crane) (span sp : Span) : Prop :=
  if isWest k then span.east + s.params.gap ≤ sp.west else sp.east + s.params.gap ≤ span.west

/-- The furthest point that the other crane can be given toward a reservation of crane k (R113). -/
def State.furthest (s : State) (k : Crane) (span : Span) (v : Nat) : Int :=
  let reach : Int := s.params.gap + s.params.halfLength + (s.params.stopping v : Int)
  if isWest k then span.east + reach else span.west - reach

/-- Part of the other crane's request can be given: the furthest point lies ahead of it, keeps the gap, and lies beyond what it
holds (R113, R115). -/
def State.partFits (s : State) (k : Crane) (span : Span) (t : Travel) : Prop :=
  let o := otherCrane k
  let x := s.furthest k span t.speed
  s.keepsGap k span (s.required o ⟨x, t.speed⟩)
    ∧ (if isWest k then t.target < s.posMm o ∧ x < s.posMm o else s.posMm o < t.target ∧ s.posMm o < x)
    ∧ ∀ g, (s.rail o).granted = some g → if isWest k then x < g.target else g.target < x

theorem furtherIn_other_iff (k : Crane) (x y : Int) :
    furtherIn (otherCrane k) x y = true ↔ if isWest k then x < y else y < x := by
  rw [furtherIn_iff, isWest_otherCrane]
  cases isWest k <;> exact Iff.rfl

section
variable {span : Span} (hres : (f (s.rail k)).reservation = .calibrated span)
include hres

theorem fits_other_iff : (s.modRail k f).fits (otherCrane k) sp = true ↔ s.keepsGap k span sp := by
  unfold State.keepsGap
  rw [fits_iff, isWest_otherCrane, otherCrane_otherCrane, edges_modRail_self hres]
  cases isWest k <;> exact Iff.rfl

theorem clampPoint_other (v : Nat) : (s.modRail k f).clampPoint (otherCrane k) v = s.furthest k span v := by
  unfold State.clampPoint State.furthest
  rw [isWest_otherCrane, otherCrane_otherCrane, edges_modRail_self hres]
  cases isWest k <;> rfl

/-- A part is given and extends what the other crane holds exactly if part of its request fits. -/
theorem extends_other_iff : (∃ t', (s.modRail k f).clampedTravel (otherCrane k) t = some t'
    ∧ (s.modRail k f).extends (otherCrane k) t' = true) ↔ s.partFits k span t := by
  have hpoint := clampPoint_other hres t.speed
  constructor
  · rintro ⟨t', ht', hext⟩
    obtain ⟨rfl, htarget, hahead, hfit⟩ := clampedTravel_some ht'
    rw [hpoint] at hahead hfit hext
    rw [furtherIn_other_iff] at htarget hahead
    refine ⟨(fits_other_iff hres).mp hfit, ?_, fun g hg => ?_⟩
    · split <;> simp only [*, if_true, if_false, Bool.false_eq_true] at htarget hahead <;> exact ⟨htarget, hahead⟩
    · unfold State.extends at hext
      rw [rail_modRail_otherCrane, hg] at hext
      exact (furtherIn_other_iff ..).mp hext
  · rintro ⟨hfit, hahead, hfar⟩
    have hahead' : furtherIn (otherCrane k) t.target (s.posMm (otherCrane k)) = true
        ∧ furtherIn (otherCrane k) (s.furthest k span t.speed) (s.posMm (otherCrane k)) = true := by
      rw [furtherIn_other_iff, furtherIn_other_iff]
      split at hahead <;> simp_all
    refine ⟨⟨s.furthest k span t.speed, t.speed⟩, ?_, ?_⟩
    · have hgiven := clampedTravel_eq (s := s.modRail k f) (k := otherCrane k) (t := t) hahead'.1 (hpoint ▸ hahead'.2)
        (hpoint ▸ (fits_other_iff hres).mpr hfit)
      rw [hgiven, hpoint]
    · unfold State.extends
      rw [rail_modRail_otherCrane]
      cases hg : (s.rail (otherCrane k)).granted with
      | none => exact hahead'.2
      | some g => exact (furtherIn_other_iff ..).mpr (hfar g hg)

section
variable {b : Travel} (hin : s.InService (otherCrane k)) (hb : (s.rail (otherCrane k)).pending = some b) (hlow : 1 ≤ b.speed)
  (hhigh : b.speed ≤ 8191)
include hin hb hlow hhigh

theorem evaluatePending_other_whole (hfit : s.keepsGap k span (s.required (otherCrane k) (s.capped (otherCrane k) b)))
    (hinside : s.windowIn (otherCrane k) (s.required (otherCrane k) (s.capped (otherCrane k) b))) :
    evaluatePending (otherCrane k) (s.modRail k f) =
      ((s.modRail k f).extended (otherCrane k) (s.capped (otherCrane k) b) none, false) := by
  have hin' : (s.modRail k f).InService (otherCrane k) := hin.modRail_other (otherCrane_ne k)
  rw [evaluatePending_whole (by rw [rail_modRail_otherCrane, hb]) hin'.calibrated (hin'.grantRefusal hlow hhigh)
    ((fits_other_iff hres).mpr hfit)]
  exact congrArg (·, false) (extended_eq (s := s.modRail k f) (otherCrane k) _ none hinside)

variable (hfit : ¬ s.keepsGap k span (s.required (otherCrane k) (s.capped (otherCrane k) b)))
include hfit

theorem evaluatePending_other_part (hpart : s.partFits k span (s.capped (otherCrane k) b)) :
    let v := (s.capped (otherCrane k) b).speed
    let g : Travel := ⟨s.furthest k span v, v⟩
    s.windowIn (otherCrane k) (s.required (otherCrane k) g) →
      evaluatePending (otherCrane k) (s.modRail k f) = ((s.modRail k f).extended (otherCrane k) g (some b), false) := by
  have hin' : (s.modRail k f).InService (otherCrane k) := hin.modRail_other (otherCrane_ne k)
  obtain ⟨t', ht', hext⟩ := (extends_other_iff hres).mpr hpart
  have hgiven := (clampedTravel_some ht').1
  rw [clampPoint_other hres] at hgiven
  subst hgiven
  intro v g hinside
  rw [evaluatePending_clamped (by rw [rail_modRail_otherCrane, hb]) hin'.calibrated (hin'.grantRefusal hlow hhigh)
    (Bool.eq_false_iff.mpr fun h => hfit ((fits_other_iff hres).mp h)) ht', if_pos hext]
  exact congrArg (·, false) (extended_eq (s := s.modRail k f) (otherCrane k) g (some b) hinside)

theorem evaluatePending_other_blocked (hpart : ¬ s.partFits k span (s.capped (otherCrane k) b)) :
    evaluatePending (otherCrane k) (s.modRail k f) = (s.modRail k f, true) :=
  evaluatePending_inService (hin.modRail_other (otherCrane_ne k)) (by rw [rail_modRail_otherCrane, hb]) hlow hhigh
    (Bool.eq_false_iff.mpr fun h => hfit ((fits_other_iff hres).mp h))
    fun t' ht' => Bool.eq_false_iff.mpr fun hext => hpart ((extends_other_iff hres).mp ⟨t', ht', hext⟩)

end

end

end Sys2Proof.Machine
end

section
/-!
SUPPORT. GRANT of a calibrated crane (R110 to R113): what the judging leaves, what follows it and what is answered.
-/
namespace Sys2Proof.Machine

variable {s w : State} {k : Crane} {t t' asked : Travel} {sp : Span} {q : Request} {f : Rail → Rail}

/-! ### What the judging leaves (R112, R113) -/

/-- The clamps of R110 leave a speed within the class cap. -/
theorem capped_clampRequest (s : State) (k : Crane) (t : Travel) : s.capped k (s.clampRequest k t) = s.clampRequest k t := by
  unfold State.capped State.clampRequest State.speedLimit
  rw [Travel.mk.injEq]
  exact ⟨rfl, min_eq_left ((min_le_right ..).trans (min_le_right ..))⟩

theorem grantCalibrated_whole (hjudge : s.judge k t = .whole) :
    grantCalibrated k t s = armIfTravel k t (giveTravel k t none s) := by
  unfold grantCalibrated
  rw [hjudge]

/-- The rail record of a crane that has been given a part of its request, which stays pending (R113). -/
def State.clampedGrant (s : State) (k : Crane) (t t' : Travel) (r : Rail) : Rail :=
  { s.givenTravel k t' (some t) r with pendingSince := s.wingTime }

theorem grantCalibrated_clamped (hjudge : s.judge k t = .clamped t') :
    grantCalibrated k t s = s.modRail k (s.clampedGrant k t t') := by
  unfold grantCalibrated
  rw [hjudge]
  dsimp only
  rw [armIfTravel_eq, giveTravel, modRail_modRail, modRail_modRail]
  rfl

/-- A travel to another place arms the link timer. -/
theorem clampedGrant_moves (hmoves : t'.target ≠ s.posMm k) (r : Rail) : s.clampedGrant k t t' r = { r with
    reservation := .calibrated (s.required k t'), granted := some t', pending := some t, pendingSince := s.wingTime,
    linkArmed := true, linkLeft := if r.linkArmed = true then r.linkLeft else s.params.linkTime } := by
  unfold State.clampedGrant State.givenTravel
  cases harmed : r.linkArmed <;> simp [hmoves]

/-- The rail record of a crane whose GRANT is held (R113). -/
def Rail.held (sp : Span) (t : Travel) (time : Nat) (r : Rail) : Rail :=
  { r with reservation := .calibrated sp, granted := none, pending := some t, pendingSince := time }

theorem grantCalibrated_held (hjudge : s.judge k t = .held) :
    grantCalibrated k t s = s.modRail k (Rail.held (s.heldSpan k) t s.wingTime) := by
  unfold grantCalibrated
  rw [hjudge]
  rfl

/-! ### What follows the judging (R113, R115, R117) -/

theorem afterGrant_whole (hinside : s.windowIn k (s.required k t))
    (hback : innerMovedBack k (s.edges k) (s.required k t) = false) :
    afterGrant k (s.edges k) .whole (armIfTravel k t (giveTravel k t none s)) = armIfTravel k t (giveTravel k t none s) := by
  have hedges : (armIfTravel k t (giveTravel k t none s)).edges k = s.required k t := by
    rw [giveTravel_armed]
    exact edges_modRail_self rfl
  have hover : overrunCheck k (armIfTravel k t (giveTravel k t none s)) = armIfTravel k t (giveTravel k t none s) := by
    refine overrunCheck_of_windowIn fun _ => ?_
    rw [hedges, giveTravel_armed]
    exact hinside
  unfold afterGrant
  rw [hover]
  dsimp only
  rw [hedges, hback]
  rfl

/-- A pending grant that the judging made goes to the arbiter. -/
theorem afterGrant_pending {j : Judged} (hj : j ≠ .whole) (hres : (f (s.rail k)).reservation = .calibrated sp)
    (hinside : s.windowIn k sp) (old : Span) :
    afterGrant k old j (s.modRail k f) = arbiter (aisleOf k) (s.modRail k f) := by
  have hover : overrunCheck k (s.modRail k f) = s.modRail k f := by
    refine overrunCheck_of_windowIn fun _ => ?_
    rw [edges_modRail_self hres]
    exact hinside
  unfold afterGrant
  rw [hover]
  exact if_pos (.inl hj)

section
variable (hpending : (f (s.rail k)).pending = some (s.clampRequest k asked))
  (hfit : s.fits k (s.required k (s.clampRequest k asked)) = false)
  (hclamp : ∀ t', s.clampedTravel k (s.clampRequest k asked) = some t' → (f (s.rail k)).granted = some t')
include hpending hfit hclamp

/-- A pending grant that has just been made changes nothing when it is evaluated: what fits of it has been given. -/
theorem evaluatePending_new : evaluatePending k (s.modRail k f) = (s.modRail k f, (s.modRail k f).calibrated k
    && ((s.modRail k f).grantRefusal k (s.clampRequest k asked)).isNone) := by
  have hsame : (s.modRail k f).capped k (s.clampRequest k asked) = s.clampRequest k asked := capped_clampRequest ..
  refine evaluatePending_blocked (by rw [State.rail_modRail_self, hpending]) (by rw [hsame, fits_modRail]; exact hfit) ?_
  rw [hsame, clampedTravel_modRail]
  intro t' ht'
  unfold State.extends
  rw [State.rail_modRail_self, hclamp t' ht']
  cases hk : isWest k <;> simp [furtherIn, hk]

theorem arbiter_new (hother : (s.rail (otherCrane k)).pending = none) :
    arbiter (aisleOf k) (s.modRail k f) = s.modRail k f := by
  have hrest : ((s.modRail k f).rail (otherCrane k)).pending = none := by
    rw [rail_modRail_otherCrane]
    exact hother
  have heval := evaluatePending_new hpending hfit hclamp
  rw [arbiter_alone hrest (by rw [heval]; exact hrest), heval]

end

/-! ### The answer of a GRANT (R110, R113) -/

/-- The travel that a GRANT asks for (R110). -/
def Request.travel (q : Request) : Travel := ⟨signedAt q.body 0, wordAt q.body 4⟩

theorem grantBody_given {g : Travel} (h : (w.rail k).reservation = .calibrated sp) (hgiven : (w.rail k).granted = some g)
    (st : Status) : w.grantBody k st = put8 st.code ++ putPos g.target ++ put16 g.speed ++ putSpan sp ++ [0]
      ++ putTravel? (w.rail k).pending ++ putSpan (w.edges (otherCrane k)) := by
  unfold State.grantBody State.putReservation
  rw [edges_of_calibrated h, h, hgiven]
  simp [putTravel?, Reservation.code, put8]

theorem grantBody_held (h : (w.rail k).reservation = .calibrated sp) (hgiven : (w.rail k).granted = none) (st : Status) :
    w.grantBody k st = put8 st.code ++ putTravel? none ++ putSpan sp ++ [0] ++ putTravel? (w.rail k).pending
      ++ putSpan (w.edges (otherCrane k)) := by
  unfold State.grantBody State.putReservation
  rw [edges_of_calibrated h, h, hgiven]
  simp [Reservation.code, put8]

theorem answered_latch (s : State) (p p' : Port) (q : Request) (st : Status) (body : List Byte) :
    ((s.answered p q st body).port p').latch = (s.port p').latch := by
  by_cases h : p = p'
  · subst h
    rw [State.answered, State.port_modPort_self]
  · rw [State.answered, State.port_modPort_other s h]

theorem append_putTravel (a b : List Byte) (t : Travel) :
    a ++ putTravel? (some t) ++ b = a ++ putPos t.target ++ put16 t.speed ++ b := by
  simp [putTravel?]

section
variable (h : s.hasRequest (.k k) q) (hk : q.kind = .grant) (hin : s.InService k) (hlow : 1 ≤ q.travel.speed)
  (hhigh : q.travel.speed ≤ 8191) (hs : s.settled)
include h hk hin hlow hhigh

theorem execGrant_eq {j : Judged} {st : Status} (hjudge : s.judge k (s.clampRequest k q.travel) = j)
    (hst : judgedStatus (decide (s.clampRequest k q.travel ≠ q.travel)) j = st)
    (hw : afterGrant k (s.edges k) j (grantCalibrated k (s.clampRequest k q.travel) s) = w) (hsettled : w.settled) :
    exec (.grant k) s = .next (w.answered (.k k) q st (w.grantBody k st)) := by
  subst hjudge hst
  refine congrArg Host.Outcome.next (take_eq_answered h hk rfl ?_)
  have hallowed : s.grantRefusal k ⟨signedAt q.body 0, wordAt q.body 4⟩ = none := hin.grantRefusal hlow hhigh
  rw [← settle_of_settled hsettled, ← hw]
  unfold serveGrant
  dsimp only
  rw [hallowed]
  dsimp only
  rw [if_pos hin.calibrated]
  rfl

include hs

/-- GRANT of a travel that fits whole, after which the inner edge has not moved back (R112, R118). -/
theorem execGrant_whole (hfit : s.fits k (s.required k (s.clampRequest k q.travel)) = true)
    (hinside : s.windowIn k (s.required k (s.clampRequest k q.travel)))
    (hback : innerMovedBack k (s.edges k) (s.required k (s.clampRequest k q.travel)) = false) :
    let t := s.clampRequest k q.travel
    let st : Status := if t = q.travel then .ok else .clamped
    exec (.grant k) s = .next ((s.modRail k (s.givenTravel k t none)).answered (.k k) q st
      (put8 st.code ++ putPos t.target ++ put16 t.speed ++ putSpan (s.required k t) ++ [0] ++ putTravel? none
        ++ putSpan (s.edges (otherCrane k)))) := by
  intro t st
  have hjudge : s.judge k t = .whole := judge_whole hfit
  have hst : judgedStatus (decide (t ≠ q.travel)) .whole = st := by
    by_cases heq : t = q.travel <;> simp [judgedStatus, st, heq]
  have hleft : afterGrant k (s.edges k) .whole (grantCalibrated k t s) = s.modRail k (s.givenTravel k t none) := by
    rw [grantCalibrated_whole hjudge, afterGrant_whole hinside hback, giveTravel_armed]
  rw [execGrant_eq h hk hin hlow hhigh hjudge hst hleft hs,
    grantBody_given (sp := s.required k t) (g := t) (by rw [State.rail_modRail_self]; rfl) (by rw [State.rail_modRail_self]; rfl),
    State.rail_modRail_self, edges_modRail_other (otherCrane_ne k)]
  rfl

/-- GRANT clamped to the furthest point that fits (R113). -/
theorem execGrant_clamped (hother : (s.rail (otherCrane k)).pending = none)
    (hfit : s.fits k (s.required k (s.clampRequest k q.travel)) = false)
    (hclamp : s.clampedTravel k (s.clampRequest k q.travel) = some t') (hmoves : t'.target ≠ s.posMm k)
    (hinside : s.windowIn k (s.required k t')) :
    let t := s.clampRequest k q.travel
    exec (.grant k) s = .next ((s.modRail k (fun r => { r with
        reservation := .calibrated (s.required k t'), granted := some t', pending := some t, pendingSince := s.wingTime,
        linkArmed := true, linkLeft := if r.linkArmed = true then r.linkLeft else s.params.linkTime })).answered (.k k) q .clamped
      (put8 Status.clamped.code ++ putPos t'.target ++ put16 t'.speed ++ putSpan (s.required k t') ++ [0]
        ++ putPos t.target ++ put16 t.speed ++ putSpan (s.edges (otherCrane k)))) := by
  intro t
  have hjudge := judge_clamped hfit hclamp
  have hleft : afterGrant k (s.edges k) (.clamped t') (grantCalibrated k (s.clampRequest k q.travel) s) =
      s.modRail k (s.clampedGrant k (s.clampRequest k q.travel) t') := by
    rw [grantCalibrated_clamped hjudge,
      afterGrant_pending (f := s.clampedGrant k (s.clampRequest k q.travel) t') (by simp) rfl hinside,
      arbiter_new rfl hfit (fun _ ht => hclamp.symm.trans ht) hother]
  rw [execGrant_eq (st := .clamped) h hk hin hlow hhigh hjudge rfl hleft hs,
    grantBody_given (sp := s.required k t') (g := t') (by rw [State.rail_modRail_self]; rfl) (by rw [State.rail_modRail_self]; rfl),
    edges_modRail_other (otherCrane_ne k), State.rail_modRail_self,
    show (s.clampedGrant k t t' (s.rail k)).pending = some t from rfl, append_putTravel, funext (clampedGrant_moves (t := t) hmoves)]

section
variable (hfit : s.fits k (s.required k (s.clampRequest k q.travel)) = false)
  (hclamp : s.clampedTravel k (s.clampRequest k q.travel) = none) (hinside : s.windowIn k (s.heldSpan k))
include hfit hclamp hinside

/-- GRANT that is held, the other crane waiting for nothing (R113). -/
theorem execGrant_held (hother : (s.rail (otherCrane k)).pending = none) :
    let t := s.clampRequest k q.travel
    exec (.grant k) s = .next ((s.modRail k (Rail.held (s.heldSpan k) t s.wingTime)).answered (.k k) q .held
      (put8 Status.held.code ++ putTravel? none ++ putSpan (s.heldSpan k) ++ [0] ++ putPos t.target ++ put16 t.speed
        ++ putSpan (s.edges (otherCrane k)))) := by
  intro t
  have hjudge := judge_held hfit hclamp
  have hleft : afterGrant k (s.edges k) .held (grantCalibrated k (s.clampRequest k q.travel) s) =
      s.modRail k (Rail.held (s.heldSpan k) (s.clampRequest k q.travel) s.wingTime) := by
    rw [grantCalibrated_held hjudge,
      afterGrant_pending (f := Rail.held (s.heldSpan k) (s.clampRequest k q.travel) s.wingTime) (by simp) rfl hinside,
      arbiter_new rfl hfit (by rw [hclamp]; exact nofun) hother]
  rw [execGrant_eq (st := .held) h hk hin hlow hhigh hjudge rfl hleft hs,
    grantBody_held (sp := s.heldSpan k) (by rw [State.rail_modRail_self]; rfl) (by rw [State.rail_modRail_self]; rfl),
    edges_modRail_other (otherCrane_ne k), State.rail_modRail_self,
    show (Rail.held (s.heldSpan k) t s.wingTime (s.rail k)).pending = some t from rfl, append_putTravel]

/-- GRANT that is held while the other crane's pending grant is blocked against the new reservation: the crane without the
right of way is given a yield step (R115, R116). -/
theorem execGrant_mutual {b : Travel} (hspeed : 1 ≤ (s.clampRequest k q.travel).speed)
    (hb : (s.rail (otherCrane k)).pending = some b)
    (hother : let u := s.modRail k (Rail.held (s.heldSpan k) (s.clampRequest k q.travel) s.wingTime)
      evaluatePending (otherCrane k) u = (u, true)) :
    let u := s.modRail k (Rail.held (s.heldSpan k) (s.clampRequest k q.travel) s.wingTime)
    ∃ v body, exec (.grant k) s = .next (v.answered (.k k) q .held body)
      ∧ (u.hasWay k → YieldPlaced (otherCrane k) (s.yieldTarget k (s.clampRequest k q.travel)) u v)
      ∧ (¬ u.hasWay k → YieldPlaced k (s.yieldTarget (otherCrane k) (s.capped (otherCrane k) b)) u v) := by
  intro u
  set t := s.clampRequest k q.travel with ht
  have hjudge := judge_held hfit hclamp
  have hblocked : evaluatePending k u = (u, true) := by
    have hin' : u.InService k := hin.modRail_self rfl rfl
    have hhigh' : t.speed ≤ 8191 := (min_le_left ..).trans hhigh
    rw [show evaluatePending k u = _ from evaluatePending_new (f := Rail.held (s.heldSpan k) t s.wingTime) rfl hfit
      (by rw [hclamp]; exact nofun)]
    show (u, u.calibrated k && (u.grantRefusal k t).isNone) = (u, true)
    rw [hin'.calibrated, hin'.grantRefusal hspeed hhigh']
    rfl
  have ha : (u.rail k).pending = some t := congrArg Rail.pending (State.rail_modRail_self s k _)
  have hb' : (u.rail (otherCrane k)).pending = some b := by
    rw [rail_modRail_otherCrane]
    exact hb
  obtain ⟨hwins, hloses⟩ := arbiter_mutual hblocked hother ha hb'
  have hleft : afterGrant k (s.edges k) .held (grantCalibrated k t s) = arbiter (aisleOf k) u := by
    rw [grantCalibrated_held hjudge,
      afterGrant_pending (f := Rail.held (s.heldSpan k) t s.wingTime) (by simp) rfl hinside]
  have hsame : u.capped k t = t := capped_clampRequest ..
  have hsettled (l : Crane) (y : Int) : (placeYield l y u).settled := by
    rw [(placeYield_placed l y u).frame]
    exact hs
  by_cases hway : u.hasWay k
  · rw [hwins hway, hsame] at hleft
    exact ⟨_, _, execGrant_eq h hk hin hlow hhigh hjudge rfl hleft (hsettled _ _),
      fun _ => placeYield_placed .., fun hn => absurd hway hn⟩
  · rw [hloses hway] at hleft
    exact ⟨_, _, execGrant_eq h hk hin hlow hhigh hjudge rfl hleft (hsettled _ _),
      fun hn => absurd hn hway, fun _ => placeYield_placed ..⟩

end

end

end Sys2Proof.Machine
end

section
open Sys2Proof Sys2Proof.Machine

/-- Settles O35: the judging of the clamped request gives the travel whole, in part or not at all; what it leaves pending goes
to the arbiter, which changes nothing while the other crane waits for nothing, and gives a yield step where both are blocked. -/
theorem grantOfACalibratedCrane : Obligations.GrantOfACalibratedCrane := by
  unfold Obligations.GrantOfACalibratedCrane
  refine ⟨?whole, ?part, ?held, ?way⟩
  case whole =>
    intro s k q h hk hs v hlow hhigh hready hhold hfire hcal asked t p e stretch required other hfit hinside hinner st
    have hback : innerMovedBack k (s.edges k) required = false := by
      unfold innerMovedBack
      split at hinner <;> simp_all
    exact execGrant_whole h hk ⟨hready, hhold, hfire, hcal⟩ hlow hhigh hs (fits_iff.mpr hfit) hinside hback
  case part =>
    intro s k q h hk hs v hlow hhigh hready hhold hfire hcal hother t other reach x given span hfit hgiven hahead hinside
    have hahead' : furtherIn k t.target (s.posMm k) = true ∧ furtherIn k x (s.posMm k) = true := by
      rw [furtherIn_iff, furtherIn_iff]
      split at hahead <;> simp_all
    have hmoves : x ≠ s.posMm k := by
      split at hahead <;> omega
    exact execGrant_clamped h hk ⟨hready, hhold, hfire, hcal⟩ hlow hhigh hs hother hfit
      (clampedTravel_eq hahead'.1 hahead'.2 hgiven) hmoves hinside
  case held =>
    intro s k q h hk hs v hlow hhigh hready hhold hfire hcal hother t e span other reach x hfit hstay hinside
    exact execGrant_held h hk ⟨hready, hhold, hfire, hcal⟩ hlow hhigh hs hfit (clampedTravel_none hstay) hinside hother
  case way =>
    intro s k q b h hk hs v o hlow hhigh hready hhold hfire hcal hready' hhold' hcal' hb hblow hbhigh t bt e span reach x y hfit
      hstay hspeed hinside keeps hbfit hbstay cls wins loses held
    have hin : s.InService k := ⟨hready, hhold, hfire, hcal⟩
    have hin' : s.InService o := ⟨hready', hhold', by rw [aisleOf_otherCrane]; exact hfire, hcal'⟩
    set u := s.modRail k (Rail.held span t s.wingTime) with hu
    have hrail : u.rail k = held := State.rail_modRail_self ..
    have hrail' (j : Crane) (hj : j ≠ k) : u.rail j = s.rail j := State.rail_modRail_other s (Ne.symm hj) _
    have hpart : ¬ s.partFits k span bt := by
      rintro ⟨hfits, hahead, hfar⟩
      change if isWest k then bt.target < s.posMm o ∧ y < s.posMm o else s.posMm o < bt.target ∧ s.posMm o < y at hahead
      change ∀ g, (s.rail o).granted = some g → if isWest k then y < g.target else g.target < y at hfar
      rcases hbstay with hover | hbehind | ⟨g, hg, hnear⟩
      · exact hover hfits
      · split at hbehind <;> simp only [*, if_true, if_false, Bool.false_eq_true] at hahead <;> omega
      · have := hfar g hg
        split at hnear <;> simp only [*, if_true, if_false, Bool.false_eq_true] at this <;> omega
    have hblocked : evaluatePending o u = (u, true) :=
      evaluatePending_other_blocked rfl hin' hb hblow hbhigh hbfit hpart
    have hway : u.hasWay k ↔ wins := by
      unfold State.hasWay
      rw [hrail, hrail' _ (otherCrane_ne k)]
      exact Iff.rfl
    have hloser (l : Crane) {winner : Crane} {a : Travel} {w : State} (body : List Byte) (hl : otherCrane winner = l)
        (hplaced : YieldPlaced l (s.yieldTarget winner a) u w) :
        loses l (s.required winner a) (w.answered (.k k) q .held body) := by
      rw [yieldTarget_loser s hl] at hplaced
      exact ⟨hplaced.standing, hplaced.task, hplaced.crane, by rw [answered_latch]; exact hplaced.latched⟩
    have hframe {l : Crane} {yield : Int} {w : State} (body : List Byte) (hplaced : YieldPlaced l yield u w) :
        w.answered (.k k) q .held body = { s with
          rails := w.rails, tasks := w.tasks, cranes := w.cranes, portK := (w.answered (.k k) q .held body).portK } := by
      conv_lhs => rw [hplaced.frame]
      rfl
    obtain ⟨w, body, hexec, hwins, hloses⟩ := execGrant_mutual h hk hin hlow hhigh hs hfit (clampedTravel_none hstay) hinside
      hspeed hb hblocked
    refine ⟨_, hexec, ?_⟩
    by_cases hw : wins
    · have hplaced : YieldPlaced o (s.yieldTarget k t) u w := hwins (hway.mpr hw)
      exact ⟨fun j hj hjo => (hplaced.rails j hjo).trans (hrail' j hj),
        fun _ => ⟨(hplaced.rails k (otherCrane_ne k).symm).trans hrail,
          hplaced.rail.trans (by rw [hrail' o (otherCrane_ne k)]), hloser o body rfl hplaced⟩,
        fun hn => absurd hw hn, hframe body hplaced⟩
    · have hplaced : YieldPlaced k (s.yieldTarget o bt) u w := hloses fun h => hw (hway.mp h)
      exact ⟨fun j hj _ => (hplaced.rails j hj).trans (hrail' j hj), fun h => absurd h hw,
        fun _ => ⟨hplaced.rail.trans (by rw [hrail]), (hplaced.rails o (otherCrane_ne k)).trans (hrail' o (otherCrane_ne k)),
          hloser k body (otherCrane_otherCrane k) hplaced⟩,
        hframe body hplaced⟩

end

section
/-!
SUPPORT. ARRIVED (R115): the trim, the hand-over to the task unit and the fire sequencer, and what the arbiter does with the other
crane's pending grant.
-/
namespace Sys2Proof.Machine

variable {s w : State} {k : Crane} {t : Travel} {x : Task} {id : Nat} {sp : Span} {q : Request} {f : Rail → Rail}

/-! ### The trim (R115, step 2) -/

/-- The reservation form of a crane in service is that of its channel (R108). -/
theorem reservation_of_formLaw (h : s.formLaw) (hstate : (s.rail k).state = .ready ∨ (s.rail k).state = .unhomed) :
    (s.calibrated k = true → ∃ sp, (s.rail k).reservation = .calibrated sp)
    ∧ (s.calibrated k = false → ∃ x, (s.rail k).reservation = .homeSide x) := by
  have hform := h k
  cases hres : (s.rail k).reservation with
  | calibrated sp => exact ⟨fun _ => ⟨sp, rfl⟩, fun hcal => by simp [hres, hcal] at hform⟩
  | homeSide x => exact ⟨fun hcal => by rcases hstate with h | h <;> simp [hres, hcal, h] at hform, fun _ => ⟨x, rfl⟩⟩
  | frozen sp => rcases hstate with h | h <;> simp [hres, h] at hform

/-- The rail record of a crane that is trimmed to a stretch (R115). -/
def Rail.trimmed (sp : Span) (r : Rail) : Rail := { r with granted := none, reservation := .calibrated sp }

theorem trimReservation_calibrated (h : (s.rail k).reservation = .calibrated sp) : trimReservation k s =
    s.modRail k (Rail.trimmed ((s.stationaryEnvelope k).noCloserThan k sp)) := by
  unfold trimReservation
  refine modRail_congr ?_
  rw [h]
  rfl

theorem trimReservation_homeSide {limit : Int} (h : (s.rail k).reservation = .homeSide limit) : trimReservation k s =
    s.modRail k (fun r => { r with granted := none }) := by
  unfold trimReservation
  refine modRail_congr ?_
  rw [h]

/-! ### The hand-over (R115, step 3) -/

theorem activeTask_eq (ha : (s.crane k).active = some id) (hx : s.task? id = some x) : s.activeTask k = some (id, x) := by
  unfold State.activeTask
  rw [ha, Option.bind_some, hx]
  rfl

theorem activeTask_none (ha : (s.crane k).active = none) : s.activeTask k = none := by
  unfold State.activeTask
  rw [ha]
  rfl

theorem yieldDone_of_none (h : s.standingTarget k = none) : s.yieldDone k = false := by
  unfold State.yieldDone
  rw [h]

/-- With no yield target standing, a HOME completes or a PARK is over, or nothing is handed over. -/
theorem handOver_noYield (hyield : s.standingTarget k = none) : handOver k s =
    if s.homeDone k then completeHome k s
    else if s.parkDone k then changeRail k (fun r => { r with state := .parked }) s else s := by
  unfold handOver
  rw [yieldDone_of_none hyield]
  rfl

section
variable (ha : (s.crane k).active = none) (hyield : (s.crane k).standingYield = none)
include ha hyield

theorem standingTarget_idle : s.standingTarget k = none := by
  unfold State.standingTarget
  rw [activeTask_none ha]
  exact hyield

/-- A crane with no active task and no standing yield hands nothing over. -/
theorem handOver_idle : s.homeDone k = false ∧ handOver k s = s := by
  have hhome : s.homeDone k = false := by
    unfold State.homeDone
    rw [activeTask_none ha]
  have hpark : s.parkDone k = false := by
    unfold State.parkDone State.parkActive
    rw [ha]
    rfl
  rw [handOver_noYield (standingTarget_idle ha hyield), hhome, hpark]
  exact ⟨rfl, rfl⟩

end

section
variable (ha : (s.crane k).active = some id) (hx : s.task? id = some x)
include ha hx

theorem standingTarget_active : s.standingTarget k = x.yield := by
  unfold State.standingTarget
  rw [activeTask_eq ha hx]

theorem homeDone_active : s.homeDone k = (decide (x.kind = .home) && s.calibrated k) := by
  unfold State.homeDone
  rw [activeTask_eq ha hx]

theorem parkActive_active : s.parkActive k = decide (x.kind = .park) := by
  unfold State.parkActive
  rw [ha, Option.bind_some, hx, Option.map_some]
  simp

end

/-! ### The change of a crane's state (R106, R107) -/

/-- A change that leaves the STOP line as it was latches no STOP. -/
theorem modRailStop_same (h : (f (s.rail k)).stops = (s.rail k).stops) : modRailStop k f s = s.modRail k f := by
  unfold modRailStop
  dsimp only
  rw [State.rail_modRail_self, h]
  cases (s.rail k).stops <;> rfl

theorem readyIfNewlyEligible_busy {old : State} (h : (s.crane k).active.isSome = true ∨ (s.crane k).queue = []) :
    readyIfNewlyEligible k old s = s := by
  unfold readyIfNewlyEligible
  refine if_neg ?_
  rcases h with h | h
  · simp [Option.isNone_eq_false_iff.mpr h]
  · simp [h]

theorem changeRail_homed (h : (s.rail k).state = .unhomed) (hq : (s.crane k).queue = []) :
    changeRail k (fun r => { r with state := .ready }) s = markDue k (s.modRail k (fun r => { r with state := .ready })) := by
  unfold changeRail
  rw [modRailStop_same (by simp [Rail.stops, h])]
  dsimp only
  rw [State.rail_modRail_self, if_pos (by simp [h])]
  exact readyIfNewlyEligible_busy (.inr (by rw [markDue_crane, State.crane_of_modRail, hq]))

theorem changeRail_parked (h : (s.rail k).state = .ready ∨ (s.rail k).state = .unhomed) (ha : (s.crane k).active = some id) :
    changeRail k (fun r => { r with state := .parked }) s = s.modRail k (fun r => { r with state := .parked }) := by
  unfold changeRail
  rw [modRailStop_same (by rcases h with h | h <;> simp [Rail.stops, h])]
  dsimp only
  rw [State.rail_modRail_self, if_neg (by simp)]
  refine readyIfNewlyEligible_busy (.inl ?_)
  rw [State.crane_of_modRail, ha]
  rfl

/-! ### The completion of a HOME (R81) -/

/-- A completed HOME: the task has left its entry and its crane, which is READY and has taken the test that it owed. -/
structure Homes (s u : State) (k : Crane) (id : Nat) : Prop where
  task : ∀ j, u.task? j = if j = id then none else s.task? j
  active : (u.crane k).active = none
  completed : (u.crane k).lastCompleted = some (id, .home)
  rails : u.rails = (s.modRail k (fun r => { r with state := .ready })).rails
  frame : u = { s with rails := u.rails, tasks := u.tasks, cranes := u.cranes }

theorem completeHome_eq (ha : (s.crane k).active = some id) (hx : s.task? id = some x) (hk : x.crane = k)
    (hq : (s.crane k).queue = []) (hstack : (s.crane k).stack = []) (hstate : (s.rail k).state = .unhomed) :
    ∃ u, Completes s u k id { s.crane k with active := none, lastCompleted := some (id, x.kind) }
      ∧ completeHome k s = markDue k (u.modRail k (fun r => { r with state := .ready })) := by
  have hdone := completeTask_active hx hk ha (by simp [hq]) hstack
  refine ⟨completeTask id s, hdone, ?_⟩
  have hrail : (completeTask id s).rail k = s.rail k := by
    rw [hdone.frame]
    rfl
  unfold completeHome
  rw [ha]
  dsimp only
  rw [hrail, if_pos hstate, changeRail_homed (by rw [hrail, hstate]) (by rw [hdone.crane]; exact hq)]

/-- A crane that completes its HOME has nothing queued, so that the test it owes finds no preemption due. -/
theorem settle_homed (hs : s.settled) {u : State}
    (hdone : Completes s u k id { s.crane k with active := none, lastCompleted := some (id, .home) })
    (hq : (s.crane k).queue = []) :
    Homes s (settle (markDue k (u.modRail k (fun r => { r with state := .ready })))) k id := by
  obtain ⟨htask, hcrane, -, hframe⟩ := hdone
  generalize u.tasks = tasks, u.cranes = cranes at hframe
  subst hframe
  set v := State.modRail { s with tasks := tasks, cranes := cranes, due := s.due.set k true } k
    (fun r => { r with state := .ready }) with hv
  replace hcrane : v.crane k = { s.crane k with active := none, lastCompleted := some (id, .home) } := hcrane
  have howes : (markDue k v).owesOnly k := owesOnly_of_due hs (Vector.set_set ..)
  have hcalm : (markDue k v).calm k := .inl (by rw [markDue_crane, hcrane]; exact hq)
  have hundue := State.undue_eq hs
  rw [settle_calm howes hcalm]
  have hself : ((markDue k v).undue.modCrane k (fun c => { c with roomRefusal := false })).crane k =
      { v.crane k with roomRefusal := false } := State.crane_modCrane_self ..
  exact {
    task := htask
    active := by rw [hself, hcrane]
    completed := by rw [hself, hcrane]
    rails := rfl
    frame := by
      conv_rhs => rw [← hundue]
      rfl }

/-! ### What ARRIVED does and answers (R115) -/

theorem putReservation_calibrated (h : (s.rail k).reservation = .calibrated sp) : s.putReservation k = putSpan sp ++ [0] := by
  unfold State.putReservation
  rw [edges_of_calibrated h, h]
  rfl

theorem putReservation_same {v : State} (h : (v.rail k).reservation = (s.rail k).reservation) (hp : v.params = s.params) :
    v.putReservation k = s.putReservation k := by
  unfold State.putReservation State.edges
  rw [h, hp]

theorem execArrived_eq (h : s.hasRequest (.k k) q) (hk : q.kind = .arrived)
    (hstate : (s.rail k).state = .ready ∨ (s.rail k).state = .unhomed) (hspeed : (s.channel k).speed = 0)
    (hw : settle (arbiterIfBack k (s.edges k) (overrunCheck k (handOver k (trimReservation k s)))) = w) :
    exec (.arrived k) s = .next (w.answered (.k k) q .ok (putPos (w.posMm k) ++ w.putReservation k
      ++ putFlag ((trimReservation k s).homeDone k) ++ putFlag ((trimReservation k s).yieldDone k))) := by
  subst hw
  refine congrArg Host.Outcome.next (take_eq_answered h hk rfl ?_)
  unfold serveArrived
  rcases hstate with hstate | hstate <;> rw [hstate] <;> dsimp only <;> rw [if_neg (by simpa using hspeed)]

/-- The arbiter evaluates the other crane's pending grant while nothing is pending on this one (R115). -/
theorem arbiter_other (hk : (s.rail k).pending = none) {b : Bool} (heval : evaluatePending (otherCrane k) s = (w, b))
    (hkept : (w.rail k).pending = none) : arbiter (aisleOf k) s = w := by
  have halone := arbiter_alone (s := s) (k := otherCrane k) (by rw [otherCrane_otherCrane]; exact hk)
    (by rw [otherCrane_otherCrane, heval]; exact hkept)
  rw [aisleOf_otherCrane, heval] at halone
  exact halone

/-! ### ARRIVED in an aisle with nothing pending (R81, R112, R129) -/

/-- The trimmed reservation of a calibrated crane: its stationary envelope, the inner edge no closer than it was (R115). -/
def State.trimmedSpan (s : State) (k : Crane) : Span := (s.stationaryEnvelope k).noCloserThan k (s.edges k)

/-- The rail record of a crane after the trim (R115). -/
def State.trimmedRail (s : State) (k : Crane) (r : Rail) : Rail :=
  { r with granted := none, reservation := if s.calibrated k then .calibrated (s.trimmedSpan k) else r.reservation }

/-- The body of a response to ARRIVED that completes no yield step (R115). -/
def State.arrivedBody (s : State) (k : Crane) (home : Byte) : List Byte :=
  putPos (s.posMm k) ++ (if s.calibrated k then putSpan (s.trimmedSpan k) ++ [0] else s.putReservation k) ++ [home, 0]

theorem trimReservation_eq (hform : s.formLaw) (hstate : (s.rail k).state = .ready ∨ (s.rail k).state = .unhomed) :
    trimReservation k s = s.modRail k (s.trimmedRail k) := by
  obtain ⟨hspan, hlimit⟩ := reservation_of_formLaw hform hstate
  unfold State.trimmedRail State.trimmedSpan
  cases hcal : s.calibrated k with
  | false =>
    obtain ⟨x, hx⟩ := hlimit hcal
    rw [trimReservation_homeSide hx]
    rfl
  | true =>
    obtain ⟨sp, hsp⟩ := hspan hcal
    rw [trimReservation_calibrated hsp, edges_of_calibrated hsp]
    rfl

/-- A state that the hand-over of a trimmed crane leaves: the reservation is the trimmed one, and nothing is pending in the
aisle. -/
structure HandedOver (s u : State) (k : Crane) : Prop where
  reservation : (u.rail k).reservation = (s.trimmedRail k (s.rail k)).reservation
  free : (u.rail k).pending = none ∧ (u.rail (otherCrane k)).pending = none
  channels : u.channels = s.channels
  params : u.params = s.params

theorem handedOver_trimmed (hk : (s.rail k).pending = none) (hother : (s.rail (otherCrane k)).pending = none) :
    HandedOver s (s.modRail k (s.trimmedRail k)) k where
  reservation := by rw [State.rail_modRail_self]
  free := ⟨by rw [State.rail_modRail_self]; exact hk, by rw [rail_modRail_otherCrane]; exact hother⟩
  channels := rfl
  params := rfl

theorem HandedOver.settle {u : State} (h : HandedOver s u k) : HandedOver s (settle u) k where
  reservation := by rw [(settle_frame u).rail, h.reservation]
  free := by rw [(settle_frame u).rail, (settle_frame u).rail]; exact h.free
  channels := (settle_frame u).channels.trans h.channels
  params := (settle_frame u).params.trans h.params

/-- A change of the crane's state alone. -/
theorem HandedOver.of_state {u v : State} {c : CraneState} (h : HandedOver s u k) (hrails : v.rails = (u.modRail k (fun r =>
    { r with state := c })).rails) (hchannels : v.channels = u.channels) (hparams : v.params = u.params) : HandedOver s v k := by
  have hrail (j : Crane) : v.rail j = (u.modRail k (fun r => { r with state := c })).rail j := by
    unfold State.rail
    rw [hrails]
  exact {
    reservation := by rw [hrail, State.rail_modRail_self]; exact h.reservation
    free := ⟨by rw [hrail, State.rail_modRail_self]; exact h.free.1, by rw [hrail, rail_modRail_otherCrane]; exact h.free.2⟩
    channels := hchannels.trans h.channels
    params := hparams.trans h.params }

theorem HandedOver.calibrated {u : State} (h : HandedOver s u k) : u.calibrated k = s.calibrated k := by
  unfold State.calibrated State.channel
  rw [h.channels]

theorem HandedOver.posMm {u : State} (h : HandedOver s u k) : u.posMm k = s.posMm k := by
  unfold State.posMm State.channel
  rw [h.channels, h.params]

theorem HandedOver.putReservation {u : State} (h : HandedOver s u k) : u.putReservation k =
    if s.calibrated k then putSpan (s.trimmedSpan k) ++ [0] else s.putReservation k := by
  have hres := h.reservation
  unfold State.trimmedRail at hres
  split
  · next hcal => exact putReservation_calibrated (hres.trans (if_pos hcal))
  · next hcal => exact putReservation_same (hres.trans (if_neg hcal)) h.params

/-- What follows the hand-over of a trimmed crane changes nothing, and only the tests that are owed remain (R115, R117). -/
theorem HandedOver.follows {u : State} (h : HandedOver s u k)
    (hinside : s.calibrated k = true → s.windowIn k (s.trimmedSpan k)) (old : Span) :
    arbiterIfBack k old (overrunCheck k u) = u := by
  rw [overrunCheck_of_windowIn, arbiterIfBack_idle h.free.1 h.free.2]
  intro hcal
  rw [h.calibrated] at hcal
  have hres : (u.rail k).reservation = .calibrated (s.trimmedSpan k) := h.reservation.trans (if_pos hcal)
  rw [edges_of_calibrated hres]
  unfold State.windowIn State.channel
  rw [h.channels]
  exact hinside hcal

theorem execArrived_quiet (h : s.hasRequest (.k k) q) (hk : q.kind = .arrived) (hform : s.formLaw)
    (hstate : (s.rail k).state = .ready ∨ (s.rail k).state = .unhomed) (hspeed : (s.channel k).speed = 0)
    (hinside : s.calibrated k = true → s.windowIn k (s.trimmedSpan k))
    (hyield : (s.modRail k (s.trimmedRail k)).standingTarget k = none) {home : Bool}
    (hhome : (s.modRail k (s.trimmedRail k)).homeDone k = home) {u : State}
    (hgiven : handOver k (s.modRail k (s.trimmedRail k)) = u) (hu : HandedOver s u k) :
    exec (.arrived k) s = .next ((settle u).answered (.k k) q .ok (s.arrivedBody k (if home then 1 else 0))) := by
  have htrim := trimReservation_eq hform hstate
  rw [execArrived_eq h hk hstate hspeed (by rw [htrim, hgiven, hu.follows hinside]), htrim, hhome, yieldDone_of_none hyield,
    hu.settle.posMm, hu.settle.putReservation]
  unfold State.arrivedBody
  cases home <;> simp [putFlag, put8]

/-! ### ARRIVED that lets the other crane go on (R114, R115) -/

/-- ARRIVED of a crane with nothing to hand over, whose inner edge has moved back: the other crane's pending grant is evaluated
against the trimmed reservation. -/
theorem execArrived_back (h : s.hasRequest (.k k) q) (hk : q.kind = .arrived) (hready : (s.rail k).state = .ready)
    (hspeed : (s.channel k).speed = 0) (hres : (s.rail k).reservation = .calibrated sp) (hpending : (s.rail k).pending = none)
    (ha : (s.crane k).active = none) (hyield : (s.crane k).standingYield = none)
    (hinside : s.windowIn k (s.stationaryEnvelope k)) (hback : innerMovedBack k sp (s.stationaryEnvelope k) = true)
    {u : State} (hu : s.modRail k (Rail.trimmed (s.stationaryEnvelope k)) = u)
    {b : Bool} (heval : evaluatePending (otherCrane k) u = (w, b)) (hkept : w.rail k = u.rail k)
    (hpos : w.posMm k = s.posMm k) (hw : w.settled) :
    exec (.arrived k) s = .next (w.answered (.k k) q .ok
      (putPos (s.posMm k) ++ putSpan (s.stationaryEnvelope k) ++ [0, 0, 0])) := by
  have hself : u.rail k = (s.rail k).trimmed (s.stationaryEnvelope k) := by
    rw [← hu]
    exact State.rail_modRail_self ..
  have hcrane : u.crane k = s.crane k := by
    rw [← hu]
    exact State.crane_of_modRail ..
  have htrim : trimReservation k s = u := by
    have hcut : (s.stationaryEnvelope k).noCloserThan k sp = s.stationaryEnvelope k := by
      refine Span.noCloserThan_eq k _ _ ?_
      unfold innerMovedBack at hback
      unfold furtherIn innerEdge
      split at hback <;> simp_all <;> omega
    rw [trimReservation_calibrated hres, hcut, hu]
  have hedges : u.edges k = s.stationaryEnvelope k := edges_of_calibrated (by rw [hself]; rfl)
  obtain ⟨hhome, hgiven⟩ := handOver_idle (s := u) (by rw [hcrane, ha]) (by rw [hcrane, hyield])
  have hstand : u.standingTarget k = none := standingTarget_idle (by rw [hcrane, ha]) (by rw [hcrane, hyield])
  have hover : overrunCheck k u = u := by
    refine overrunCheck_of_windowIn fun _ => ?_
    rw [hedges, ← hu]
    exact hinside
  have hleft : settle (arbiterIfBack k (s.edges k) (overrunCheck k (handOver k (trimReservation k s)))) = w := by
    rw [htrim, hgiven, hover, arbiterIfBack, hedges, edges_of_calibrated hres, if_pos hback,
      arbiter_other (by rw [hself]; exact hpending) heval (by rw [hkept, hself]; exact hpending), settle_of_settled hw]
  have hput : w.putReservation k = putSpan (s.stationaryEnvelope k) ++ [0] :=
    putReservation_calibrated (by rw [hkept, hself]; rfl)
  rw [execArrived_eq h hk (.inl hready) hspeed hleft, htrim, hhome, yieldDone_of_none hstand, hput, hpos]
  simp [putFlag, put8]

theorem extended_rail_other (s : State) (k : Crane) (t : Travel) (left : Option Travel) :
    (s.extended (otherCrane k) t left).rail k = s.rail k :=
  State.rail_modRail_other s (otherCrane_ne k) _

end Sys2Proof.Machine
end

section
open Sys2Proof Sys2Proof.Machine

/-- Settles O37: the trim changes the crane's own reservation, the hand-over its task and its state, and the arbiter, where the
inner edge has moved back, what the other crane was granted. -/
theorem arrivedTrimsTheReservation : Obligations.ArrivedTrimsTheReservation := by
  unfold Obligations.ArrivedTrimsTheReservation
  refine ⟨?quiet, ?extending⟩
  case quiet =>
    intro s k q h hk hs hform hstate hspeed hpending hother hstanding west east still hinside trimmed body
    set s1 := s.modRail k trimmed with hs1
    have hrail : s1.rail k = trimmed (s.rail k) := State.rail_modRail_self ..
    have hrail' (j : Crane) (hj : j ≠ k) : s1.rail j = s.rail j := State.rail_modRail_other s (Ne.symm hj) _
    have hself (c : CraneState) : (s1.modRail k (fun r => { r with state := c })).rail k =
        { trimmed (s.rail k) with state := c } := by
      rw [State.rail_modRail_self, hrail]
    have hkeeps (c : CraneState) (j : Crane) (hj : j ≠ k) : (s1.modRail k (fun r => { r with state := c })).rail j = s.rail j :=
      (State.rail_modRail_other s1 (Ne.symm hj) _).trans (hrail' j hj)
    have hcrane : s1.crane k = s.crane k := State.crane_of_modRail ..
    have hs1' : HandedOver s s1 k := handedOver_trimmed hpending hother
    have hanswer := @execArrived_quiet s k q h hk hform hstate hspeed hinside
    refine ⟨fun hidle => ?idle, fun id t ha ht hcr hkind hyield hcal hunhomed hq hstack => ?home,
      fun id t ha ht hkind hyield hfire hcal hnear => ?park⟩
    case idle =>
      have ha : (s1.crane k).active = none := by rw [hcrane, hidle]
      have hstand : (s1.crane k).standingYield = none := by rw [hcrane, hstanding]
      obtain ⟨hhome, hgiven⟩ := handOver_idle ha hstand
      have hexec := hanswer (standingTarget_idle ha hstand) hhome hgiven hs1'
      rw [settle_of_settled (s := s1) hs] at hexec
      exact hexec
    case home =>
      have ha' : (s1.crane k).active = some id := by rw [hcrane, ha]
      have hnone : s1.standingTarget k = none := (standingTarget_active ha' ht).trans hyield
      have hhome : s1.homeDone k = true := by
        rw [homeDone_active ha' ht, hkind]
        exact hcal
      obtain ⟨u, hdone, hgiven⟩ := completeHome_eq ha' ht hcr (by rw [hcrane, hq]) (by rw [hcrane, hstack])
        (by rw [hrail]; exact hunhomed)
      rw [hkind] at hdone
      have hover : handOver k s1 = markDue k (u.modRail k (fun r => { r with state := .ready })) := by
        rw [handOver_noYield hnone, if_pos hhome, hgiven]
      have hu : HandedOver s (markDue k (u.modRail k (fun r => { r with state := .ready }))) k :=
        hs1'.of_state (by rw [hdone.frame]; rfl) (by rw [hdone.frame]; rfl) (by rw [hdone.frame]; rfl)
      have hhomes := settle_homed (s := s1) hs hdone (by rw [hcrane, hq])
      have hexec := hanswer hnone hhome hover hu
      generalize settle (markDue k (u.modRail k (fun r => { r with state := .ready }))) = v at hhomes hexec
      have hvrail (j : Crane) : v.rail j = (s1.modRail k (fun r => { r with state := .ready })).rail j :=
        congrArg (fun rails : Vector Rail 4 => rails[j]) hhomes.rails
      refine ⟨_, hexec, ?_, fun j hj => ?_, ?_, fun j hj => ?_, ?_, ?_, ?_⟩
      · exact (hvrail k).trans (hself .ready)
      · exact (hvrail j).trans (hkeeps .ready j hj)
      · exact (hhomes.task id).trans (if_pos rfl)
      · exact (hhomes.task j).trans (if_neg hj)
      · rw [answered_crane]
        exact hhomes.active
      · rw [answered_crane]
        exact hhomes.completed
      · exact congrArg (State.answered · (.k k) q .ok (body 1)) hhomes.frame
    case park =>
      have ha' : (s1.crane k).active = some id := by rw [hcrane, ha]
      have hnone : s1.standingTarget k = none := (standingTarget_active ha' ht).trans hyield
      have hhome : s1.homeDone k = false := by
        rw [homeDone_active ha' ht, hkind]
        rfl
      have hpark : s1.parkDone k = true := by
        unfold State.parkDone
        have hnormal : s1.normal (aisleOf k) = false := decide_eq_false hfire
        have hcal' : s1.calibrated k = true := hcal
        have hnear' : ((s1.posMm k - s1.params.parkPos[k]).natAbs : Int) ≤ s1.params.tPark := hnear
        rw [parkActive_active ha' ht, hkind, hrail, hnormal, hcal', decide_eq_true hnear']
        rcases hstate with hstate | hstate <;> simp [trimmed, hstate]
      have hover : handOver k s1 = s1.modRail k (fun r => { r with state := .parked }) := by
        rw [handOver_noYield hnone, if_neg (by simp [hhome]), if_pos hpark, changeRail_parked (by rw [hrail]; exact hstate) ha']
      have hexec := hanswer hnone hhome hover (hs1'.of_state rfl rfl rfl)
      rw [settle_of_settled (s := s1.modRail k (fun r => { r with state := .parked })) hs] at hexec
      exact ⟨_, hexec, hself .parked, hkeeps .parked, rfl⟩
  case extending =>
    intro s k q u sp h hk hs o hready hspeed hcal hres hpending hidle hstanding hready' hhold' hfire hcal' hp hlow hhigh still
      hwindow hback t reach x keeps held partly trimmed extended answered
    have hin : s.InService o := ⟨hready', hhold', by rw [aisleOf_otherCrane]; exact hfire, hcal'⟩
    have hinside : s.windowIn k still := fun w hw => by
      rw [hwindow w hw]
      exact ⟨le_rfl, le_rfl⟩
    have hmoved : innerMovedBack k sp still = true := by
      unfold innerMovedBack
      split at hback <;> simp_all
    have hanswer {w : State} {b : Bool} (heval : evaluatePending o trimmed = (w, b)) :=
      execArrived_back h hk hready hspeed hres hpending hidle hstanding hinside hmoved rfl heval
    refine ⟨fun hfit hheld => ?whole, fun hfit hpart hheld => ?part, fun hfit hpart => ?blocked⟩
    case whole =>
      exact hanswer (evaluatePending_other_whole (f := Rail.trimmed still) rfl hin hp hlow hhigh hfit hheld)
        (extended_rail_other ..) rfl hs
    case part =>
      exact hanswer (evaluatePending_other_part (f := Rail.trimmed still) rfl hin hp hlow hhigh hfit hpart hheld)
        (extended_rail_other ..) rfl hs
    case blocked =>
      exact hanswer (evaluatePending_other_blocked (f := Rail.trimmed still) rfl hin hp hlow hhigh hfit hpart) rfl rfl hs

end

section
/-!
SUPPORT. The stop of a crane in service and the fault of a channel (R92, R107, R108), and what the position channels do with a
transition, a reference edge and a fork edge (R87 to R96).
-/
namespace Sys2Proof.Machine

variable {s u : State} {k j : Crane} {sp : Span} {cause : StopCause} {fault : ChannelFault}

/-! ### The stop of a crane (R107) -/

theorem stopCrane_halted (h : (s.rail k).state.halted = true) (cause : StopCause) : stopCrane k cause s = s := by
  unfold stopCrane
  cases hstate : (s.rail k).state with
  | offline | lost | stopped => rfl
  | ready | unhomed | silent | parked => rw [hstate] at h; contradiction

/-- A crane that was in service is stopped: its rail record, the notices and nothing else change (R107, R163). -/
structure Stops (s u : State) (k : Crane) (cause : StopCause) : Prop where
  rail : u.rail k = (s.rail k).stoppedFor cause
  rails : ∀ j, j ≠ k → u.rail j = s.rail j
  portC : u.portC = { s.portC with latch := s.portC.latch ||| 2 }
  source : u.sources.craneFault.getLsbD k.val = true
  frame : u = { s with rails := u.rails, portC := u.portC, portK := u.portK, sources := u.sources }

/-- The change of the rail record to STOPPED owes no test: beside it only K port blocks change. -/
theorem changeRail_stopped (k : Crane) (cause : StopCause) (s : State) : changeRail k (Rail.stoppedFor cause) s =
    { s.modRail k (Rail.stoppedFor cause) with portK := (changeRail k (Rail.stoppedFor cause) s).portK } := by
  have hstop : modRailStop k (Rail.stoppedFor cause) s = { s.modRail k (Rail.stoppedFor cause) with
      portK := (modRailStop k (Rail.stoppedFor cause) s).portK } := by
    unfold modRailStop
    dsimp only
    split <;> rfl
  have hready (v : State) : readyIfNewlyEligible k s v = { v with portK := (readyIfNewlyEligible k s v).portK } := by
    unfold readyIfNewlyEligible
    split <;> rfl
  have hstate : ((modRailStop k (Rail.stoppedFor cause) s).rail k).state = .stopped := by
    rw [hstop]
    exact congrArg Rail.state (State.rail_modRail_self ..)
  have hchange : changeRail k (Rail.stoppedFor cause) s =
      readyIfNewlyEligible k s (modRailStop k (Rail.stoppedFor cause) s) := by
    unfold changeRail
    dsimp only
    rw [if_neg (by simp [hstate])]
  rw [hchange, hready, hstop]

theorem latchCraneFault_source (k : Crane) (s : State) : (latchCraneFault k s).sources.craneFault.getLsbD k.val = true := by
  have hbit : (BitVec.ofNat 4 (2 ^ k.val)).getLsbD k.val = true := by
    revert k
    decide
  show (s.sources.craneFault ||| BitVec.ofNat 4 (2 ^ k.val)).getLsbD k.val = true
  rw [BitVec.getLsbD_or, hbit, Bool.or_true]

theorem stopCrane_stops (h : (s.rail k).state.halted = false) (cause : StopCause) : Stops s (stopCrane k cause s) k cause := by
  have heq : stopCrane k cause s = latchCraneFault k (changeRail k (Rail.stoppedFor cause) s) := by
    unfold stopCrane
    cases hstate : (s.rail k).state with
    | ready | unhomed | silent | parked => rfl
    | offline | lost | stopped => rw [hstate] at h; contradiction
  have hchange := changeRail_stopped k cause s
  have hsource := latchCraneFault_source k (changeRail k (Rail.stoppedFor cause) s)
  rw [heq]
  generalize changeRail k (Rail.stoppedFor cause) s = v at hchange hsource ⊢
  rw [hchange] at hsource ⊢
  exact ⟨State.rail_modRail_self .., fun j hj => State.rail_modRail_other s (Ne.symm hj) _, rfl, hsource, rfl⟩

/-- Whatever its state, the stop of a crane changes no other rail record, and only rail records and notices. -/
theorem stopCrane_frame (k : Crane) (cause : StopCause) (s : State) :
    (∀ j, j ≠ k → (stopCrane k cause s).rail j = s.rail j) ∧ stopCrane k cause s = { s with
      rails := (stopCrane k cause s).rails, portC := (stopCrane k cause s).portC, portK := (stopCrane k cause s).portK,
      sources := (stopCrane k cause s).sources } := by
  cases h : (s.rail k).state.halted
  · exact ⟨(stopCrane_stops h cause).rails, (stopCrane_stops h cause).frame⟩
  · rw [stopCrane_halted h]
    exact ⟨fun _ _ => rfl, rfl⟩

/-- A STOPPED crane asserts its STOP line (R107). -/
theorem stopLine_of_stopped (h : (s.rail k).state = .stopped) : s.stopLine k = true := by
  unfold State.stopLine Rail.stops
  rw [h, Bool.or_true]

/-! ### The fault of a channel (R92, R108) -/

/-- The record of a channel that becomes FAULTED (R92). -/
def Channel.faultedFor (cause : ChannelFault) (c : Channel) : Channel :=
  { c with state := .faulted, fault := cause, pick := { c.pick with valid := false },
           setDown := { c.setDown with valid := false } }

/-- A channel that becomes FAULTED with its crane's reservation moved, before the crane is stopped (R92, R108). -/
def faultMoved (k : Crane) (cause : ChannelFault) (s : State) : State :=
  (s.modChannel k (Channel.faultedFor cause)).modRail k (fun r => { r with reservation := s.faultedReservation k })

theorem channelFaulted_eq (k : Crane) (cause : ChannelFault) (s : State) :
    channelFaulted k cause s = stopCrane k .channel (faultMoved k cause s) := rfl

theorem homeSideFrom_eq (s : State) (k : Crane) (sp : Span) : s.homeSideFrom k sp = .homeSide
    (if isWest k then min s.params.railLength[aisleOf k] (sp.east + s.params.slip) else max 0 (sp.west - s.params.slip)) := by
  unfold State.homeSideFrom
  split <;> rfl

/-- A channel fault of any crane: the crane's own channel is FAULTED, no other channel and no other rail record changes, and
only rail records, channels and notices change (R92, R108). -/
theorem channelFaulted_frame (k : Crane) (cause : ChannelFault) (s : State) :
    let u := channelFaulted k cause s
    u.channel k = (s.channel k).faultedFor cause ∧ (∀ j, j ≠ k → u.rail j = s.rail j ∧ u.channel j = s.channel j)
      ∧ u = { s with
          channels := u.channels, rails := u.rails, portC := u.portC, portK := u.portK, sources := u.sources } := by
  obtain ⟨hrails, hframe⟩ := stopCrane_frame k .channel (faultMoved k cause s)
  rw [channelFaulted_eq]
  generalize stopCrane k .channel (faultMoved k cause s) = u at hrails hframe
  have hchannel (j : Crane) : u.channel j = (s.modChannel k (Channel.faultedFor cause)).channel j := by
    rw [hframe]
    rfl
  refine ⟨(hchannel k).trans (State.channel_modChannel_self ..), fun j hj => ⟨?_, ?_⟩, by rw [hframe]; rfl⟩
  · exact (hrails j hj).trans (State.rail_modRail_other _ (Ne.symm hj) _)
  · exact (hchannel j).trans (State.channel_modChannel_other s (Ne.symm hj) _)

theorem channelFaulted_settled (hs : s.settled) (k : Crane) (cause : ChannelFault) : (channelFaulted k cause s).settled := by
  intro j
  rw [(channelFaulted_frame k cause s).2.2]
  exact hs j

/-- A channel fault of a READY crane with a CALIBRATED reservation (R92, R107, R108). -/
structure Faults (s u : State) (k : Crane) (cause : ChannelFault) (sp : Span) : Prop where
  channel : u.channel k = (s.channel k).faultedFor cause
  rail : u.rail k = { (s.rail k).stoppedFor .channel with reservation := s.homeSideFrom k sp }
  others : ∀ j, j ≠ k → u.rail j = s.rail j ∧ u.channel j = s.channel j
  stopLine : u.stopLine k = true
  portC : u.portC = { s.portC with latch := s.portC.latch ||| 2 }
  source : u.sources.craneFault.getLsbD k.val = true
  frame : u = { s with
    channels := u.channels, rails := u.rails, portC := u.portC, portK := u.portK, sources := u.sources }

/-- A READY crane is STOPPED by a fault of its channel (R107). -/
theorem channelFaulted_stops (hready : (s.rail k).state = .ready) (cause : ChannelFault) :
    Stops (faultMoved k cause s) (channelFaulted k cause s) k .channel := by
  refine stopCrane_stops ?_ .channel
  rw [faultMoved, State.rail_modRail_self, State.rail_of_modChannel, hready]
  rfl

theorem channelFaulted_faults (hready : (s.rail k).state = .ready) (hres : (s.rail k).reservation = .calibrated sp)
    (cause : ChannelFault) : Faults s (channelFaulted k cause s) k cause sp := by
  have hstops := channelFaulted_stops hready cause
  obtain ⟨hchannel, hothers, hframe⟩ := channelFaulted_frame k cause s
  have hrail := hstops.rail
  rw [faultMoved, State.rail_modRail_self, State.rail_of_modChannel, State.faultedReservation, hres] at hrail
  exact ⟨hchannel, hrail, hothers, stopLine_of_stopped (by rw [hrail]; rfl), hstops.portC, hstops.source, hframe⟩

/-! ### Transitions of the encoder (R87, R88) -/

theorem isForward_iff (a b a' b' : Bool) : isForward a b a' b' = true ↔
    (a = false ∧ b = false ∧ a' = true ∧ b' = false) ∨ (a = true ∧ b = false ∧ a' = true ∧ b' = true)
      ∨ (a = true ∧ b = true ∧ a' = false ∧ b' = true) ∨ (a = false ∧ b = true ∧ a' = false ∧ b' = false) := by
  revert a b a' b'
  decide

theorem modeCounts_iff {mode : Nat} (h : mode = 1 ∨ mode = 2 ∨ mode = 4) (a a' : Bool) : modeCounts mode a a' = true ↔
    mode = 4 ∨ (mode = 2 ∧ a ≠ a') ∨ (mode = 1 ∧ a = false ∧ a' = true) := by
  rcases h with rfl | rfl | rfl <;> simp [modeCounts]

/-- The position of a count lies within 1,000 mm of the rail (R91). -/
def State.plausibleAt (s : State) (k : Crane) (count : BitVec 32) : Prop :=
  -1000 ≤ (count.toInt * (s.params.pitch[k] : Int)).fdiv 1000
    ∧ (count.toInt * (s.params.pitch[k] : Int)).fdiv 1000 ≤ s.params.railLength[aisleOf k] + 1000

theorem implausible_eq_false (h : s.calibrated k = true → s.plausibleAt k (s.channel k).counter) : s.implausible k = false := by
  unfold State.implausible
  cases hcal : s.calibrated k with
  | false => rfl
  | true =>
    obtain ⟨hlow, hhigh⟩ := h hcal
    unfold State.posMm
    rw [decide_eq_false (not_lt.mpr hlow), decide_eq_false (not_lt.mpr hhigh)]
    rfl

theorem plausibleCheck_eq (h : s.calibrated k = true → s.plausibleAt k (s.channel k).counter) : plausibleCheck k s = s := by
  unfold plausibleCheck
  rw [implausible_eq_false h, if_neg Bool.false_ne_true]

theorem calibrated_iff (s : State) (k : Crane) : s.calibrated k = true ↔ (s.channel k).state = .calibrated := decide_eq_true_iff

/-- ENCODER_TRANSITION of one level: the count moves with the phase, if its new position is plausible (R87, R88, R91). -/
theorem execEncoderTransition_one {a b : Bool} (hr : s.inReset = false) (hs : s.settled)
    (hone : (s.channel k).phaseA ≠ a ∧ (s.channel k).phaseB = b ∨ (s.channel k).phaseA = a ∧ (s.channel k).phaseB ≠ b)
    {count : BitVec 32} (hcount : countAfter s.params.edgeMode[k] s.params.inverted[k] (s.channel k) a b = count)
    (hplausible : modeCounts s.params.edgeMode[k] (s.channel k).phaseA a = true → (s.channel k).state = .calibrated →
      s.plausibleAt k count) :
    exec (.encoderTransition k a b) s =
      .next (s.modChannel k (fun c => { c with phaseA := a, phaseB := b, counter := count })) := by
  subst hcount
  have hmod : s.modChannel k (fun c => { c with
      counter := countAfter s.params.edgeMode[k] s.params.inverted[k] c a b, phaseA := a, phaseB := b }) =
      s.modChannel k (fun c => { c with
        phaseA := a, phaseB := b, counter := countAfter s.params.edgeMode[k] s.params.inverted[k] (s.channel k) a b }) := rfl
  have htake : takeTransition k a b s = s.modChannel k (fun c => { c with
      phaseA := a, phaseB := b, counter := countAfter s.params.edgeMode[k] s.params.inverted[k] (s.channel k) a b }) := by
    unfold takeTransition
    dsimp only
    rw [if_neg (by tauto), if_neg (by tauto), hmod]
    split
    · next hmode =>
      refine plausibleCheck_eq fun hcal => ?_
      rw [calibrated_iff, State.channel_modChannel_self] at hcal
      rw [State.channel_modChannel_self]
      exact hplausible hmode hcal
    · rfl
  show Host.Outcome.next (if s.inReset then s else settle (takeTransition k a b s)) = _
  rw [hr, htake, settle_of_settled (s := State.modChannel s k _) hs]
  rfl

/-- ENCODER_TRANSITION of both levels is a quadrature error (R89). -/
theorem execEncoderTransition_both {a b : Bool} (hr : s.inReset = false) (hs : s.settled) (ha : (s.channel k).phaseA ≠ a)
    (hb : (s.channel k).phaseB ≠ b) (hstate : (s.channel k).state ≠ .faulted) : exec (.encoderTransition k a b) s =
      .next (channelFaulted k .quadrature (s.modChannel k (fun c => { c with phaseA := a, phaseB := b }))) := by
  have htake : takeTransition k a b s =
      channelFaulted k .quadrature (s.modChannel k (fun c => { c with phaseA := a, phaseB := b })) := by
    unfold takeTransition
    dsimp only
    rw [if_neg (fun h => ha h.1), if_pos ⟨ha, hb⟩, if_neg hstate]
  show Host.Outcome.next (if s.inReset then s else settle (takeTransition k a b s)) = _
  rw [hr, htake, settle_of_settled (channelFaulted_settled (s := s.modChannel k _) hs k .quadrature)]
  rfl

end Sys2Proof.Machine

open Sys2Proof Sys2Proof.Machine

/-- Settles O43: each edge writes the capture of its polarity, and no change of level writes none. -/
theorem forkEdgeWritesTheCapture : Obligations.ForkEdgeWritesTheCapture := by
  unfold Obligations.ForkEdgeWritesTheCapture
  intro s k hr capture
  have hedge (level : Bool) (h : (s.channel k).forkLevel ≠ level) : exec (.forkEdge k level) s =
      .next (s.modChannel k (fun c => { c with
        forkLevel := level, pick := if level then capture else c.pick, setDown := if level then c.setDown else capture })) :=
    congrArg Host.Outcome.next (if_neg (by simp [hr, h]))
  exact ⟨fun h => hedge true (by simp [h]), fun h => hedge false (by simp [h]), congrArg Host.Outcome.next (if_pos (.inr rfl))⟩

/-- Settles O41: a transition of one level counts by its direction, the edge mode and the polarity, and one of both levels is a
quadrature error. -/
theorem encoderTransitionCounts : Obligations.EncoderTransitionCounts := by
  unfold Obligations.EncoderTransitionCounts
  refine ⟨?one, ?both⟩
  case one =>
    intro s k a b hr hs c mode forward reverse counts moved plausible hmode
    have hone (h : forward ∨ reverse) : c.phaseA ≠ a ∧ c.phaseB = b ∨ c.phaseA = a ∧ c.phaseB ≠ b := by
      rcases h with (⟨h1, h2, h3, h4⟩ | ⟨h1, h2, h3, h4⟩ | ⟨h1, h2, h3, h4⟩ | ⟨h1, h2, h3, h4⟩) |
        (⟨h1, h2, h3, h4⟩ | ⟨h1, h2, h3, h4⟩ | ⟨h1, h2, h3, h4⟩ | ⟨h1, h2, h3, h4⟩) <;> simp [h1, h2, h3, h4]
    have hforward (h : forward) : isForward c.phaseA c.phaseB a b = true := (isForward_iff ..).mpr h
    have hreverse (h : reverse) : isForward c.phaseA c.phaseB a b = false := by
      rcases h with ⟨h1, h2, h3, h4⟩ | ⟨h1, h2, h3, h4⟩ | ⟨h1, h2, h3, h4⟩ | ⟨h1, h2, h3, h4⟩ <;> rw [h1, h2, h3, h4] <;> rfl
    have hcounts : modeCounts mode c.phaseA a = true ↔ counts := modeCounts_iff hmode ..
    have hmoved {fwd inv : Bool} {count : BitVec 32} (h : forward ∨ reverse) (hf : isForward c.phaseA c.phaseB a b = fwd)
        (hc : counts) (hi : s.params.inverted[k] = inv)
        (hcount : (if fwd != inv then c.counter + 1 else c.counter - 1) = count) (hp : plausible count) : moved count := by
      refine execEncoderTransition_one hr hs (hone h) ?_ fun _ => hp
      unfold countAfter
      rw [if_pos (hcounts.mpr hc), hf, hi, hcount]
    exact ⟨fun h hc hi => hmoved (.inl h) (hforward h) hc hi rfl, fun h hc hi => hmoved (.inl h) (hforward h) hc hi rfl,
      fun h hc hi => hmoved (.inr h) (hreverse h) hc hi rfl, fun h hc hi => hmoved (.inr h) (hreverse h) hc hi rfl,
      fun h hc => execEncoderTransition_one hr hs (hone h) (if_neg (mt hcounts.mp hc)) fun hm => absurd (hcounts.mp hm) hc⟩
  case both =>
    intro s k a b sp hr hs ha hb hstate hready hres
    have hfaults := channelFaulted_faults (s := s.modChannel k (fun c => { c with phaseA := a, phaseB := b })) (k := k)
      hready hres .quadrature
    have hexec := execEncoderTransition_both hr hs ha hb hstate
    generalize channelFaulted k .quadrature (s.modChannel k (fun c => { c with phaseA := a, phaseB := b })) = t at hfaults hexec
    refine ⟨t, hexec, ?_, ?_, fun j hj => ?_, hfaults.stopLine, hfaults.portC, hfaults.source, hfaults.frame⟩
    · rw [hfaults.channel, State.channel_modChannel_self]
      rfl
    · rw [hfaults.rail, homeSideFrom_eq]
      rfl
    · obtain ⟨hrail, hchannel⟩ := hfaults.others j hj
      exact ⟨hrail, hchannel.trans (State.channel_modChannel_other s (Ne.symm hj) _)⟩

end

section
/-!
SUPPORT. The reference edge of a channel (R93 to R95): the calibration as the rail unit takes it (R109), and the check of a
calibrated count.
-/
namespace Sys2Proof.Machine

variable {s : State} {k : Crane}

theorem modChannel_modChannel (s : State) (k : Crane) (f g : Channel → Channel) :
    (s.modChannel k f).modChannel k g = s.modChannel k (fun c => g (f c)) := by
  simp [State.modChannel]

/-! ### The edge (R93) -/

/-- The level of REF alone changes (R93). -/
def refTaken (k : Crane) (level : Bool) (s : State) : State := s.modChannel k (fun c => { c with refLevel := level })

theorem refTaken_channel (k : Crane) (level : Bool) (s : State) :
    (refTaken k level s).channel k = { s.channel k with refLevel := level } := State.channel_modChannel_self ..

theorem execReferenceEdge_rising (hr : s.inReset = false) (href : (s.channel k).refLevel = false) :
    exec (.referenceEdge k true) s = .next (settle (referenceEdge k (refTaken k true s))) := by
  show Host.Outcome.next (if s.inReset then s else if true && !(s.channel k).refLevel then _ else _) = _
  rw [hr, href]
  rfl

/-- An edge that is not taken changes the level alone (R93, log 14). -/
theorem execReferenceEdge_untaken {level : Bool} (hr : s.inReset = false) (hs : s.settled)
    (h : level = false ∨ (s.channel k).refLevel = true ∨ (s.channel k).state = .faulted
      ∨ (s.channel k).direction ≠ homeDirection k) :
    exec (.referenceEdge k level) s = .next (refTaken k level s) := by
  by_cases hrising : level = true ∧ (s.channel k).refLevel = false
  · obtain ⟨rfl, href⟩ := hrising
    have hkept : referenceEdge k (refTaken k true s) = refTaken k true s := by
      unfold referenceEdge
      rw [refTaken_channel]
      rcases h with h | h | hfault | hdir
      · contradiction
      · simp [href] at h
      · dsimp only
        rw [hfault, ite_self]
      · exact if_neg hdir
    rw [execReferenceEdge_rising hr href, hkept, settle_of_settled (s := refTaken k true s) hs]
  · have hnone : (level && !(s.channel k).refLevel) = false := by
      simpa [Bool.and_eq_false_iff, ← imp_iff_not_or] using hrising
    show Host.Outcome.next (if s.inReset then s else if level && !(s.channel k).refLevel then _ else _) = _
    rw [hr, hnone]
    rfl

section
variable (hdir : (s.channel k).direction = homeDirection k)
include hdir

theorem referenceEdge_uncalibrated (h : (s.channel k).state = .uncalibrated) : referenceEdge k s = calibrate k s := by
  unfold referenceEdge
  rw [if_pos hdir, h]

theorem referenceEdge_calibrated (h : (s.channel k).state = .calibrated) : referenceEdge k s = checkReference k s := by
  unfold referenceEdge
  rw [if_pos hdir, h]

end

/-! ### The calibration (R94, R109) -/

/-- The record of a channel that a reference edge calibrates (R94, log 38). -/
def Channel.calibratedAt (ref : BitVec 32) (c : Channel) : Channel :=
  { c.load ref with state := .calibrated, fault := .none, deviation := none }

/-- The channel is calibrated at ref_count and RECAL is latched (R94). -/
def channelCalibrated (k : Crane) (s : State) : State :=
  latchK k .recal (s.modChannel k (Channel.calibratedAt s.params.refCount[k]))

theorem channelCalibrated_channel (k : Crane) (s : State) :
    (channelCalibrated k s).channel k = (s.channel k).calibratedAt s.params.refCount[k] := State.channel_modChannel_self ..

theorem channelCalibrated_other {j : Crane} (h : j ≠ k) (s : State) : (channelCalibrated k s).channel j = s.channel j :=
  State.channel_modChannel_other s (Ne.symm h) _

theorem latchK_self (k : Crane) (n : NoticeK) (s : State) :
    ((latchK k n s).port (.k k)).latch.getLsbD n.position = true := by
  rw [latchK_port, if_pos rfl, BitVec.getLsbD_or]
  refine Bool.or_eq_true_iff.mpr (.inr ?_)
  cases n <;> decide

theorem calibrate_eq (h : s.plausibleAt k s.params.refCount[k]) :
    calibrate k s = railCalibrated k (channelCalibrated k s) := by
  have himplausible : (s.modChannel k (Channel.calibratedAt s.params.refCount[k])).implausible k = false :=
    implausible_eq_false fun _ => by
      rw [State.channel_modChannel_self]
      exact h
  show (if State.implausible (s.modChannel k (Channel.calibratedAt s.params.refCount[k])) k then _ else _) = _
  rw [himplausible]
  rfl

/-- An OFFLINE or LOST crane keeps its rail record at a calibration (R109). -/
theorem railCalibrated_kept (h : (s.rail k).state = .offline ∨ (s.rail k).state = .lost) : railCalibrated k s = s := by
  unfold railCalibrated
  rcases h with h | h <;> rw [h]

/-- The rail record of a crane that takes a CALIBRATED reservation (R109). -/
def State.takenReservation (s : State) (k : Crane) (r : Rail) : Rail :=
  { r with reservation := .calibrated (s.cutSpan k (s.calibrationBase k)) }

/-- Before a window has ended, and with nothing pending, the new reservation is all that a calibration changes (R109, log 8). -/
theorem railCalibrated_taken (hoffline : (s.rail k).state ≠ .offline) (hlost : (s.rail k).state ≠ .lost)
    (henvelope : (s.channel k).envelope = none) (hpending : (s.rail k).pending = none)
    (hother : (s.rail (otherCrane k)).pending = none) : railCalibrated k s = s.modRail k (s.takenReservation k) := by
  set t := s.modRail k (s.takenReservation k) with ht
  have hover : overrunCheck k t = t := overrunCheck_of_windowIn fun _ w hw => by
    rw [ht, State.channel_of_modRail, henvelope] at hw
    contradiction
  have hidle : arbiterIfBack k (s.edges k) t = t := by
    refine arbiterIfBack_idle ?_ ?_ _
    · rw [ht, State.rail_modRail_self]
      exact hpending
    · rw [ht, rail_modRail_otherCrane, hother]
  have heq : railCalibrated k s = arbiterIfBack k (s.edges k) (overrunCheck k t) := by
    unfold railCalibrated
    cases hstate : (s.rail k).state with
    | offline => exact absurd hstate hoffline
    | lost => exact absurd hstate hlost
    | _ => rfl
  rw [heq, hover, hidle]

theorem calibrationBase_eq {mm : Int} (h : s.posMm k = mm) : s.calibrationBase k = match (s.rail k).granted with
    | some g => if (if isWest k then g.target < mm else mm < g.target) then s.required k g else s.presentEnvelope k
    | none => s.presentEnvelope k := by
  subst h
  unfold State.calibrationBase
  cases (s.rail k).granted with
  | none => rfl
  | some g => simp only [furtherIn_iff]

theorem cutSpan_eq (s : State) (k : Crane) (sp : Span) :
    let other := s.edges (otherCrane k)
    let east := min sp.east (other.west - s.params.gap)
    let west := max sp.west (other.east + s.params.gap)
    s.cutSpan k sp = if s.otherCounts k = false then sp
      else if isWest k then ⟨min sp.west east, east⟩ else ⟨west, max sp.east west⟩ := by
  unfold State.cutSpan
  cases s.otherCounts k <;> rfl

/-- Whether the other crane counts does not depend on the crane's own channel (R109). -/
theorem otherCounts_modChannel (s : State) (k : Crane) (f : Channel → Channel) :
    (s.modChannel k f).otherCounts k = s.otherCounts k := by
  have hcal : (s.modChannel k f).calibrated (otherCrane k) = s.calibrated (otherCrane k) := by
    unfold State.calibrated
    rw [State.channel_modChannel_other s (otherCrane_ne k).symm]
  unfold State.otherCounts
  rw [hcal]
  rfl

theorem posMm_channelCalibrated (k : Crane) (s : State) : (channelCalibrated k s).posMm k =
    (s.params.refCount[k].toInt * (s.params.pitch[k] : Int)).fdiv 1000 := by
  unfold State.posMm
  rw [channelCalibrated_channel]
  rfl

/-! ### The check of a calibrated count (R95) -/

theorem checkReference_within (h : (s.deviation k : Int) ≤ s.params.tRef * 1000) (hp : s.plausibleAt k s.params.refCount[k]) :
    checkReference k s = s.modChannel k (fun c =>
      Channel.load { c with deviation := some (s.deviation k) } s.params.refCount[k]) := by
  have heq : checkReference k s = plausibleCheck k (s.modChannel k (fun c =>
      Channel.load { c with deviation := some (s.deviation k) } s.params.refCount[k])) := by
    refine (if_pos h).trans ?_
    rw [modChannel_modChannel]
    rfl
  rw [heq]
  refine plausibleCheck_eq fun _ => ?_
  rw [State.channel_modChannel_self]
  exact hp

theorem checkReference_slip (h : s.params.tRef * 1000 < (s.deviation k : Int)) : checkReference k s =
    channelFaulted k .slip (s.modChannel k (fun c => { c with deviation := some (s.deviation k) })) :=
  if_neg (not_le.mpr h)

end Sys2Proof.Machine

open Sys2Proof Sys2Proof.Machine

/-- Settles O42: an edge is not taken, calibrates the channel, or checks its count. -/
theorem referenceEdgeCalibratesOrChecks : Obligations.ReferenceEdgeCalibratesOrChecks := by
  unfold Obligations.ReferenceEdgeCalibratesOrChecks
  refine ⟨fun s k level hr hs h => execReferenceEdge_untaken hr hs h, ?calibrates, ?checks⟩
  case calibrates =>
    intro s k hr hs href hstate hdir henvelope hpending hother ref mm hlow hhigh
    set u := channelCalibrated k (refTaken k true s) with hu
    have huchannel : u.channel k = ((refTaken k true s).channel k).calibratedAt ref := channelCalibrated_channel ..
    have hothers (j : Crane) (hj : j ≠ k) : u.channel j = s.channel j :=
      (channelCalibrated_other hj _).trans (State.channel_modChannel_other s (Ne.symm hj) _)
    have hupos : u.posMm k = mm := posMm_channelCalibrated ..
    have hlatched : (u.port (.k k)).latch.getLsbD NoticeK.recal.position = true := latchK_self ..
    have hexec : exec (.referenceEdge k true) s = .next (settle (railCalibrated k u)) := by
      have hraised := refTaken_channel k true s
      rw [execReferenceEdge_rising hr href, referenceEdge_uncalibrated (by rw [hraised]; exact hdir) (by rw [hraised]; exact hstate),
        calibrate_eq (s := refTaken k true s) ⟨hlow, hhigh⟩]
    by_cases hkept : (s.rail k).state = .offline ∨ (s.rail k).state = .lost
    · rw [railCalibrated_kept (s := u) hkept, settle_of_settled (s := u) hs] at hexec
      refine ⟨u, hexec, ?_, hupos, fun j hj => ⟨hothers j hj, rfl⟩, hlatched, fun _ => rfl, ?_, rfl⟩
      · rw [huchannel, refTaken_channel]
        rfl
      · intro hoffline hlost
        exact absurd hkept (not_or.mpr ⟨hoffline, hlost⟩)
    · obtain ⟨hoffline, hlost⟩ := not_or.mp hkept
      have henv : (u.channel k).envelope = none := by
        rw [huchannel, refTaken_channel]
        exact henvelope
      rw [railCalibrated_taken (s := u) hoffline hlost henv hpending hother, settle_of_settled (s := u.modRail k _) hs] at hexec
      refine ⟨_, hexec, ?_, hupos, fun j hj => ⟨hothers j hj, State.rail_modRail_other u (Ne.symm hj) _⟩, hlatched,
        fun h => absurd h hkept, ?_, rfl⟩
      · rw [State.channel_of_modRail, huchannel, refTaken_channel]
        rfl
      · intro _ _ base other east west
        have hbase : u.calibrationBase k = base := calibrationBase_eq hupos
        have hcounts : u.otherCounts k = s.otherCounts k :=
          (otherCounts_modChannel (refTaken k true s) k _).trans (otherCounts_modChannel s k _)
        rw [State.rail_modRail_self, State.takenReservation, cutSpan_eq, hbase, hcounts]
        rfl
  case checks =>
    intro s k hr hs href hstate hdir ref mm d
    have hraised := refTaken_channel k true s
    have hd : (refTaken k true s).deviation k = d := by
      unfold State.deviation
      rw [hraised]
      rfl
    have hexec : exec (.referenceEdge k true) s = .next (settle (checkReference k (refTaken k true s))) := by
      rw [execReferenceEdge_rising hr href, referenceEdge_calibrated (by rw [hraised]; exact hdir) (by rw [hraised]; exact hstate)]
    refine ⟨fun hle hlow hhigh => ?within, fun hlt => ?slip⟩
    case within =>
      have hleft := checkReference_within (s := refTaken k true s) (k := k) (by rw [hd]; exact hle) ⟨hlow, hhigh⟩
      rw [hexec, hleft, settle_of_settled (s := (refTaken k true s).modChannel k _) hs, hd]
      exact congrArg Host.Outcome.next (modChannel_modChannel ..)
    case slip =>
      rw [checkReference_slip (by rw [hd]; exact hlt), hd] at hexec
      set w := (refTaken k true s).modChannel k (fun c => { c with deviation := some d }) with hw
      have hwchannel : w.channel k = { s.channel k with refLevel := true, deviation := some d } := by
        rw [hw, State.channel_modChannel_self, hraised]
      have hwothers (j : Crane) (hj : j ≠ k) : w.channel j = s.channel j :=
        (State.channel_modChannel_other _ (Ne.symm hj) _).trans (State.channel_modChannel_other s (Ne.symm hj) _)
      rw [settle_of_settled (channelFaulted_settled (s := w) hs k .slip)] at hexec
      obtain ⟨hchannel, hothers, -⟩ := channelFaulted_frame k .slip w
      refine ⟨_, hexec, ?_, fun j hj => ?_, fun hready => ?_⟩
      · rw [hchannel, hwchannel]
        rfl
      · exact ⟨(hothers j hj).2.trans (hwothers j hj), (hothers j hj).1⟩
      · rw [(channelFaulted_stops (s := w) hready .slip).rail]
        exact ⟨rfl, rfl⟩

end

section
/-!
SUPPORT. RESTART (R101, R108, R120): a crane that returns to service, with the test that it owes.
-/
namespace Sys2Proof.Machine

variable {s v w : State} {k : Crane} {q : Request} {f : Rail → Rail}

/-! ### A crane enters service (R106) -/

/-- A crane that becomes READY or UNHOMED owes its preemption test; beside it the rail record and K port blocks change. -/
theorem changeRail_serves (hstate : (f (s.rail k)).state = .ready ∨ (f (s.rail k)).state = .unhomed)
    (hnew : (f (s.rail k)).state ≠ (s.rail k).state) : changeRail k f s =
      { s.modRail k f with portK := (changeRail k f s).portK, due := s.due.set k true } := by
  have hstop : modRailStop k f s = { s.modRail k f with portK := (modRailStop k f s).portK } := by
    unfold modRailStop
    dsimp only
    split <;> rfl
  have hready (u : State) : readyIfNewlyEligible k s u = { u with portK := (readyIfNewlyEligible k s u).portK } := by
    unfold readyIfNewlyEligible
    split <;> rfl
  have hrail : (modRailStop k f s).rail k = f (s.rail k) := by
    rw [hstop]
    exact State.rail_modRail_self ..
  have hchange : changeRail k f s = readyIfNewlyEligible k s (markDue k (modRailStop k f s)) := by
    unfold changeRail
    dsimp only
    rw [hrail, if_pos ⟨hnew, hstate⟩]
  rw [hchange, hready, hstop]
  rfl

/-- What follows where a crane with no active task enters service, from a state that owes no other test: nothing for the
arbiter, and a test that finds no preemption due (R74, R106, R115). -/
theorem settle_serves (hs : s.settled) (hdue : v.due = s.due ∨ v.due = s.due.set k true) (hactive : (v.crane k).active = none)
    (hstate : (f (v.rail k)).state = .ready ∨ (f (v.rail k)).state = .unhomed)
    (hnew : (f (v.rail k)).state ≠ (v.rail k).state) (hpending : (f (v.rail k)).pending = none)
    (hother : (v.rail (otherCrane k)).pending = none) (old : Span) :
    let w := settle (arbiterIfBack k old (changeRail k f v))
    w = { v.modRail k f with due := s.due, cranes := w.cranes, portK := w.portK }
      ∧ w.crane k = { v.crane k with roomRefusal := false } := by
  have hserves := changeRail_serves hstate hnew
  generalize changeRail k f v = u at hserves
  have hidle : arbiterIfBack k old u = u := by
    refine arbiterIfBack_idle ?_ ?_ old
    · rw [hserves]
      exact (congrArg Rail.pending (State.rail_modRail_self ..)).trans hpending
    · rw [hserves]
      exact (congrArg Rail.pending rail_modRail_otherCrane).trans hother
  have howes : u.owesOnly k := owesOnly_of_due hs (by
    rw [hserves]
    rcases hdue with h | h
    · exact congrArg (fun d : Vector Bool 4 => d.set k true) h
    · exact (congrArg (fun d : Vector Bool 4 => d.set k true) h).trans (Vector.set_set ..))
  have hundue : u.undue = { u with due := s.due } := by
    conv_rhs => rw [← State.undue_eq hs]
    rfl
  have hcrane : u.crane k = v.crane k := by rw [hserves]; rfl
  rw [hidle, settle_calm howes (.inr (.inl (by rw [hcrane]; exact hactive))), hundue]
  refine ⟨?_, ?_⟩
  · rw [hserves]
    rfl
  · rw [State.crane_modCrane_self]
    exact congrArg (fun c : CraneTasks => { c with roomRefusal := false }) hcrane

/-! ### RESTART (R120) -/

theorem restartRefusal_none (hstate : (s.rail k).state = .offline ∨ (s.rail k).state = .silent ∨ (s.rail k).state = .lost
      ∨ (s.rail k).state = .stopped) (hspeed : (s.channel k).speed = 0)
    (hfit : s.calibrated k = true → s.otherCounts k = true → s.fits k (s.stationaryEnvelope k) = true) :
    s.restartRefusal k = none := by
  have hroom : (s.calibrated k && s.otherCounts k && !s.fits k (s.stationaryEnvelope k)) = false := by
    cases hcal : s.calibrated k with
    | false => rfl
    | true =>
      cases hcounts : s.otherCounts k with
      | false => rfl
      | true => rw [hfit hcal hcounts]; rfl
  unfold State.restartRefusal
  rcases hstate with h | h | h | h <;> rw [h] <;> dsimp only <;>
    rw [if_neg (by simpa using hspeed), hroom, if_neg Bool.false_ne_true]

theorem execRestart_eq (h : s.hasRequest (.k k) q) (hk : q.kind = .restart) (hallowed : s.restartRefusal k = none)
    (hw : settle (restartCrane k s) = w) : exec (.restart k) s = .next (w.answered (.k k) q .ok
      (put8 (w.rail k).state.code ++ put8 (w.channel k).state.code ++ w.putReservation k)) := by
  subst hw
  refine congrArg Host.Outcome.next (take_eq_answered h hk rfl ?_)
  unfold serveRestart
  rw [hallowed]

/-- The record of a channel whose crane is restarted (R101). -/
def Channel.restarted (c : Channel) : Channel :=
  { c with
    state := if c.state = .faulted then .uncalibrated else c.state
    fault := if c.state = .faulted then .none else c.fault
    pick := { c.pick with valid := false }
    setDown := { c.setDown with valid := false } }

theorem restartChannel_channel (k : Crane) (s : State) : (restartChannel k s).channel k = (s.channel k).restarted :=
  State.channel_modChannel_self ..

theorem Channel.restarted_calibrated {c : Channel} (h : c.state = .calibrated) : c.restarted =
    { c with pick := { c.pick with valid := false }, setDown := { c.setDown with valid := false } } := by
  unfold Channel.restarted
  rw [if_neg (by simp [h]), if_neg (by simp [h])]

theorem Channel.restarted_uncalibrated {c : Channel} (h : c.state ≠ .calibrated) : c.restarted = { c with
    state := .uncalibrated, fault := if c.state = .faulted then .none else c.fault,
    pick := { c.pick with valid := false }, setDown := { c.setDown with valid := false } } := by
  have hstate : (if c.state = .faulted then .uncalibrated else c.state) = .uncalibrated := by
    cases hc : c.state with
    | calibrated => exact absurd hc h
    | uncalibrated | faulted => rfl
  unfold Channel.restarted
  rw [hstate]

theorem restartChannel_calibrated (k : Crane) (s : State) : (restartChannel k s).calibrated k = s.calibrated k := by
  unfold State.calibrated
  rw [restartChannel_channel]
  cases h : (s.channel k).state <;> simp [Channel.restarted, h]

/-- A restarted channel keeps its count, and so the crane's stationary envelope. -/
theorem restartChannel_still (k : Crane) (s : State) :
    (restartChannel k s).stationaryEnvelope k = s.stationaryEnvelope k := by
  unfold State.stationaryEnvelope State.posMm
  rw [restartChannel_channel]
  rfl

theorem admitHome_eq {id : Nat} (hhome : s.holdsKind k .home = false) (hid : s.tasks.lowestFree 64 = some id) :
    admitHome k s = admitAt id
      { Task.new k .home 1 .travel with dest := some (.rail (if isWest k then s.params.tmin[k] else s.params.tmax[k])) } s := by
  unfold admitHome admitTask
  rw [hhome, hid]
  rfl

/-- The crane of a CALIBRATED channel stands in the reservation that it is given, so that it does not overrun (R117, R120). -/
theorem restartCrane_calibrated (hcal : s.calibrated k = true)
    (hstate : (s.rail k).state ≠ .ready) (hinside : s.windowIn k (s.stationaryEnvelope k)) :
    restartCrane k s = arbiterIfBack k (s.edges k)
      (changeRail k ((restartChannel k s).restartedRail k) (restartChannel k s)) := by
  have hcal' : (restartChannel k s).calibrated k = true := (restartChannel_calibrated k s).trans hcal
  have hready (r : Rail) : ((restartChannel k s).restartedRail k r).state = .ready := if_pos hcal'
  have hres (r : Rail) : ((restartChannel k s).restartedRail k r).reservation =
      .calibrated ((restartChannel k s).stationaryEnvelope k) := if_pos hcal'
  have hserves := changeRail_serves (s := restartChannel k s) (k := k) (.inl (hready _)) (by
    rw [hready]
    exact Ne.symm hstate)
  have heq : restartCrane k s = arbiterIfBack k (s.edges k)
      (overrunCheck k (changeRail k ((restartChannel k s).restartedRail k) (restartChannel k s))) := by
    unfold restartCrane
    rw [hcal]
    rfl
  rw [heq]
  generalize changeRail k ((restartChannel k s).restartedRail k) (restartChannel k s) = u at hserves
  have hover : overrunCheck k u = u := overrunCheck_of_windowIn fun _ => by
    have hedges : u.edges k = s.stationaryEnvelope k := by
      rw [hserves, ← restartChannel_still]
      exact edges_modRail_self (hres _)
    have hchannel : u.channel k = (s.channel k).restarted := by
      rw [hserves]
      exact restartChannel_channel k s
    unfold State.windowIn
    rw [hedges, hchannel]
    exact hinside
  rw [hover]

/-- The crane of a channel that is not CALIBRATED is given a HOME first (R120). -/
theorem restartCrane_uncalibrated (hcal : s.calibrated k = false) : restartCrane k s = arbiterIfBack k (s.edges k)
    (changeRail k ((admitHome k (restartChannel k s)).restartedRail k) (admitHome k (restartChannel k s))) := by
  unfold restartCrane
  rw [hcal]
  rfl

/-- The rail record of a crane that a RESTART has returned to service (R120). -/
def Rail.restartedTo (state : CraneState) (res : Reservation) (hold : Bool) (r : Rail) : Rail :=
  { r with
    state := state, silentFrom := none, stopCause := .none, reservation := res, granted := none, pending := none,
    linkArmed := false, linkLeft := 0, fireHold := hold }

theorem restartedRail_eq {state : CraneState} {res : Reservation} (hstate : (if s.calibrated k then .ready else .unhomed) = state)
    (hres : s.restartReservation k = res) : s.restartedRail k = Rail.restartedTo state res (s.restartHold k) := by
  subst hstate hres
  rfl

end Sys2Proof.Machine

open Sys2Proof Sys2Proof.Machine

/-- Settles O39: the channel is restarted, an uncalibrated crane is given a HOME, and the crane enters service with nothing to
preempt. -/
theorem restartReturnsTheCrane : Obligations.RestartReturnsTheCrane := by
  unfold Obligations.RestartReturnsTheCrane
  intro s k q h hk hs hstate hspeed hother hactive hqueue still hold restarted freed
  have hservice (c : CraneState) (hc : c = .ready ∨ c = .unhomed) : c ≠ (s.rail k).state := by
    rcases hc with rfl | rfl <;> rcases hstate with hstate | hstate | hstate | hstate <;> rw [hstate] <;> decide
  set s1 := restartChannel k s with hs1
  have hchannels (j : Crane) (hj : j ≠ k) : s1.channel j = s.channel j := State.channel_modChannel_other s (Ne.symm hj) _
  refine ⟨fun hcal hroom hwindow => ?calibrated, fun x tid hcal hlimit hhome hfree => ?uncalibrated⟩
  case calibrated =>
    have hinside : s.windowIn k (s.stationaryEnvelope k) := fun w hw => by
      rw [hwindow w hw]
      exact ⟨le_rfl, le_rfl⟩
    have hcal1 : s1.calibrated k = true := (restartChannel_calibrated k s).trans hcal
    have hrecord : s1.restartedRail k = Rail.restartedTo .ready (.calibrated still) hold :=
      restartedRail_eq (if_pos hcal1) ((if_pos hcal1).trans (congrArg Reservation.calibrated (restartChannel_still k s)))
    have hallowed : s.restartRefusal k = none :=
      restartRefusal_none hstate hspeed fun _ hcounts => fits_iff.mpr (hroom hcounts)
    obtain ⟨hframe, -⟩ := settle_serves (s := s) (v := s1) (k := k) (f := s1.restartedRail k) hs (.inl rfl) hactive
      (by rw [hrecord]; exact .inl rfl) (by rw [hrecord]; exact hservice _ (.inl rfl)) rfl hother (s.edges k)
    have hexec := execRestart_eq h hk hallowed rfl
    rw [restartCrane_calibrated hcal (hservice _ (.inl rfl)).symm hinside] at hexec
    generalize settle (arbiterIfBack k (s.edges k) (changeRail k (s1.restartedRail k) s1)) = w at hframe hexec
    have hrail (j : Crane) : w.rail j = (s1.modRail k (s1.restartedRail k)).rail j := by rw [hframe]; rfl
    have hchannel (j : Crane) : w.channel j = s1.channel j := by rw [hframe]; rfl
    have hself : w.rail k = restarted .ready (.calibrated still) := by
      rw [hrail, State.rail_modRail_self, hrecord]
      rfl
    refine ⟨_, hexec, hself, ?_, fun j hj => ⟨?_, (hchannel j).trans (hchannels j hj)⟩, ?_, ?_⟩
    · exact (hchannel k).trans ((restartChannel_channel k s).trans (Channel.restarted_calibrated ((calibrated_iff s k).mp hcal)))
    · exact (hrail j).trans (State.rail_modRail_other s1 (Ne.symm hj) _)
    · have hstate : (w.channel k).state = .calibrated := by
        rw [hchannel]
        exact (calibrated_iff s1 k).mp hcal1
      rw [answered_slot, hself, hstate, putReservation_calibrated (congrArg Rail.reservation hself)]
      simp [restarted, CraneState.code, ChannelState.code, put8]
    · show State.answered w _ _ _ _ = _
      rw [hframe]
      rfl
  case uncalibrated =>
    set task : Task := { Task.new k .home 1 .travel with
      dest := some (.rail (if isWest k then s.params.tmin[k] else s.params.tmax[k])) } with htask
    have hadmit : admitHome k s1 = admitAt tid task s1 := admitHome_eq (s := s1) hhome hfree
    obtain ⟨tasks, cranes, portK, due, hv⟩ := admitAt_frame tid task s1
    have hdue := admitAt_due tid task s1
    have htasks := admitAt_task? tid task s1
    have hcrane := (admitAt_crane tid task s1 k).trans (if_pos rfl)
    have hallowed : s.restartRefusal k = none := restartRefusal_none hstate hspeed fun h => by simp [h] at hcal
    have hexec := execRestart_eq h hk hallowed rfl
    rw [restartCrane_uncalibrated hcal, hadmit] at hexec
    generalize admitAt tid task s1 = v at *
    have hrail1 (j : Crane) : v.rail j = s.rail j := by rw [hv]; rfl
    have hcal1 : v.calibrated k = false := by
      rw [hv]
      exact (restartChannel_calibrated k s).trans hcal
    have hrecord : v.restartedRail k = Rail.restartedTo .unhomed (.homeSide x) hold := by
      have hkept : v.restartHold k = hold := by rw [hv]; rfl
      have hreservation : v.restartReservation k = .homeSide x := by
        unfold State.restartReservation
        rw [hcal1, hrail1, hlimit]
        rfl
      rw [← hkept]
      exact restartedRail_eq (by rw [hcal1]; rfl) hreservation
    obtain ⟨hframe, hserved⟩ := settle_serves (s := s) (v := v) (k := k) (f := v.restartedRail k) hs (.inr hdue)
      (by rw [hcrane]; exact hactive) (by rw [hrecord]; exact .inr rfl)
      (by rw [hrecord, hrail1]; exact hservice _ (.inr rfl)) rfl (by rw [hrail1]; exact hother) (s.edges k)
    generalize settle (arbiterIfBack k (s.edges k) (changeRail k (v.restartedRail k) v)) = w at hframe hserved hexec
    have hrail (j : Crane) : w.rail j = (v.modRail k (v.restartedRail k)).rail j := by rw [hframe]; rfl
    have hchannel (j : Crane) : w.channel j = s1.channel j := by rw [hframe, hv]; rfl
    have htask? (j : Nat) : w.task? j = v.task? j := by rw [hframe]; rfl
    refine ⟨_, hexec, ?_, ?_, fun j hj => ⟨?_, (hchannel j).trans (hchannels j hj)⟩, ?_, fun j hj => ?_, ?_, ?_⟩
    · exact (hrail k).trans (by rw [State.rail_modRail_self, hrecord, hrail1]; rfl)
    · exact (hchannel k).trans ((restartChannel_channel k s).trans (Channel.restarted_uncalibrated (of_decide_eq_false hcal)))
    · exact (hrail j).trans ((State.rail_modRail_other v (Ne.symm hj) _).trans (hrail1 j))
    · exact (htask? tid).trans ((htasks tid).trans (if_pos rfl))
    · exact (htask? j).trans ((htasks j).trans (if_neg hj))
    · rw [answered_crane, hserved, hcrane]
      show State.enqueue _ tid (s.crane k).queue = [tid]
      rw [hqueue]
      rfl
    · show State.answered w _ _ _ _ = _
      rw [hframe, hv]
      rfl

end

section
/-!
SUPPORT. The window end (R98, R104, R117) with the evaluation of the planes (R130), and the way from PARKING to CLOSING or SEALED
(R131, R134, R136).
-/
namespace Sys2Proof.Machine

variable {s t u : State} {k j : Crane} {a : Aisle}

/-! ### The entry to SEALED (R136) -/

theorem setFireHold_eq (k : Crane) (s : State) : setFireHold k s =
    { s.modRail k (fun r => { r with fireHold := true }) with portK := (setFireHold k s).portK } := by
  unfold setFireHold modRailStop
  dsimp only
  split <;> rfl

/-- A fire hold that is set changes the rail record, and no fire or shutter record (R132). -/
theorem setFireHold_records (k : Crane) (s : State) : (∀ j, (setFireHold k s).rail j =
      if k = j then { s.rail k with fireHold := true } else s.rail j)
    ∧ (setFireHold k s).fires = s.fires ∧ (setFireHold k s).shutters = s.shutters := by
  rw [setFireHold_eq]
  exact ⟨fun j => State.rail_modRail s k j (fun r => { r with fireHold := true }), rfl, rfl⟩

theorem setFireHold_rail (k j : Crane) (s : State) : (setFireHold k s).rail j =
    if k = j then { s.rail k with fireHold := true } else s.rail j := (setFireHold_records k s).1 j

/-- SEALED stops the confirm timer (R136). -/
def sealedFire (a : Aisle) (s : State) : State :=
  s.modFire a (fun f => { f with state := .sealed, confirm := f.confirm.stopped })

theorem enterSealed_eq (a : Aisle) (s : State) :
    enterSealed a s = setFireHold (eastCrane a) (setFireHold (westCrane a) (sealedFire a s)) := rfl

theorem enterSealed_fire (a : Aisle) (s : State) : (enterSealed a s).fire a =
    { s.fire a with state := .sealed, confirm := (s.fire a).confirm.stopped } := by
  unfold State.fire
  rw [enterSealed_eq, (setFireHold_records ..).2.1, (setFireHold_records ..).2.1]
  exact State.fire_modFire_self ..

theorem enterSealed_shutters (a : Aisle) (s : State) : (enterSealed a s).shutters = s.shutters := by
  rw [enterSealed_eq, (setFireHold_records ..).2.2, (setFireHold_records ..).2.2]
  rfl

theorem enterSealed_rail (a : Aisle) (s : State) (j : Crane) : (enterSealed a s).rail j =
    if aisleOf j = a then { s.rail j with fireHold := true } else s.rail j := by
  have hne := west_ne_east a
  have haisle : aisleOf j = a ↔ westCrane a = j ∨ eastCrane a = j := by
    rw [← mem_cranesOf_iff, mem_cranesOf, eq_comm, @eq_comm _ j]
  have hrail (i : Crane) : (sealedFire a s).rail i = s.rail i := rfl
  rw [enterSealed_eq, setFireHold_rail, setFireHold_rail, setFireHold_rail, if_neg hne, hrail, hrail, hrail]
  by_cases hw : westCrane a = j
  · subst hw
    simp [haisle, hne.symm]
  · by_cases he : eastCrane a = j
    · subst he
      simp [haisle]
    · simp [haisle, hw, he]

/-! ### The entry to CLOSING (R131, R133, R134) -/

/-- Both lines are released, and the aisle is in CLOSING with its confirm timer started. -/
def closingStarted (a : Aisle) (s : State) : State :=
  (modShutters a (fun r => { r with holdOpen := false }) s).modFire a (fun f =>
    { f with state := .closing, hold := f.hold.stopped, confirm := startTimer s.params.shutterConfirm })

theorem closingStarted_shutter (h : aisleOf j = a) (s : State) :
    (closingStarted a s).shutter j = { s.shutter j with holdOpen := false } := modShutters_shutter h _ s

theorem closingStarted_fire (a : Aisle) (s : State) : (closingStarted a s).fire a = { s.fire a with
    state := .closing, hold := (s.fire a).hold.stopped, confirm := startTimer s.params.shutterConfirm } :=
  State.fire_modFire_self ..

theorem bothShutters_iff (s : State) (a : Aisle) (f : Shutter → Bool) :
    s.bothShutters a f = true ↔ ∀ j ∈ cranesOf a, f (s.shutter j) = true := List.all_eq_true

theorem enterClosing_eq (a : Aisle) (s : State) [Decidable (∀ j ∈ cranesOf a, (s.shutter j).isClosed = true)] :
    enterClosing a s = if ∀ j ∈ cranesOf a, (s.shutter j).isClosed = true then enterSealed a (closingStarted a s)
      else closingStarted a s := by
  have hclosed : (closingStarted a s).bothShutters a Shutter.isClosed = true ↔
      ∀ j ∈ cranesOf a, (s.shutter j).isClosed = true := by
    rw [bothShutters_iff]
    refine forall₂_congr fun j hj => ?_
    rw [closingStarted_shutter ((mem_cranesOf_iff a j).mp hj)]
    exact Iff.rfl
  show (if (closingStarted a s).bothShutters a Shutter.isClosed = true then enterSealed a (closingStarted a s)
    else closingStarted a s) = _
  simp only [hclosed]

/-- What the entry to CLOSING, or at once to SEALED, leaves (R131, R133 to R136). -/
structure Closes (a : Aisle) (s t : State) : Prop where
  shutter : ∀ j, aisleOf j = a → t.shutter j = { s.shutter j with holdOpen := false }
  reservation : ∀ j, (t.rail j).reservation = (s.rail j).reservation
  hold : (t.fire a).hold.running = false
  sealed : (∀ j ∈ cranesOf a, (s.shutter j).isClosed = true) →
    (t.fire a).state = .sealed ∧ (t.fire a).confirm.running = false ∧ ∀ j ∈ cranesOf a, (t.rail j).fireHold = true
  closing : ¬ (∀ j ∈ cranesOf a, (s.shutter j).isClosed = true) →
    (t.fire a).state = .closing ∧ (t.fire a).confirm = startTimer s.params.shutterConfirm

theorem enterClosing_closes (a : Aisle) (s : State) : Closes a s (enterClosing a s) := by
  have hfire := closingStarted_fire a s
  have hrail (j : Crane) : (closingStarted a s).rail j = s.rail j := rfl
  by_cases h : ∀ j ∈ cranesOf a, (s.shutter j).isClosed = true
  · rw [enterClosing_eq, if_pos h]
    have hsealed := enterSealed_fire a (closingStarted a s)
    have hsealedRail := enterSealed_rail a (closingStarted a s)
    refine ⟨fun j hj => ?_, fun j => ?_, by rw [hsealed, hfire]; rfl, fun _ => ⟨by rw [hsealed], by rw [hsealed]; rfl, ?_⟩,
      fun hn => absurd h hn⟩
    · exact (congrArg (fun v : Vector Shutter 4 => v[j]) (enterSealed_shutters ..)).trans (closingStarted_shutter hj s)
    · rw [hsealedRail, hrail]
      split <;> rfl
    · intro j hj
      rw [hsealedRail, if_pos ((mem_cranesOf_iff a j).mp hj)]
  · rw [enterClosing_eq, if_neg h]
    exact ⟨fun j hj => closingStarted_shutter hj s, fun _ => rfl, by rw [hfire]; rfl, fun hc => absurd hc h,
      fun _ => by rw [hfire]; exact ⟨rfl, rfl⟩⟩

/-! ### The release of the lines in PARKING (R131) -/

/-- What the plane-clear flags of an aisle in PARKING release: a line stays asserted where its plane is not clear, and when both
are released the aisle closes (R131). -/
structure Releases (a : Aisle) (s t : State) : Prop where
  shutter : ∀ j, aisleOf j = a →
    t.shutter j = { s.shutter j with holdOpen := (s.shutter j).holdOpen && !(s.shutter j).planeClear }
  reservation : ∀ j, (t.rail j).reservation = (s.rail j).reservation
  stays : (∃ j ∈ cranesOf a, (t.shutter j).holdOpen = true) → t.fires = s.fires
  closes : (∀ j ∈ cranesOf a, (t.shutter j).holdOpen = false) → ∃ v,
    v.params = s.params ∧ (∀ j ∈ cranesOf a, (v.shutter j).isClosed = (s.shutter j).isClosed) ∧ Closes a v t

theorem releaseClear_releases (h : (s.fire a).state = .parking) : Releases a s (releaseClear a s) := by
  set v := modShutters a (fun r => { r with holdOpen := r.holdOpen && !r.planeClear }) s with hv
  have hshutter (j : Crane) (hj : aisleOf j = a) : v.shutter j =
      { s.shutter j with holdOpen := (s.shutter j).holdOpen && !(s.shutter j).planeClear } := modShutters_shutter hj _ s
  have hreleased : v.bothShutters a (fun r => !r.holdOpen) = true ↔ ∀ j ∈ cranesOf a, (v.shutter j).holdOpen = false := by
    simp only [bothShutters_iff, Bool.not_eq_true']
  have heq : releaseClear a s = if v.bothShutters a (fun r => !r.holdOpen) = true then enterClosing a v else v := by
    have hparking : (v.fire a).state = .parking := h
    unfold releaseClear closeIfReleased
    rw [if_pos h, ← hv]
    simp only [hparking, true_and]
  rw [heq]
  split
  · next hall =>
    replace hall := hreleased.mp hall
    have hcloses := enterClosing_closes a v
    have hline (j : Crane) (hj : aisleOf j = a) : { v.shutter j with holdOpen := false } = v.shutter j := by
      rw [← hall j ((mem_cranesOf_iff a j).mpr hj)]
    refine ⟨fun j hj => ?_, hcloses.reservation, ?_, fun _ => ⟨v, rfl, fun j hj => ?_, hcloses⟩⟩
    · rw [hcloses.shutter j hj, hline j hj, hshutter j hj]
    · rintro ⟨j, hj, hopen⟩
      rw [hcloses.shutter j ((mem_cranesOf_iff a j).mp hj)] at hopen
      contradiction
    · rw [hshutter j ((mem_cranesOf_iff a j).mp hj)]
      rfl
  · next hnone =>
    exact ⟨hshutter, fun _ => rfl, fun _ => rfl, fun hall => absurd (hreleased.mpr hall) hnone⟩

/-! ### The plane-clear flags (R130) -/

theorem planeIsClear_congr (hchannels : t.channels = s.channels) (hparams : t.params = s.params)
    (hreservation : ∀ j, (t.rail j).reservation = (s.rail j).reservation) (j : Crane) :
    t.planeIsClear j = s.planeIsClear j := by
  have hedges (c : Crane) : t.edges c = s.edges c := by
    unfold State.edges
    rw [hreservation, hparams]
  have hspan (c : Crane) : t.planeSpan c = s.planeSpan c := by
    unfold State.planeSpan State.calibrated State.channel
    rw [hchannels, hedges]
  unfold State.planeIsClear
  simp only [hspan, hparams]

/-- The plane-clear flags of an aisle take their values (R130). -/
def planesTaken (a : Aisle) (s : State) : State :=
  forCranes (cranesOf a) (fun k s => s.modShutter k (fun r => { r with planeClear := s.planeIsClear k })) s

theorem planesTaken_eq (a : Aisle) (s : State) : planesTaken a s = (s.modShutter (westCrane a) (fun r =>
    { r with planeClear := s.planeIsClear (westCrane a) })).modShutter (eastCrane a) (fun r =>
      { r with planeClear := s.planeIsClear (eastCrane a) }) := by
  rfl

theorem planesTaken_shutter (h : aisleOf j = a) (s : State) :
    (planesTaken a s).shutter j = { s.shutter j with planeClear := s.planeIsClear j } := by
  have hne := west_ne_east a
  rw [planesTaken_eq]
  rcases crane_of_aisle h with rfl | rfl
  · rw [State.shutter_modShutter_other _ (Ne.symm hne), State.shutter_modShutter_self]
  · rw [State.shutter_modShutter_self, State.shutter_modShutter_other _ hne]

theorem planesTaken_other (h : aisleOf j ≠ a) (s : State) : (planesTaken a s).shutter j = s.shutter j :=
  (spares_forCranes (Ne.symm h) (fun _ s hk => spares_modShutter hk _ s) s).shutter j rfl

/-- What the evaluation of the planes of an aisle leaves (R130, R131). -/
structure PlanesEvaluated (a : Aisle) (s t : State) : Prop where
  frame : t = { s with
    fires := t.fires, shutters := t.shutters, rails := t.rails, portC := t.portC, portK := t.portK, sources := t.sources }
  clear : ∀ j, aisleOf j = a → (t.shutter j).planeClear = t.planeIsClear j
  other : ∀ j, aisleOf j ≠ a → t.shutter j = s.shutter j
  quiet : (s.fire a).state ≠ .parking → t = { s with shutters := t.shutters }
    ∧ ∀ j, t.shutter j = { s.shutter j with planeClear := (t.shutter j).planeClear }
  parking : (s.fire a).state = .parking → Releases a (planesTaken a s) t

theorem evaluatePlanes_evaluated (a : Aisle) (s : State) : PlanesEvaluated a s (evaluatePlanes a s) := by
  have hframe := (deviceWork_releaseClear a (planesTaken a s)).frame
  have hother (j : Crane) (hj : aisleOf j ≠ a) : (releaseClear a (planesTaken a s)).shutter j = s.shutter j :=
    ((spares_releaseClear (a := aisleOf j) (Ne.symm hj) _).shutter j rfl).trans (planesTaken_other hj s)
  show PlanesEvaluated a s (releaseClear a (planesTaken a s))
  by_cases hparking : (s.fire a).state = .parking
  · have hreleases := releaseClear_releases (s := planesTaken a s) hparking
    generalize releaseClear a (planesTaken a s) = t at *
    refine ⟨hframe, fun j hj => ?_, hother, fun h => absurd hparking h, fun _ => hreleases⟩
    rw [hreleases.shutter j hj, planesTaken_shutter hj]
    exact (planeIsClear_congr (by rw [hframe]) (by rw [hframe]) hreleases.reservation j).symm
  · have hkept : releaseClear a (planesTaken a s) = planesTaken a s := if_neg hparking
    rw [hkept] at hframe hother ⊢
    refine ⟨hframe, fun j hj => ?_, hother, fun _ => ⟨rfl, fun j => ?_⟩, fun h => absurd h hparking⟩
    · rw [planesTaken_shutter hj]
      rfl
    · by_cases hj : aisleOf j = a
      · rw [planesTaken_shutter hj]
      · rw [hother j hj]

/-! ### The window (R98, R103, R104) -/

/-- The window's figures are taken and the window envelope formed (R98, R104). -/
def windowTaken (k : Crane) (s : State) : State := formEnvelope k (measureWindow k s)

/-- The channel record after a window end (R98, R99, R104). -/
def State.windowRecord (s : State) (k : Crane) (c : Channel) : Channel :=
  { c with
    speed := windowSpeed c.delta s.params.pitch[k] c.windowLen
    direction := directionOf c.delta
    prev := c.counter
    windowLen := s.params.window
    windowLeft := s.params.window
    envelope := if c.state = .calibrated then
        some (s.params.envelope (s.posMm k) (windowSpeed c.delta s.params.pitch[k] c.windowLen) (directionOf c.delta))
      else none }

theorem windowTaken_channel (k : Crane) (s : State) : (windowTaken k s).channel k = s.windowRecord k (s.channel k) := by
  have hmeasured : (measureWindow k s).channel k = { s.channel k with
      speed := windowSpeed (s.channel k).delta s.params.pitch[k] (s.channel k).windowLen,
      direction := directionOf (s.channel k).delta, prev := (s.channel k).counter, windowLen := s.params.window,
      windowLeft := s.params.window } := State.channel_modChannel_self ..
  unfold windowTaken formEnvelope
  rw [State.channel_modChannel_self]
  unfold State.calibrated State.presentEnvelope State.posMm
  simp only [hmeasured, decide_eq_true_iff]
  rfl

theorem windowTaken_other (h : j ≠ k) (s : State) : (windowTaken k s).channel j = s.channel j :=
  (State.channel_modChannel_other _ (Ne.symm h) _).trans (State.channel_modChannel_other s (Ne.symm h) _)

/-- The stopping distance as an integer (R103). -/
theorem stopping_cast (p : Params) (v : Nat) : (p.stopping v : Int) =
    min 262143 (((v * v + 2 * p.brake - 1) / (2 * p.brake) + (v * p.reaction + 1000 - 1) / 1000 : Nat) : Int) :=
  Nat.cast_min (262143 : Nat) _

/-- The envelope reaches beyond the body by the stopping distance, in the direction of the count difference (R104). -/
theorem envelope_directionOf (p : Params) (pos d : Int) (v : Nat) : p.envelope pos v (directionOf d) =
    ⟨pos - p.halfLength - if d < 0 then (p.stopping v : Int) else 0,
      pos + p.halfLength + if 0 < d then (p.stopping v : Int) else 0⟩ := by
  unfold directionOf
  rcases lt_trichotomy d 0 with hd | rfl | hd
  · rw [if_neg hd.not_gt, if_pos hd, if_pos hd, if_neg hd.not_gt, add_zero]
    rfl
  · simp only [lt_irrefl, if_false, sub_zero, add_zero]
    rfl
  · rw [if_pos hd, if_neg hd.not_gt, if_pos hd, sub_zero]
    rfl

theorem overrun_windowTaken (k : Crane) (s : State) {e : Span}
    (he : s.params.envelope (s.posMm k) (windowSpeed (s.channel k).delta s.params.pitch[k] (s.channel k).windowLen)
      (directionOf (s.channel k).delta) = e) : (windowTaken k s).overrun k = true ↔
        (s.channel k).state = .calibrated ∧ (e.west < (s.edges k).west ∨ (s.edges k).east < e.east) := by
  have hchannel := windowTaken_channel k s
  have hedges : (windowTaken k s).edges k = s.edges k := rfl
  unfold State.overrun
  rw [Bool.and_eq_true, calibrated_iff, hchannel, hedges]
  unfold State.windowRecord
  rw [he]
  refine and_congr_right fun hcal => ?_
  dsimp only at hcal ⊢
  rw [if_pos hcal]
  unfold Span.outside
  simp only [Bool.or_eq_true, decide_eq_true_eq]

theorem overrunCheck_frame (k : Crane) (s : State) : overrunCheck k s = { s with
    rails := (overrunCheck k s).rails, portC := (overrunCheck k s).portC, portK := (overrunCheck k s).portK,
    sources := (overrunCheck k s).sources } := by
  unfold overrunCheck
  split
  · exact (stopCrane_frame k .overrun s).2
  · rfl

theorem halted_eq_false_iff (c : CraneState) :
    c.halted = false ↔ c = .ready ∨ c = .unhomed ∨ c = .silent ∨ c = .parked := by
  cases c <;> decide

/-- The window end but for the evaluation of the planes (R98, R104, R117). -/
def windowJudged (k : Crane) (s : State) : State := overrunCheck k (windowTaken k s)

theorem windowJudged_frame (k : Crane) (s : State) : windowJudged k s = { s with
    channels := (windowTaken k s).channels, rails := (windowJudged k s).rails, portC := (windowJudged k s).portC,
    portK := (windowJudged k s).portK, sources := (windowJudged k s).sources } :=
  overrunCheck_frame k (windowTaken k s)

theorem execWindowEnd_eq (hr : s.inReset = false) (hleft : (s.channel k).windowLeft = 0) (hs : s.settled) :
    exec (.windowEnd k) s = .next (evaluatePlanes (aisleOf k) (windowJudged k s)) := by
  have hsettled : (evaluatePlanes (aisleOf k) (windowJudged k s)).settled := by
    intro j
    rw [(evaluatePlanes_evaluated (aisleOf k) (windowJudged k s)).frame, windowJudged_frame]
    exact hs j
  exact congrArg Host.Outcome.next ((if_pos ⟨hr, hleft⟩).trans (settle_of_settled hsettled))

end Sys2Proof.Machine

open Sys2Proof Sys2Proof.Machine

/-- Settles O44: the window's figures are taken, an overrun stops the crane, and the evaluation of the planes releases lines in
PARKING alone. -/
theorem windowEndMeasures : Obligations.WindowEndMeasures := by
  unfold Obligations.WindowEndMeasures
  refine ⟨?measures, ?parking⟩
  case measures =>
    intro s k hr hleft hs c d speed stop p east west overrun inService
    have henvelope : s.params.envelope p (windowSpeed c.delta s.params.pitch[k] c.windowLen) (directionOf c.delta) =
        ⟨west, east⟩ := by
      rw [envelope_directionOf, stopping_cast]
      rfl
    have hoverrun : (windowTaken k s).overrun k = true ↔ overrun := overrun_windowTaken k s henvelope
    have hservice : (s.rail k).state.halted = false ↔ inService := halted_eq_false_iff _
    have hjudged := windowJudged_frame k s
    have hkept (hno : ¬ (overrun ∧ inService)) : windowJudged k s = windowTaken k s := by
      by_cases ho : overrun
      · have hhalted : (s.rail k).state.halted = true := by
          rw [← Bool.not_eq_false, hservice]
          exact fun hin => hno ⟨ho, hin⟩
        exact (if_pos (hoverrun.mpr ho)).trans (stopCrane_halted (s := windowTaken k s) hhalted .overrun)
      · exact if_neg (mt hoverrun.mp ho)
    have hstops (ho : overrun) (hin : inService) : Stops (windowTaken k s) (windowJudged k s) k .overrun := by
      have heq : windowJudged k s = stopCrane k .overrun (windowTaken k s) := if_pos (hoverrun.mpr ho)
      rw [heq]
      exact stopCrane_stops (s := windowTaken k s) (hservice.mpr hin) .overrun
    have hexec := execWindowEnd_eq hr hleft hs
    have hplanes := evaluatePlanes_evaluated (aisleOf k) (windowJudged k s)
    generalize evaluatePlanes (aisleOf k) (windowJudged k s) = t at hexec hplanes
    generalize windowJudged k s = v at *
    have hchannel (j : Crane) : t.channel j = (windowTaken k s).channel j := by
      rw [hplanes.frame, hjudged]
      rfl
    have hshutter (j : Crane) : v.shutter j = s.shutter j := by
      rw [hjudged]
      rfl
    have hfire (a : Aisle) : v.fire a = s.fire a := by
      rw [hjudged]
      rfl
    refine ⟨t, hexec, ?_, fun j hj => (hchannel j).trans (windowTaken_other hj s), hplanes.clear,
      fun j hj => (hplanes.other j hj).trans (hshutter j), fun hquiet => ?_⟩
    · rw [hchannel, windowTaken_channel]
      unfold State.windowRecord
      rw [henvelope]
      rfl
    · obtain ⟨hframe, hshutters⟩ := hplanes.quiet (by rw [hfire]; exact hquiet)
      refine ⟨by rw [hframe, hjudged], fun j => (hshutters j).trans (by rw [hshutter]), fun hno => ?_, fun ho hin => ?_⟩
      · rw [hframe, hkept hno]
        rfl
      · have hstop := hstops ho hin
        have hrail (j : Crane) : t.rail j = v.rail j := by rw [hframe]; rfl
        refine ⟨(hrail k).trans hstop.rail, fun j hj => (hrail j).trans (hstop.rails j hj), ?_, ?_⟩
        · rw [hframe]
          exact hstop.portC
        · rw [hframe, hjudged]
  case parking =>
    intro s k hr hleft hs a hparking
    have hexec := execWindowEnd_eq hr hleft hs
    have hplanes := evaluatePlanes_evaluated a (windowJudged k s)
    have hjudged := windowJudged_frame k s
    generalize evaluatePlanes a (windowJudged k s) = t at hexec hplanes
    generalize windowJudged k s = v at *
    have hreleases := hplanes.parking (by rw [hjudged]; exact hparking)
    have hshutter (j : Crane) (hj : aisleOf j = a) : (planesTaken a v).shutter j =
        { s.shutter j with planeClear := v.planeIsClear j } := by
      have hkept : v.shutter j = s.shutter j := by
        rw [hjudged]
        rfl
      rw [planesTaken_shutter hj, hkept]
    refine ⟨t, hexec, fun j hj => ?_, fun hopen => ?_, fun hall => ?_⟩
    · have hj := (mem_cranesOf_iff a j).mp hj
      have hclear := hplanes.clear j hj
      refine ⟨hclear, ?_⟩
      rw [← hclear, hreleases.shutter j hj, hshutter j hj]
    · exact (hreleases.stays hopen).trans (by rw [hjudged]; rfl)
    · obtain ⟨w, hparams, hclosed, hcloses⟩ := hreleases.closes hall
      have hclosed' : (∀ j ∈ cranesOf a, (w.shutter j).isClosed = true) ↔ ∀ j ∈ cranesOf a, (s.shutter j).isClosed = true := by
        refine forall₂_congr fun j hj => ?_
        rw [hclosed j hj, hshutter j ((mem_cranesOf_iff a j).mp hj)]
        exact Iff.rfl
      refine ⟨hcloses.hold, fun h => hcloses.sealed (hclosed'.mpr h), fun h => ?_⟩
      obtain ⟨hstate, hconfirm⟩ := hcloses.closing (mt hclosed'.mp h)
      refine ⟨hstate, hconfirm.trans ?_⟩
      rw [hparams, hjudged]
      rfl

end

section
/-!
SUPPORT. CONFIGURE of one value (R169 to R171): what the consistency pass does to a frame of one entry.
-/
namespace Sys2Proof.Machine

variable {s t : State} {q : Request} {p new : Params} {id inst : Nat} {v w : Int} {k j : Crane} {a : Aisle}

/-! ### Frames of one entry (R169) -/

theorem writes_single (id inst : Nat) (v : Int) (id' inst' : Nat) :
    writes [⟨id, inst, v⟩] id' inst' = true ↔ id = id' ∧ inst = inst' := by
  rw [writes_iff]
  simp

theorem writes_single_self (id inst : Nat) (v : Int) : writes [⟨id, inst, v⟩] id inst = true := (writes_single ..).mpr ⟨rfl, rfl⟩

theorem writes_single_id {id' : Nat} (h : id ≠ id') (inst inst' : Nat) (v : Int) :
    writes [⟨id, inst, v⟩] id' inst' = false := by
  rw [← Bool.not_eq_true, writes_single]
  exact fun hw => h hw.1

theorem writes_single_crane (h : j ≠ k) (id id' : Nat) (v : Int) : writes [⟨id, k.val, v⟩] id' j.val = false := by
  rw [← Bool.not_eq_true, writes_single]
  exact fun hw => h (Fin.ext hw.2.symm)

theorem clampAll_single (id inst : Nat) (v : Int) (p : Params) :
    clampAll [⟨id, inst, v⟩] p = p.put id inst (clampParam id v) := rfl

theorem configEntries_one {body : List Byte} (h : body.length = 7) :
    configEntries body = [⟨wordAt body 0, byteAt body 2, signedAt body 3⟩] := configEntries_single h

/-- CONFIGURE of one value that passes the consistency pass. -/
theorem configure_single (h : s.hasRequest .c q) (hk : q.kind = .configure) (hlen : q.body.length = 7)
    (hid : wordAt q.body 0 = id) (hat : byteAt q.body 2 = inst) (hinst : inst < paramInstances id)
    (hwing : s.wing = .loading ∨ isGeometry id = false)
    (hcons : consistent s [⟨id, inst, signedAt q.body 3⟩] = some new) (hget : new.get id inst = w)
    (htake : takeParams [⟨id, inst, signedAt q.body 3⟩] new s = t) (ht : t.settled) :
    exec .configure s = .next (t.answered .c q (if w = signedAt q.body 3 then .ok else .clamped)
      ([1] ++ put16 (wordAt q.body 0) ++ put8 (byteAt q.body 2) ++ putInt w)) := by
  subst hid hat hget htake
  have hl := configEntries_one hlen
  rw [← hl] at hcons ht
  have hserve := serveConfigure_eq (by
    rw [hl]
    intro e he
    obtain rfl := List.mem_singleton.mp he
    exact hinst) (by
    rw [hl]
    refine hwing.imp_right fun hg e he => ?_
    obtain rfl := List.mem_singleton.mp he
    exact hg) hcons ht
  refine congrArg Host.Outcome.next ((take_eq_answered h hk rfl hserve).trans ?_)
  rw [hl, valueClamped_single, okOrClamped_decide]
  refine congrArg₂ (State.answered _ .c q) ?_ ?_
  · by_cases hw : new.get (wordAt q.body 0) (byteAt q.body 2) = signedAt q.body 3 <;> simp [hw]
  · simp [put8]

/-- CONFIGURE of one value that the consistency pass cannot take (R171). -/
theorem configure_unmet (h : s.hasRequest .c q) (hk : q.kind = .configure) (hlen : q.body.length = 7)
    (hid : wordAt q.body 0 = id) (hat : byteAt q.body 2 = inst) (hinst : inst < paramInstances id)
    (hwing : s.wing = .loading) (hcons : consistent s [⟨id, inst, signedAt q.body 3⟩] = none) :
    exec .configure s = .next (s.answered .c q .outOfRange []) := by
  subst hid hat
  have hl := configEntries_one hlen
  refine congrArg Host.Outcome.next (take_eq_answered h hk rfl ?_)
  unfold serveConfigure
  dsimp only
  rw [hl, if_neg (by simpa using hinst), if_neg (by simp [hwing]), hcons]
  rfl

/-- An entry that is not in the table refuses the frame (R169, R170). -/
theorem configure_unlisted (h : s.hasRequest .c q) (hk : q.kind = .configure) (hlen : q.body.length = 7)
    (hinst : paramInstances (wordAt q.body 0) ≤ byteAt q.body 2) :
    exec .configure s = .next (s.answered .c q .outOfRange []) := by
  refine congrArg Host.Outcome.next (take_eq_answered h hk rfl ?_)
  unfold serveConfigure
  dsimp only
  rw [configEntries_one hlen]
  exact if_pos (by simpa using hinst)

/-- A geometry parameter is refused while the wing is OPEN (R170). -/
theorem configure_opened (h : s.hasRequest .c q) (hk : q.kind = .configure) (hlen : q.body.length = 7)
    (hinst : byteAt q.body 2 < paramInstances (wordAt q.body 0)) (hwing : s.wing = .opened)
    (hgeometry : isGeometry (wordAt q.body 0) = true) :
    exec .configure s = .next (s.answered .c q .wingState []) := by
  refine congrArg Host.Outcome.next (take_eq_answered h hk rfl ?_)
  unfold serveConfigure
  dsimp only
  rw [configEntries_one hlen, if_neg (by simpa using hinst)]
  exact if_pos ⟨hwing, by simpa using hgeometry⟩

theorem paramInstances_le_iff (id inst : Nat) : paramInstances id ≤ inst ↔ id = 0 ∨ id = 14 ∨ id = 15 ∨ 38 < id
    ∨ inst ≥ (if id ≤ 5 then 1 else if id ≤ 8 then 2 else if id ≤ 19 ∨ id = 29 then 4 else 1) := by
  unfold paramInstances
  grind

/-- New values of one parameter that is no rail length, and that leave the geometry and the channels alone, are all that changes. -/
theorem takeParams_single (h8 : id ≠ 8)
    (hchannel : new.pitch = s.params.pitch ∧ new.edgeMode = s.params.edgeMode ∧ new.inverted = s.params.inverted)
    (hlanes : new.bays = s.params.bays ∧ new.levels = s.params.levels ∧ new.laneDepth = s.params.laneDepth)
    (hcap : new.capacity = s.params.capacity) : takeParams [⟨id, inst, v⟩] new s = { s with params := new } :=
  takeParams_params (fun _ => writes_single_id h8 ..) hchannel hlanes hcap

/-! ### Values that take no part in the consistency pass (R170) -/

theorem consistent_single (hid : ¬ (8 ≤ id ∧ id ≤ 13) ∧ id ≠ 22 ∧ id ≠ 26 ∧ id ≠ 27)
    (hput : s.params.put id inst (clampParam id v) = new) (hreach : new.parkReach < new.parkClearance) :
    consistent s [⟨id, inst, v⟩] = some new := by
  obtain ⟨hplace, h22, h26, h27⟩ := hid
  rw [consistent_unplaced s (fun i x h8 h13 => writes_single_id (by omega) ..) (writes_single_id h27 ..), clampAll_single, hput,
    fixReach_unwritten new (writes_single_id h22 ..) (writes_single_id h26 ..), if_pos hreach]

/-! ### T_park and B (R171, step 6) -/

/-- A value is lowered no further than the clearance needs. -/
theorem lowered_eq {least c other clearance : Int} (hle : least ≤ w ∧ w ≤ c) (hclear : w + other < clearance)
    (hmax : ∀ x, w < x → x ≤ c → ¬ x + other < clearance) :
    c - min (max 0 (other + c - (clearance - 1))) (c - least) = w := by
  rcases hle.2.eq_or_lt with rfl | hlt
  · omega
  · have := hmax (w + 1) (by omega) (by omega)
    omega

theorem consistent_tPark (hw : 10 ≤ w ∧ w ≤ max 10 (min v 500)) (hclear : w + s.params.halfLength < s.params.parkClearance)
    (hmax : ∀ x, w < x → x ≤ max 10 (min v 500) → ¬ x + s.params.halfLength < s.params.parkClearance) :
    consistent s [⟨22, 0, v⟩] = some { s.params with tPark := w } := by
  have hreach : fixReach [⟨22, 0, v⟩] { s.params with tPark := max 10 (min v 500) } = { s.params with tPark := w } :=
    congrArg (fun x => { s.params with tPark := x }) (lowered_eq hw hclear hmax)
  rw [consistent_unplaced s (fun i x h8 h13 => writes_single_id (by omega) ..) (writes_single_id (by decide) ..)]
  show (if (fixReach [⟨22, 0, v⟩] { s.params with tPark := max 10 (min v 500) }).parkReach < _ then _ else _) = _
  rw [hreach, if_pos]
  · exact congrArg some hreach
  · show s.params.halfLength + w < s.params.parkClearance
    omega

theorem consistent_halfLength (hw : 200 ≤ w ∧ w ≤ max 200 (min v 5000)) (hclear : w + s.params.tPark < s.params.parkClearance)
    (hmax : ∀ x, w < x → x ≤ max 200 (min v 5000) → ¬ x + s.params.tPark < s.params.parkClearance) :
    consistent s [⟨26, 0, v⟩] = some { s.params with halfLength := w } := by
  have hlowered : max 200 (min v 5000) - min (max 0 (max 200 (min v 5000) + s.params.tPark - (s.params.parkClearance - 1)))
      (max 200 (min v 5000) - 200) = w := by
    rw [add_comm (max 200 (min v 5000)) s.params.tPark]
    exact lowered_eq hw hclear hmax
  have hreach : fixReach [⟨26, 0, v⟩] { s.params with halfLength := max 200 (min v 5000) } = { s.params with halfLength := w } :=
    congrArg (fun x => { s.params with halfLength := x }) hlowered
  rw [consistent_unplaced s (fun i x h8 h13 => writes_single_id (by omega) ..) (writes_single_id (by decide) ..)]
  show (if (fixReach [⟨26, 0, v⟩] { s.params with halfLength := max 200 (min v 5000) }).parkReach < _ then _ else _) = _
  rw [hreach, if_pos]
  · exact congrArg some hreach
  · exact hclear

/-! ### The gap G (R171, step 7, log 34) -/

/-- Two CALIBRATED reservations of an aisle lie a distance apart. -/
def State.gapPresent (s : State) (g : Int) : Prop :=
  ∃ (a : Aisle) (west east : Span), (s.rail (westCrane a)).reservation = .calibrated west
    ∧ (s.rail (eastCrane a)).reservation = .calibrated east ∧ g = east.west - west.east

theorem mem_presentGaps (s : State) (g : Int) : g ∈ [(0 : Aisle), 1].filterMap s.presentGap ↔ s.gapPresent g := by
  have hgap (a : Aisle) : s.presentGap a = some g ↔ ∃ west east : Span, (s.rail (westCrane a)).reservation = .calibrated west
      ∧ (s.rail (eastCrane a)).reservation = .calibrated east ∧ g = east.west - west.east := by
    unfold State.presentGap
    cases (s.rail (westCrane a)).reservation <;> cases (s.rail (eastCrane a)).reservation <;> simp [eq_comm]
  have hall : ∀ a : Aisle, a ∈ [(0 : Aisle), 1] := by decide
  simp only [List.mem_filterMap, hgap, hall, true_and]
  rfl

/-- The smallest of some values is the one that bounds them and is one of them. -/
theorem foldl_min_eq {c : Int} {l : List Int} (hle : w ≤ c) (hall : ∀ g ∈ l, w ≤ g) (hmem : w = c ∨ w ∈ l) :
    l.foldl min c = w := by
  refine eq_of_forall_lt_iff fun r => ?_
  rw [lt_foldl_min]
  constructor
  · rintro ⟨hc, hl⟩
    rcases hmem with rfl | hmem
    · exact hc
    · exact hl w hmem
  · intro hr
    exact ⟨hr.trans_le hle, fun g hg => hr.trans_le (hall g hg)⟩

theorem fixGap_single {c : Int} (hc : p.gap = c) (hw : c ≤ s.params.gap ∧ w = c
    ∨ s.params.gap < c ∧ w ≤ c ∧ (∀ g, s.gapPresent g → w ≤ g) ∧ (w = c ∨ s.gapPresent w)) :
    fixGap s [⟨27, 0, v⟩] p = { p with gap := w } := by
  subst hc
  unfold fixGap
  rcases hw with ⟨hle, rfl⟩ | ⟨hlt, hle, hall, hmem⟩
  · rw [if_neg (fun h => not_lt.mpr hle h.2)]
  · simp only [← mem_presentGaps] at hall hmem
    rw [if_pos ⟨writes_single_self .., hlt⟩, foldl_min_eq hle hall hmem]

/-- The pass in its steps, up to the gap (R171). -/
theorem consistent_upToGap {l : List ConfigEntry} {p1 p2 p3 p4 : Params}
    (h1 : [(0 : Aisle), 1].foldl (fun p a => fixPositions l a (fixLength l a p)) (clampAll l s.params) = p1)
    (h2 : allCranes.foldl (fun p k => fixLimits l k p) p1 = p2) (h3 : tryCranes (fixPlane l) p2 = some p3)
    (h4 : tryCranes (fixPark l) p3 = some p4) (h5 : fixReach l p4 = p4) (h6 : p4.parkReach < p4.parkClearance) :
    consistent s l = some (fixGap s l p4) := by
  unfold consistent
  dsimp only
  rw [h1, h2, h3]
  dsimp only [Option.bind_some]
  rw [h4]
  dsimp only
  rw [h5, if_pos h6]

theorem consistent_gap (hreach : s.params.parkReach < s.params.parkClearance)
    (hw : max 100 (min v 5000) ≤ s.params.gap ∧ w = max 100 (min v 5000) ∨ s.params.gap < max 100 (min v 5000)
      ∧ w ≤ max 100 (min v 5000) ∧ (∀ g, s.gapPresent g → w ≤ g) ∧ (w = max 100 (min v 5000) ∨ s.gapPresent w)) :
    consistent s [⟨27, 0, v⟩] = some { s.params with gap := w } := by
  have hunwritten (id inst : Nat) (h : id ≠ 27) : writes [⟨27, 0, v⟩] id inst = false := writes_single_id (Ne.symm h) ..
  have hclamp : clampAll [⟨27, 0, v⟩] s.params = { s.params with gap := max 100 (min v 5000) } := rfl
  have hplaces (p : Params) (a : Aisle) : fixPositions [⟨27, 0, v⟩] a (fixLength [⟨27, 0, v⟩] a p) = p := by
    rw [fixLength_unwritten p (hunwritten _ _ (by decide)),
      fixPositions_unwritten p fun i x h9 h13 => hunwritten _ _ (by omega)]
  have hlimits (p : Params) (k : Crane) : fixLimits [⟨27, 0, v⟩] k p = p :=
    fixLimits_unwritten p (hunwritten _ _ (by decide)) (hunwritten _ _ (by decide))
  have hgap : fixGap s [⟨27, 0, v⟩] { s.params with gap := max 100 (min v 5000) } = { s.params with gap := w } :=
    fixGap_single rfl hw
  rw [consistent_upToGap (List.foldl_fixed' (hplaces _) _) (List.foldl_fixed' (hlimits _) _)
    (tryCranes_fixed _ fun j => fixPlane_unwritten _ (hunwritten _ _ (by decide)))
    (tryCranes_fixed _ fun j => fixPark_unwritten _ (hunwritten _ _ (by decide)))
    (fixReach_unwritten _ (hunwritten _ _ (by decide)) (hunwritten _ _ (by decide))) hreach, hclamp, hgap]

/-! ### Positions and travel limits (R171, steps 2 to 5) -/

theorem insideRail_clamp (len v : Int) : insideRail len v = max 0 (min (max 0 (min v 200000)) len) := rfl

/-- The frame `[⟨id, k.val, v⟩]` of one position or travel limit. -/
theorem boundedPlaces_single (hid : 9 ≤ id ∧ id ≤ 13) (a : Aisle) :
    (boundedPlaces a).filter (fun e => writes [⟨id, k.val, v⟩] e.1 e.2) = if a = aisleOf k then [(id, k.val)] else [] := by
  obtain ⟨hlow, hhigh⟩ := hid
  interval_cases id <;> fin_cases a <;> fin_cases k <;> rfl

theorem clampParam_place (hid : 9 ≤ id ∧ id ≤ 13) (v : Int) : clampParam id v = max 0 (min v 200000) := by
  obtain ⟨hlow, hhigh⟩ := hid
  interval_cases id <;> rfl

/-- Reading and writing again what a place's parameter was written (R170). -/
theorem put_place (hid : 9 ≤ id ∧ id ≤ 13) (p : Params) (k : Crane) (x y : Int) :
    (p.put id k.val x).get id k.val = x ∧ (∀ a : Aisle, (p.put id k.val x).get 8 a.val = p.railLength[a])
      ∧ (p.put id k.val x).put id k.val y = p.put id k.val y := by
  obtain ⟨hlow, hhigh⟩ := hid
  interval_cases id <;>
    simp [Params.put_stationPos, Params.put_planePos, Params.put_parkPos, Params.put_tmin, Params.put_tmax,
      Params.get_stationPos, Params.get_planePos, Params.get_parkPos, Params.get_tmin, Params.get_tmax, Params.get_railLength]

/-- A written position is clamped into its range and then into the rail length (R170, R171, step 2). -/
theorem positions_single (hid : 9 ≤ id ∧ id ≤ 13) (p : Params) :
    [(0 : Aisle), 1].foldl (fun p a => fixPositions [⟨id, k.val, v⟩] a (fixLength [⟨id, k.val, v⟩] a p))
      (clampAll [⟨id, k.val, v⟩] p) = p.put id k.val (insideRail p.railLength[aisleOf k] v) := by
  have hlength (a : Aisle) (p : Params) : fixLength [⟨id, k.val, v⟩] a p = p :=
    fixLength_unwritten p (writes_single_id (by omega) ..)
  rw [foldl_aisles_one (aisleOf k)]
  · rw [hlength, fixPositions_eq, boundedPlaces_single hid, if_pos rfl, clampAll_single, clampParam_place hid]
    obtain ⟨hget, hlen, hput⟩ := put_place hid p k (max 0 (min v 200000)) (insideRail p.railLength[aisleOf k] v)
    rw [List.foldl_cons, List.foldl_nil, hget, hlen, ← insideRail_clamp, hput]
  · intro b hb p
    rw [hlength, fixPositions_eq, boundedPlaces_single hid, if_neg hb]
    rfl

section
variable (hid : 9 ≤ id ∧ id ≤ 13) {p2 p3 p4 : Params}
  (hlimits : fixLimits [⟨id, k.val, v⟩] k (s.params.put id k.val (insideRail s.params.railLength[aisleOf k] v)) = p2)
include hid hlimits

/-- The passes over the cranes act at the crane whose place is written (R171, steps 3 to 5). -/
theorem consistent_place (hplane : fixPlane [⟨id, k.val, v⟩] k p2 = some p3)
    (hpark : fixPark [⟨id, k.val, v⟩] k p3 = some p4) (hreach : p4.parkReach < p4.parkClearance) :
    consistent s [⟨id, k.val, v⟩] = some p4 :=
  consistent_steps (positions_single hid s.params)
    ((foldl_allCranes_one k (fun j hj p => fixLimits_unwritten p (writes_single_crane hj ..) (writes_single_crane hj ..)) _).trans
      hlimits)
    ((tryCranes_one k fun j hj p => fixPlane_unwritten p (writes_single_crane hj ..)).trans hplane)
    ((tryCranes_one k fun j hj p => fixPark_unwritten p (writes_single_crane hj ..)).trans hpark)
    (fixReach_unwritten _ (writes_single_id (by omega) ..) (writes_single_id (by omega) ..)) hreach
    (fixGap_unwritten s _ (writes_single_id (by omega) ..))

/-- With no clear point for a written place the pass cannot be met. -/
theorem consistent_noPlace (hnone : (fixPlane [⟨id, k.val, v⟩] k p2).bind (fixPark [⟨id, k.val, v⟩] k) = none) :
    consistent s [⟨id, k.val, v⟩] = none := by
  have hplane := tryCranes_one (p := p2) k fun j hj p =>
    fixPlane_unwritten (l := [⟨id, k.val, v⟩]) p (writes_single_crane hj ..)
  have hpark : tryCranes (fixPark [⟨id, k.val, v⟩]) = fixPark [⟨id, k.val, v⟩] k := funext fun p =>
    tryCranes_one k fun j hj p => fixPark_unwritten p (writes_single_crane hj ..)
  unfold consistent
  dsimp only
  rw [positions_single hid, foldl_allCranes_one k (fun j hj p =>
    fixLimits_unwritten p (writes_single_crane hj ..) (writes_single_crane hj ..)), hlimits, hplane, hpark, hnone]

end

section
variable (hreach : s.params.parkReach < s.params.parkClearance)
include hreach

theorem consistent_stationPos (hw : w = insideRail s.params.railLength[aisleOf k] v) :
    consistent s [⟨9, k.val, v⟩] = some { s.params with stationPos := s.params.stationPos.set k w } := by
  subst hw
  refine consistent_place (by decide) (fixLimits_unwritten _ (writes_single_id (by decide) ..) (writes_single_id (by decide) ..))
    ((fixPlane_unwritten _ (writes_single_id (by decide) ..)).trans (congrArg some (Params.put_stationPos ..)))
    (fixPark_unwritten _ (writes_single_id (by decide) ..)) hreach

/-- A written Tmin stays no higher than Tmax (R171, step 3). -/
theorem consistent_tmin (hw : w = min (insideRail s.params.railLength[aisleOf k] v) s.params.tmax[k]) :
    consistent s [⟨12, k.val, v⟩] = some { s.params with tmin := s.params.tmin.set k w } := by
  subst hw
  refine consistent_place (by decide) ?_ (fixPlane_unwritten _ (writes_single_id (by decide) ..))
    (fixPark_unwritten _ (writes_single_id (by decide) ..)) hreach
  have h13 : ¬ writes [⟨12, k.val, v⟩] 13 k.val = true := by
    rw [writes_single_id (by decide)]
    exact Bool.false_ne_true
  unfold fixLimits
  rw [if_neg h13, if_pos (writes_single_self ..), Params.put_tmin, Params.get_tmin, Params.get_tmax, get_set_same, Params.put_tmin]
  split
  · next hlt => rw [min_eq_right hlt.le]; simp
  · next hle => rw [min_eq_left (not_lt.mp hle)]

theorem consistent_tmax (hw : w = max (insideRail s.params.railLength[aisleOf k] v) s.params.tmin[k]) :
    consistent s [⟨13, k.val, v⟩] = some { s.params with tmax := s.params.tmax.set k w } := by
  subst hw
  refine consistent_place (by decide) ?_ (fixPlane_unwritten _ (writes_single_id (by decide) ..))
    (fixPark_unwritten _ (writes_single_id (by decide) ..)) hreach
  rw [fixLimits_written (writes_single_self ..), Params.put_tmax]
  simp

end

/-! ### A plane and a park position (R171, steps 4 and 5, log 33) -/

theorem nearestClear_none {len d x : Int} {centres : List Int} (h : ∀ z, ¬ ClearPoint len d centres z) :
    nearestClear len d centres x = none := by
  unfold nearestClear
  rw [List.filter_eq_nil_iff.mpr fun y _ hy => ?_]
  · rfl
  · simp only [Bool.and_eq_true, decide_eq_true_eq, clearOf_iff] at hy
    exact h y ⟨hy.1.1, hy.1.2, hy.2⟩

theorem fixNear_none {len : Int} {centres : List Int} (hin : 0 ≤ p.get id inst ∧ p.get id inst ≤ len)
    (h : ∀ z, ¬ ClearPoint len p.parkReach centres z) : fixNear len id inst centres p = none := by
  have hnear : ¬ clearOf p.parkReach centres (p.get id inst) = true := fun hclear =>
    h _ ⟨hin.1, hin.2, (clearOf_iff ..).mp hclear⟩
  unfold fixNear
  rw [if_neg hnear, nearestClear_none h]
  rfl

/-- The centres that a written plane must stay clear of: every park position of its aisle is unwritten. -/
theorem unwrittenParks (k : Crane) (v : Int) (p : Params) :
    ((cranesOf (aisleOf k)).filter (fun c => !writes [⟨10, k.val, v⟩] 11 c.val)).map (fun c => p.parkPos[c]) =
      (cranesOf (aisleOf k)).map (fun c => p.parkPos[c]) := by
  rw [List.filter_eq_self.mpr]
  intro c _
  rw [writes_single_id (by decide)]
  rfl

section
variable (hlen : 0 ≤ s.params.railLength[aisleOf k])
include hlen

theorem consistent_planePos (hreach : s.params.parkReach < s.params.parkClearance)
    (hw : NearestPoint s.params.railLength[aisleOf k] s.params.parkReach
      ((cranesOf (aisleOf k)).map (fun c => s.params.parkPos[c])) (insideRail s.params.railLength[aisleOf k] v) w) :
    consistent s [⟨10, k.val, v⟩] = some { s.params with planePos := s.params.planePos.set k w } := by
  refine consistent_place (by decide)
    ((fixLimits_unwritten _ (writes_single_id (by decide) ..) (writes_single_id (by decide) ..)).trans (Params.put_planePos ..))
    ((fixPlane_near (y := w) (writes_single_self ..) ?_ ?_).trans ?_) (fixPark_unwritten _ (writes_single_id (by decide) ..)) ?_
  · rw [get_set_same]
    exact insideRail_mem hlen v
  · rw [unwrittenParks, get_set_same]
    exact hw
  · simp
  · show s.params.parkReach < _
    rw [lt_parkClearance] at hreach ⊢
    intro j c hc
    by_cases hck : c = k
    · subst hck
      have haisle : aisleOf c = aisleOf j := (mem_cranesOf_iff ..).mp hc
      have hclear := hw.1.2.2 _ (List.mem_map_of_mem (f := fun c => s.params.parkPos[c])
        ((mem_cranesOf_iff (aisleOf c) j).mpr haisle.symm))
      rw [get_set_same, ← Int.natAbs_neg, neg_sub]
      exact hclear
    · rw [get_set_ne _ _ hck]
      exact hreach j c hc

theorem consistent_parkPos (hreach : s.params.parkReach < s.params.parkClearance)
    (hw : NearestPoint s.params.railLength[aisleOf k] s.params.parkReach
      ((cranesOf (aisleOf k)).map (fun c => s.params.planePos[c])) (insideRail s.params.railLength[aisleOf k] v) w) :
    consistent s [⟨11, k.val, v⟩] = some { s.params with parkPos := s.params.parkPos.set k w } := by
  refine consistent_place (by decide)
    ((fixLimits_unwritten _ (writes_single_id (by decide) ..) (writes_single_id (by decide) ..)).trans (Params.put_parkPos ..))
    (fixPlane_unwritten _ (writes_single_id (by decide) ..)) ((fixPark_near (y := w) (writes_single_self ..) ?_ ?_).trans ?_) ?_
  · rw [get_set_same]
    exact insideRail_mem hlen v
  · rw [get_set_same]
    exact hw
  · simp
  · show s.params.parkReach < _
    rw [lt_parkClearance] at hreach ⊢
    intro j c hc
    by_cases hjk : j = k
    · subst hjk
      rw [get_set_same]
      exact hw.1.2.2 _ (List.mem_map_of_mem (f := fun c => s.params.planePos[c]) hc)
    · rw [get_set_ne _ _ hjk]
      exact hreach j c hc

theorem consistent_planePos_none (h : ∀ z, ¬ ClearPoint s.params.railLength[aisleOf k] s.params.parkReach
      ((cranesOf (aisleOf k)).map (fun c => s.params.parkPos[c])) z) : consistent s [⟨10, k.val, v⟩] = none := by
  refine consistent_noPlace (by decide)
    ((fixLimits_unwritten _ (writes_single_id (by decide) ..) (writes_single_id (by decide) ..)).trans (Params.put_planePos ..)) ?_
  have hnone : fixPlane [⟨10, k.val, v⟩] k { s.params with
      planePos := s.params.planePos.set k (insideRail s.params.railLength[aisleOf k] v) } = none := by
    unfold fixPlane
    rw [if_pos (writes_single_self ..), Params.get_railLength]
    simp only [Params.get_parkPos]
    rw [unwrittenParks]
    refine fixNear_none ?_ h
    rw [Params.get_planePos, get_set_same]
    exact insideRail_mem hlen v
  rw [hnone]
  rfl

theorem consistent_parkPos_none (h : ∀ z, ¬ ClearPoint s.params.railLength[aisleOf k] s.params.parkReach
      ((cranesOf (aisleOf k)).map (fun c => s.params.planePos[c])) z) : consistent s [⟨11, k.val, v⟩] = none := by
  refine consistent_noPlace (by decide)
    ((fixLimits_unwritten _ (writes_single_id (by decide) ..) (writes_single_id (by decide) ..)).trans (Params.put_parkPos ..)) ?_
  rw [fixPlane_unwritten _ (writes_single_id (by decide) ..), Option.bind_some]
  unfold fixPark
  rw [if_pos (writes_single_self ..), Params.get_railLength]
  simp only [Params.get_planePos]
  refine fixNear_none ?_ h
  rw [Params.get_parkPos, get_set_same]
  exact insideRail_mem hlen v

end

end Sys2Proof.Machine
end

section
/-!
SUPPORT. CONFIGURE of one value (R169 to R171): a rail length with the limits that follow it (R108), and a channel's parameter
with the fault of its channel (R100).
-/
namespace Sys2Proof.Machine

variable {s t : State} {q : Request} {p new : Params} {id inst : Nat} {v w : Int} {k j : Crane} {a : Aisle}

/-! ### Values that take no part in the consistency pass (R169, R170) -/

/-- CONFIGURE of a value that the consistency pass neither checks nor moves, and that no other block depends on. -/
theorem configure_plain (h : s.hasRequest .c q) (hk : q.kind = .configure) (hs : s.settled) (hlen : q.body.length = 7)
    (hreach : s.params.parkReach < s.params.parkClearance) (hid : wordAt q.body 0 = id) (hat : byteAt q.body 2 = inst)
    (hinst : inst < paramInstances id) (hwing : s.wing = .loading ∨ isGeometry id = false)
    (hids : ¬ (8 ≤ id ∧ id ≤ 13) ∧ id ≠ 22 ∧ id ≠ 26 ∧ id ≠ 27)
    (hput : s.params.put id inst (clampParam id (signedAt q.body 3)) = new) (hget : new.get id inst = w)
    (hfields : new.parkReach = s.params.parkReach ∧ new.parkClearance = s.params.parkClearance
      ∧ new.pitch = s.params.pitch ∧ new.edgeMode = s.params.edgeMode ∧ new.inverted = s.params.inverted
      ∧ new.bays = s.params.bays ∧ new.levels = s.params.levels ∧ new.laneDepth = s.params.laneDepth
      ∧ new.capacity = s.params.capacity) :
    exec .configure s = .next (State.answered { s with params := new } .c q (if w = signedAt q.body 3 then .ok else .clamped)
      ([1] ++ put16 (wordAt q.body 0) ++ put8 (byteAt q.body 2) ++ putInt w)) := by
  obtain ⟨hfar, hclearance, hpitch, hedge, hinverted, hbays, hlevels, hdepth, hcap⟩ := hfields
  exact configure_single h hk hlen hid hat hinst hwing
    (consistent_single hids hput (by rw [hfar, hclearance]; exact hreach)) hget
    (takeParams_single (fun h8 => hids.1 (by omega)) ⟨hpitch, hedge, hinverted⟩ ⟨hbays, hlevels, hdepth⟩ hcap) hs

/-! ### A rail length (R108, R171, step 1) -/

/-- A position of an aisle that bounds its rail length. -/
def Params.placed (p : Params) (a : Aisle) (x : Int) : Prop :=
  ∃ k ∈ cranesOf a, x = p.stationPos[k] ∨ x = p.planePos[k] ∨ x = p.parkPos[k] ∨ x = p.tmax[k]

theorem exists_aislePlace (p : Params) (a : Aisle) (x : Int) :
    (∃ e ∈ aislePlaces a, x = p.get e.1 e.2) ↔ p.placed a x := by
  constructor
  · rintro ⟨e, he, rfl⟩
    obtain ⟨c, hc, he⟩ := (mem_aislePlaces ..).mp he
    refine ⟨c, hc, ?_⟩
    rcases he with rfl | rfl | rfl | rfl
    · exact .inl (Params.get_stationPos ..)
    · exact .inr (.inl (Params.get_planePos ..))
    · exact .inr (.inr (.inl (Params.get_parkPos ..)))
    · exact .inr (.inr (.inr (Params.get_tmax ..)))
  · rintro ⟨c, hc, rfl | rfl | rfl | rfl⟩
    · exact ⟨_, (mem_aislePlaces ..).mpr ⟨c, hc, .inl rfl⟩, (Params.get_stationPos ..).symm⟩
    · exact ⟨_, (mem_aislePlaces ..).mpr ⟨c, hc, .inr (.inl rfl)⟩, (Params.get_planePos ..).symm⟩
    · exact ⟨_, (mem_aislePlaces ..).mpr ⟨c, hc, .inr (.inr (.inl rfl))⟩, (Params.get_parkPos ..).symm⟩
    · exact ⟨_, (mem_aislePlaces ..).mpr ⟨c, hc, .inr (.inr (.inr rfl))⟩, (Params.get_tmax ..).symm⟩

theorem writes_railLength (a b : Aisle) (v : Int) : writes [⟨8, a.val, v⟩] 8 b.val = true ↔ b = a := by
  rw [writes_single, Fin.ext_iff]
  simp [eq_comm]

/-- A written rail length is raised to the largest position of its aisle (R171, step 1). -/
theorem fixLength_single (hle : p.railLength[a] ≤ w) (hall : ∀ x, p.placed a x → x ≤ w)
    (hw : w = p.railLength[a] ∨ p.placed a w) :
    fixLength [⟨8, a.val, v⟩] a p = { p with railLength := p.railLength.set a w } := by
  have hfilter : (aislePlaces a).filter (fun e => !writes [⟨8, a.val, v⟩] e.1 e.2) = aislePlaces a := by
    refine List.filter_eq_self.mpr fun e he => ?_
    have hid := (mem_boundedPlaces (List.mem_append_left _ he)).1
    rw [writes_single_id (by omega)]
    rfl
  unfold fixLength
  rw [if_pos (writes_single_self ..), hfilter, Params.put_railLength, Params.get_railLength,
    foldl_max_eq (fun e : Nat × Nat => p.get e.1 e.2) _ hle (fun e he => hall _ ((exists_aislePlace ..).mp ⟨e, he, rfl⟩))
      (hw.imp_right (exists_aislePlace ..).mpr)]

theorem consistent_railLength (hreach : s.params.parkReach < s.params.parkClearance) (hle : max 1000 (min v 200000) ≤ w)
    (hall : ∀ x, s.params.placed a x → x ≤ w) (hw : w = max 1000 (min v 200000) ∨ s.params.placed a w) :
    consistent s [⟨8, a.val, v⟩] = some { s.params with railLength := s.params.railLength.set a w } := by
  have hunwritten (id inst : Nat) (h : id ≠ 8) : writes [⟨8, a.val, v⟩] id inst = false := writes_single_id (Ne.symm h) ..
  have hpositions (b : Aisle) (p : Params) : fixPositions [⟨8, a.val, v⟩] b p = p :=
    fixPositions_unwritten p (fun i x h9 h13 => hunwritten _ _ (by omega)) b
  have hclamp : clampAll [⟨8, a.val, v⟩] s.params =
      { s.params with railLength := s.params.railLength.set a (max 1000 (min v 200000)) } := Params.put_railLength ..
  have hlength : fixLength [⟨8, a.val, v⟩] a (clampAll [⟨8, a.val, v⟩] s.params) =
      { s.params with railLength := s.params.railLength.set a w } := by
    rw [hclamp]
    refine (fixLength_single (w := w) ?_ ?_ ?_).trans ?_
    · exact (get_set_same ..).trans_le hle
    · exact hall
    · exact hw.imp_left fun h => h.trans (get_set_same ..).symm
    · simp
  refine consistent_steps ((foldl_aisles_one a (fun b hb p => ?_) _).trans ((hpositions ..).trans hlength))
    (List.foldl_fixed' (fun k => fixLimits_unwritten _ (hunwritten _ _ (by decide)) (hunwritten _ _ (by decide))) _)
    (tryCranes_fixed _ fun j => fixPlane_unwritten _ (hunwritten _ _ (by decide)))
    (tryCranes_fixed _ fun j => fixPark_unwritten _ (hunwritten _ _ (by decide)))
    (fixReach_unwritten _ (hunwritten _ _ (by decide)) (hunwritten _ _ (by decide))) hreach
    (fixGap_unwritten s _ (hunwritten _ _ (by decide)))
  rw [hpositions, fixLength_unwritten p (Bool.not_eq_true _ ▸ mt (writes_railLength ..).mp hb)]

/-- The HOME_SIDE limits of an aisle follow its new rail length (R108). -/
theorem takeParams_railLength (hw : 0 ≤ w) (hnew : new = { s.params with railLength := s.params.railLength.set a w }) :
    let t := takeParams [⟨8, a.val, v⟩] new s
    t = { s with params := new, rails := t.rails } ∧ ∀ c, t.rail c = { s.rail c with
      reservation := if aisleOf c = a then (s.rail c).reservation.resized s.params.railLength[a] w
        else (s.rail c).reservation } := by
  have hlength : new.railLength[a] = w := by
    rw [hnew]
    exact get_set_same ..
  have hlimits := boundLimits_moveLimits (l := [⟨8, a.val, v⟩]) s.params { s with params := new } fun b hb => by
    rw [(writes_railLength ..).mp hb]
    exact hw.trans_eq hlength.symm
  have htake : takeParams [⟨8, a.val, v⟩] new s =
      boundLimits [⟨8, a.val, v⟩] (moveLimits [⟨8, a.val, v⟩] s.params { s with params := new }) := by
    subst hnew
    exact takeParams_limits ⟨rfl, rfl, rfl⟩ rfl ⟨rfl, rfl, rfl⟩
  dsimp only at hlimits ⊢
  rw [htake]
  obtain ⟨hframe, hrail⟩ := hlimits
  refine ⟨hframe, fun c => (hrail c).trans ?_⟩
  by_cases hc : aisleOf c = a
  · subst hc
    rw [if_pos ((writes_railLength ..).mpr rfl), if_pos rfl]
    rw [hlength]
    rfl
  · rw [if_neg (mt (writes_railLength ..).mp hc), if_neg hc]
    rfl

/-! ### A channel's parameter (R92, R100) -/

/-- A pass over the cranes that does something at one crane alone, as long as a property of the value stands. -/
theorem foldl_allCranes_one_of {α : Type} {f : α → Crane → α} {inv : α → Prop} (k : Crane)
    (h : ∀ j, j ≠ k → ∀ x, inv x → f x j = x) {x : α} (hx : inv x) (hstep : inv (f x k)) : allCranes.foldl f x = f x k := by
  have hbefore (j : Crane) (hj : j ≠ k) : f x j = x := h j hj x hx
  have hafter (j : Crane) (hj : j ≠ k) : f (f x k) j = f x k := h j hj _ hstep
  have hcranes : ∀ c : Crane, c = 0 ∨ c = 1 ∨ c = 2 ∨ c = 3 := by decide
  simp only [allCranes, List.foldl_cons, List.foldl_nil]
  rcases hcranes k with rfl | rfl | rfl | rfl <;> simp +decide [hbefore, hafter]

/-- New values that reconfigure one channel at most. -/
theorem faultReconfigured_one {old : Params} (h : ∀ j, j ≠ k → reconfigured old s.params j = false) :
    faultReconfigured old s =
      if s.calibrated k && reconfigured old s.params k then channelFaulted k .reconfigured s else s := by
  unfold faultReconfigured forCranes
  refine foldl_allCranes_one_of (inv := fun u => u.params = s.params) k (fun j hj u hu => ?_) rfl ?_
  · dsimp only
    rw [hu, h j hj, Bool.and_false, if_neg Bool.false_ne_true]
  · dsimp only
    split
    · rw [(channelFaulted_frame ..).2.2]
    · rfl

/-- The parameters with other values of the channels' parameters alone (R170). -/
def Params.rechanneled (p new : Params) : Params :=
  { p with pitch := new.pitch, edgeMode := new.edgeMode, inverted := new.inverted, refCount := new.refCount }

/-- CONFIGURE of a channel's parameter (R100, R170). -/
theorem configure_channel (h : s.hasRequest .c q) (hk : q.kind = .configure) (hs : s.settled) (hlen : q.body.length = 7)
    (hreach : s.params.parkReach < s.params.parkClearance) (hat : byteAt q.body 2 = k.val) (hid : wordAt q.body 0 = id)
    (hrange : 16 ≤ id ∧ id ≤ 19) (hput : s.params.put id k.val (clampParam id (signedAt q.body 3)) = new)
    (hget : new.get id k.val = w) (hnew : new = s.params.rechanneled new)
    (hothers : ∀ j, j ≠ k → reconfigured s.params new j = false) :
    exec .configure s = .next ((if s.calibrated k && reconfigured s.params new k then
      channelFaulted k .reconfigured { s with params := new } else { s with params := new }).answered .c q
        (if w = signedAt q.body 3 then .ok else .clamped) ([1] ++ put16 (wordAt q.body 0) ++ put8 k.val ++ putInt w)) := by
  have hreach' : new.parkReach < new.parkClearance := by
    rw [hnew]
    exact hreach
  have hlanes : new.bays = s.params.bays ∧ new.levels = s.params.levels ∧ new.laneDepth = s.params.laneDepth := by
    rw [hnew]
    exact ⟨rfl, rfl, rfl⟩
  have hcap : s.params.capacity = new.capacity := by
    rw [hnew]
    rfl
  have hunwritten (a : Aisle) : writes [⟨id, k.val, signedAt q.body 3⟩] 8 a.val = false := writes_single_id (by omega) ..
  have hinst : k.val < paramInstances id := by
    have h4 : paramInstances id = 4 := by
      obtain ⟨hlow, hhigh⟩ := hrange
      interval_cases id <;> rfl
    rw [h4]
    exact k.isLt
  have hgeometry : isGeometry id = false := by
    unfold isGeometry
    rw [decide_eq_false (p := id ≤ 13) (by omega), Bool.and_false]
  rw [← hat]
  refine configure_single h hk hlen hid hat hinst (.inr hgeometry) (consistent_single (by omega) hput hreach') hget ?_ ?_
  · unfold takeParams moveLimits boundLimits
    dsimp only
    rw [changeLimits_unwritten hunwritten, changeLimits_unwritten hunwritten, rebuildLanes_same hlanes,
      clampFills_same hcap.le, faultReconfigured_one (k := k) hothers]
    rfl
  · split
    · exact channelFaulted_settled (s := { s with params := new }) hs k .reconfigured
    · exact hs

/-! ### Reading and writing a channel's parameters (R170) -/

theorem getElem_set_other {α : Type} {n : Nat} (l : Vector α n) (y : α) {i j : Fin n} (h : i ≠ j) : (l.set j y)[i] = l[i] :=
  Vector.getElem_set_ne _ _ fun he => h (Fin.ext he.symm)

theorem getElem?_set_this {α : Type} {n : Nat} (l : Vector α n) (y d : α) (i : Fin n) : (l.set i y)[i.val]?.getD d = y := by
  simp

section
variable (p : Params) (k : Crane) (w : Int)

theorem Params.put_firstBay (a : Aisle) : p.put 6 a.val w = { p with firstBay := p.firstBay.set a w } := by
  simp only [Params.put, setIfInBounds_val]
theorem Params.put_bayPitch (a : Aisle) : p.put 7 a.val w = { p with bayPitch := p.bayPitch.set a w } := by
  simp only [Params.put, setIfInBounds_val]
theorem Params.put_pitch : p.put 16 k.val w = { p with pitch := p.pitch.set k w.toNat } := by
  simp only [Params.put, setIfInBounds_val]
theorem Params.put_edgeMode : p.put 17 k.val w = { p with edgeMode := p.edgeMode.set k w.toNat } := by
  simp only [Params.put, setIfInBounds_val]
theorem Params.put_inverted : p.put 18 k.val w = { p with inverted := p.inverted.set k (decide (w ≠ 0)) } := by
  simp only [Params.put, setIfInBounds_val]
theorem Params.put_refCount : p.put 19 k.val w = { p with refCount := p.refCount.set k (BitVec.ofInt 32 w) } := by
  simp only [Params.put, setIfInBounds_val]
theorem Params.put_vMax : p.put 29 k.val w = { p with vMax := p.vMax.set k w.toNat } := by
  simp only [Params.put, setIfInBounds_val]

/-- A crane's natural number reads as it was written. -/
theorem instNat_set (l : Vector Nat 4) (hw : 0 ≤ w) : instNat (l.set k w.toNat) k.val = w :=
  (congrArg Nat.cast (getElem?_set_this ..)).trans (Int.toNat_of_nonneg hw)

end

end Sys2Proof.Machine

open Sys2Proof Sys2Proof.Machine

/-- Settles O50: one value of each parameter is followed through the clamps, the consistency pass and its effects. -/
theorem configureSetsParameters : Obligations.ConfigureSetsParameters := by
  unfold Obligations.ConfigureSetsParameters
  refine ⟨?plain, ?refused, ?checked, ?geometry, ?channel⟩
  case plain =>
    intro s q h hk hs hlen hreach v P taken rows
    have hrows : rows = globalIds.map (fun id => (id, (paramRange id).1, (paramRange id).2, fun w => P.put id 0 w)) := rfl
    refine ⟨?globals, fun k hid hat => ?vMax⟩
    case globals =>
      rw [hrows, List.forall_mem_map]
      intro id hmem hid hat
      obtain ⟨hone, hgeometry, hlow, -⟩ := global_table hmem
      have hids : ∀ i ∈ globalIds, ¬ (8 ≤ i ∧ i ≤ 13) ∧ i ≠ 22 ∧ i ≠ 26 ∧ i ≠ 27 := by decide
      exact configure_plain h hk hs hlen hreach hid hat (by rw [hone]; decide) (.inr hgeometry) (hids id hmem)
        (congrArg (P.put id 0) (global_clamp hmem v)) (global_get_put_self hmem _ _ (le_max_of_le_left hlow))
        (blank_fields (global_put_blank hmem ..))
    case vMax =>
      exact configure_plain h hk hs hlen hreach hid hat k.isLt (.inr rfl) (by decide) (Params.put_vMax ..)
        (instNat_set k _ _ (le_max_of_le_left (by decide))) ⟨rfl, rfl, rfl, rfl, rfl, rfl, rfl, rfl, rfl⟩
  case refused =>
    intro s q h hk hlen id inst none'
    have hnone : paramInstances id ≤ inst ↔ none' := paramInstances_le_iff ..
    refine ⟨fun hn => configure_unlisted h hk hlen (hnone.mpr hn), fun hn hopened h13 => ?_⟩
    refine configure_opened h hk hlen (not_le.mp (mt hnone.mp hn)) hopened ?_
    have h0 : id ≠ 0 := fun h0 => hn (.inl h0)
    simpa [isGeometry] using And.intro (Nat.one_le_iff_ne_zero.mpr h0) h13
  case checked =>
    intro s q w h hk hs hlen hreach v P at' taken far lowered present inRail place clear away nearest
    have htaken {id inst : Nat} {new : Params} (hat : at' id inst) (hinst : inst < paramInstances id) (h8 : id ≠ 8)
        (hwing : s.wing = .loading ∨ isGeometry id = false) (hcons : consistent s [⟨id, inst, v⟩] = some new)
        (hget : new.get id inst = w) (hchannel : new.pitch = P.pitch ∧ new.edgeMode = P.edgeMode ∧ new.inverted = P.inverted)
        (hlanes : new.bays = P.bays ∧ new.levels = P.levels ∧ new.laneDepth = P.laneDepth)
        (hcap : new.capacity = P.capacity) : taken new :=
      configure_single h hk hlen hat.1 hat.2 hinst hwing hcons hget (takeParams_single h8 hchannel hlanes hcap) hs
    have hfar (reach : Int) : far reach ↔ reach < P.parkClearance := (lt_parkClearance ..).symm
    refine ⟨?tPark, ?halfLength, ?gap, ?loading⟩
    case tPark =>
      rintro hat ⟨hlow, hhigh, hclear, hmax⟩
      simp only [hfar] at hclear hmax
      exact htaken hat (by decide) (by decide) (.inr rfl) (consistent_tPark ⟨hlow, hhigh⟩ hclear hmax) rfl
        ⟨rfl, rfl, rfl⟩ ⟨rfl, rfl, rfl⟩ rfl
    case halfLength =>
      rintro hat ⟨hlow, hhigh, hclear, hmax⟩
      simp only [hfar] at hclear hmax
      exact htaken hat (by decide) (by decide) (.inr rfl) (consistent_halfLength ⟨hlow, hhigh⟩ hclear hmax) rfl
        ⟨rfl, rfl, rfl⟩ ⟨rfl, rfl, rfl⟩ rfl
    case gap =>
      rintro c rfl hat hw
      exact htaken hat (by decide) (by decide) (.inr rfl) (consistent_gap hreach hw) rfl ⟨rfl, rfl, rfl⟩ ⟨rfl, rfl, rfl⟩ rfl
    case loading =>
      intro hload k hL
      have hclear (centre : Crane → Int) (x : Int) : clear k centre x ↔
          ClearPoint P.railLength[aisleOf k] P.parkReach ((cranesOf (aisleOf k)).map centre) x :=
        and_congr_right' (and_congr_right'
          (List.forall_mem_map (P := fun m => P.parkReach < ((x - m).natAbs : Int))).symm)
      have hnearest (centre : Crane → Int) (hn : nearest k centre) : NearestPoint P.railLength[aisleOf k] P.parkReach
          ((cranesOf (aisleOf k)).map centre) (insideRail P.railLength[aisleOf k] v) w :=
        ⟨(hclear ..).mp hn.1, fun x hx => hn.2 x ((hclear ..).mpr hx)⟩
      have hnone {centre : Crane → Int} (hn : ∀ x, ¬ clear k centre x) (x : Int) :
          ¬ ClearPoint P.railLength[aisleOf k] P.parkReach ((cranesOf (aisleOf k)).map centre) x := mt (hclear ..).mpr (hn x)
      refine ⟨fun hat hw => ?_, fun hat hw => ?_, fun hat hw => ?_, fun hat hn => ?_, fun hat hn => ?_, fun hat hn => ?_,
        fun hat hn => ?_⟩
      · exact htaken hat k.isLt (by decide) (.inl hload) (consistent_stationPos hreach hw)
          ((Params.get_stationPos ..).trans (get_set_same ..)) ⟨rfl, rfl, rfl⟩ ⟨rfl, rfl, rfl⟩ rfl
      · exact htaken hat k.isLt (by decide) (.inl hload) (consistent_tmin hreach hw)
          ((Params.get_tmin ..).trans (get_set_same ..)) ⟨rfl, rfl, rfl⟩ ⟨rfl, rfl, rfl⟩ rfl
      · exact htaken hat k.isLt (by decide) (.inl hload) (consistent_tmax hreach hw)
          ((Params.get_tmax ..).trans (get_set_same ..)) ⟨rfl, rfl, rfl⟩ ⟨rfl, rfl, rfl⟩ rfl
      · exact htaken hat k.isLt (by decide) (.inl hload) (consistent_planePos hL hreach (hnearest _ hn))
          ((Params.get_planePos ..).trans (get_set_same ..)) ⟨rfl, rfl, rfl⟩ ⟨rfl, rfl, rfl⟩ rfl
      · exact htaken hat k.isLt (by decide) (.inl hload) (consistent_parkPos hL hreach (hnearest _ hn))
          ((Params.get_parkPos ..).trans (get_set_same ..)) ⟨rfl, rfl, rfl⟩ ⟨rfl, rfl, rfl⟩ rfl
      · exact configure_unmet h hk hlen hat.1 hat.2 k.isLt hload (consistent_planePos_none hL (hnone hn))
      · exact configure_unmet h hk hlen hat.1 hat.2 k.isLt hload (consistent_parkPos_none hL (hnone hn))
  case geometry =>
    intro s q w a h hk hs hlen hreach hload v P at' takes place length
    refine ⟨?railLength, ?reserve, ?firstBay, ?bayPitch⟩
    case railLength =>
      intro hat hle hall hw
      have h0 : 0 ≤ w := le_trans (by omega) hle
      obtain ⟨hframe, hrail⟩ := takeParams_railLength (s := s) (a := a) (v := v) h0 rfl
      have hcons := consistent_railLength hreach hle hall hw
      generalize htake : takeParams [⟨8, a.val, v⟩] { P with railLength := P.railLength.set a w } s = t at hframe hrail
      refine ⟨_, configure_single h hk hlen hat.1 hat.2 a.isLt (.inl hload) hcons
        ((Params.get_railLength ..).trans (get_set_same ..)) htake ?_, ?_, fun c => (hrail c).trans ?_⟩
      · rw [hframe]
        exact hs
      · rw [hframe]
        rfl
      · refine congrArg (fun r => { s.rail c with reservation := r }) ?_
        by_cases hc : aisleOf c = a <;> cases (s.rail c).reservation <;> simp [Reservation.resized, hc, P]
    case reserve =>
      rintro hat rfl
      exact ⟨_, configure_plain (w := max 4 (min v 64)) h hk hs hlen hreach hat.1 hat.2 (by decide) (.inl hload) (by decide) rfl
        (Int.toNat_of_nonneg (le_max_of_le_left (by decide))) ⟨rfl, rfl, rfl, rfl, rfl, rfl, rfl, rfl, rfl⟩, rfl⟩
    case firstBay =>
      rintro hat rfl
      exact ⟨_, configure_plain h hk hs hlen hreach hat.1 hat.2 a.isLt (.inl hload) (by decide) (Params.put_firstBay ..)
        ((instInt_val ..).trans (get_set_same ..)) ⟨rfl, rfl, rfl, rfl, rfl, rfl, rfl, rfl, rfl⟩, rfl⟩
    case bayPitch =>
      rintro hat rfl
      exact ⟨_, configure_plain h hk hs hlen hreach hat.1 hat.2 a.isLt (.inl hload) (by decide) (Params.put_bayPitch ..)
        ((instInt_val ..).trans (get_set_same ..)) ⟨rfl, rfl, rfl, rfl, rfl, rfl, rfl, rfl, rfl⟩, rfl⟩
  case channel =>
    intro s q k w h hk hs hlen hreach hat v P answer taken
    have htaken {id : Nat} {new : Params} {same : Prop} (hid : wordAt q.body 0 = id) (hrange : 16 ≤ id ∧ id ≤ 19)
        (hput : P.put id k.val (clampParam id v) = new) (hget : new.get id k.val = w) (hnew : new = P.rechanneled new)
        (hothers : ∀ j, j ≠ k → reconfigured P new j = false) (hsame : reconfigured P new k = true ↔ ¬ same) :
        taken new same := by
      have hexec := configure_channel h hk hs hlen hreach hat hid hrange hput hget hnew hothers
      have hfault : (s.calibrated k && reconfigured P new k) = true ↔ (s.channel k).state = .calibrated ∧ ¬ same := by
        rw [Bool.and_eq_true, calibrated_iff, hsame]
      refine ⟨fun hor => ?_, fun sp hres hne hcal hready => ?_⟩
      · rw [if_neg (by rw [hfault]; tauto)] at hexec
        exact hexec
      · rw [if_pos (hfault.mpr ⟨hcal, hne⟩)] at hexec
        have hfaults := channelFaulted_faults (s := { s with params := new }) hready hres .reconfigured
        generalize channelFaulted k .reconfigured { s with params := new } = t at hfaults hexec
        refine ⟨_, hexec, hfaults.channel, hfaults.rail.trans ?_, hfaults.others, hfaults.stopLine, hfaults.source, ?_⟩
        · rw [homeSideFrom_eq, hnew]
          rfl
        · rw [hfaults.frame, hfaults.portC]
          rfl
    refine ⟨fun hid hw => ?pitch, fun hid hw => ?edgeMode, fun hid hw => ?inverted, fun hid hw => ?refCount⟩
    case pitch =>
      have h0 : 0 ≤ w := by omega
      refine htaken hid (by decide) ((Params.put_pitch ..).trans (by rw [hw]; rfl)) (instNat_set k w _ h0) rfl
        (fun j hj => by simp [reconfigured, getElem_set_other _ _ hj]) ?_
      exact Iff.trans (b := P.pitch[k] ≠ w.toNat) (by simp [reconfigured]) (by omega)
    case edgeMode =>
      have h0 : 0 ≤ w := by omega
      refine htaken hid (by decide) ((Params.put_edgeMode ..).trans (by rw [hw]; rfl)) (instNat_set k w _ h0) rfl
        (fun j hj => by simp [reconfigured, getElem_set_other _ _ hj]) ?_
      exact Iff.trans (b := P.edgeMode[k] ≠ w.toNat) (by simp [reconfigured]) (by omega)
    case inverted =>
      have h01 : w = 0 ∨ w = 1 := by omega
      have hone : decide (w ≠ 0) = decide (w = 1) := by rcases h01 with rfl | rfl <;> rfl
      refine htaken hid (by decide) ((Params.put_inverted ..).trans (by rw [← hone, hw]; rfl)) ?_ rfl
        (fun j hj => by simp [reconfigured, getElem_set_other _ _ hj]) ?_
      · show (if (P.inverted.set k (decide (w = 1)))[k.val]?.getD false = true then (1 : Int) else 0) = w
        rw [getElem?_set_this]
        rcases h01 with rfl | rfl <;> rfl
      · rcases h01 with rfl | rfl <;> simp [reconfigured]
    case refCount =>
      subst hw
      refine htaken hid (by decide) (Params.put_refCount ..) ?_ rfl (fun j hj => by simp [reconfigured]) (by simp [reconfigured])
      show ((P.refCount.set k (BitVec.ofInt 32 v))[k.val]?.getD 0).toInt = v
      rw [getElem?_set_this]
      exact congrArg BitVec.toInt (BitVec.ofInt_toInt ..)

end
